-- ==== Sys2Proof/Word.lean ====
section
/-! DEFINITION. The words of the BLS-9640's interfaces: bytes, U16 result and event codes, tick stamps. -/

namespace Sys2Proof

/-- One byte as carried on the bus, on the air and in MRAM. -/
abbrev Byte := BitVec 8

/-- A byte string: a dictionary value, a packet, a message or a record (R449). -/
abbrev Bytes := List Byte

/-- A U16 result or event code (R8). -/
abbrev Code := BitVec 16

/-- The value of a tick stamp: bits [47:0] of a U64 (R34, R449). -/
abbrev Tick := Nat

/-- The 48-bit tick counter wraps here (R34). -/
def tickModulus : Nat := 2 ^ 48

/-- Ticks in one millisecond: a tick is 25 µs (R34). -/
def ticksPerMs : Nat := 40

/-- Ticks in one second (R34). -/
def ticksPerSecond : Nat := 40000

end Sys2Proof
end

