-- ==== Sys2Proof/Syntax.lean ====
section
/-! DEFINITION. The commands of the BLS-9640: one constructor of `Instr` for each row of spec/opcode_table.json, and
the operand types they carry. The table gives a row no bits and no operands, so an operand is what the rule of the
row takes from outside the controller: a written value, a received message, a measured quantity. -/

namespace Sys2Proof

/-- The two CAN ports (R332): CAN-V and CAN-P. -/
inductive Port where | v | p
  deriving DecidableEq, Repr

/-- The two USDO servers (R351). -/
inductive Srv where | one | two
  deriving DecidableEq, Repr

/-- The way a host access came in: the port it arrived on and the USDO server that holds it (R351, R355). -/
structure Via where
  port : Port
  srv : Srv
  deriving DecidableEq, Repr

/-- The twelve power domains, in index order (table Domains, R404). -/
inductive Domain where | aon | fld | core | sec | rns | lfa | rfx | hfr | canv | canp | brg | ept
  deriving DecidableEq, Repr

/-- The eleven step engines, in table order (R45). -/
inductive Engine where | lf | rf | hf | kt | aes | sig | rng | can | brg | nvm | cpu
  deriving DecidableEq, Repr

/-- The labels of the table Derivation labels (R272). -/
inductive Label where
  | mramKey | wrap | fwImg | jImport | fleet | badge | badge7100 | sync | round | sess | tone | vehicle | vex | reader | ksess
  deriving DecidableEq, Repr

/-- The parent a derivation names: a root slot or a key register of the caller (R265, R271). -/
inductive Parent where
  | root (slot : Nat)
  | register (reg : Nat)
  deriving DecidableEq, Repr

/-- What a step begins on its engine while it runs (R45, R47): the parts of STEP_EXECUTION that have rules of their own. What a step of
an approach, a badge, a receipt or a cipher job begins on LF, RF, SIG, AES or CAN follows from its session and is no operand. -/
inductive OpStart where
  /-- Nothing with a rule of its own. -/
  | none
  /-- A COMMAND frame on an electrode's pair (R77). -/
  | lfCommand (electrode : Nat) (payload : Bytes)
  /-- A GCM seal under a key register with an IV (R274). -/
  | seal (reg : Nat) (iv : Bytes)
  /-- A key derivation (R271 to R273). -/
  | derive (label : Label) (parent : Parent) (context : Bytes)
  /-- A lookup of a credential in the cache (R55, R56). -/
  | lookup (index : Nat)
  /-- A strict or stretch random request of an instance 1 to 16 (R323, R324). -/
  | random (inst : Nat)
  /-- A posted write over the bridge (R366). -/
  | postedWrite (addr : Nat) (data : Bytes)
  /-- A bridge read (R365). -/
  | bridgeRead (addr len : Nat)
  deriving DecidableEq, Repr

/-- What becomes of a session when one of its steps has finished (R42; log entry 37). -/
inductive StepNext where
  /-- The next step is ready for an engine, with the tick it names if its class is 1 (R49). -/
  | ready (engine : Engine) (named : Option Nat)
  /-- An engine operation started by the step is in progress (R47). -/
  | operation
  /-- The session waits for the air, the bus, the bridge or another session. -/
  | event
  /-- The session asks for further clods (R53). -/
  | clods (n : Nat)
  /-- The session commits its outcome (R42). -/
  | close (result : Code)
  deriving DecidableEq, Repr

/-- What the body of a tick did to the step of one slot (R45, R46). -/
structure StepWork where
  slot : Nat
  /-- The step finished within its 20 µs of engine time. -/
  finished : Bool
  start : OpStart
  next : StepNext
  deriving DecidableEq, Repr

/-- What one frame tick takes from outside: the levels at the feedback lands, the supplies, the die temperature and CXGNT as the
operations that start in it measure them, whether the LF frame on the air ends in it, and the work the engines did (R35, R92, R134, R141,
R143, R147, R181; log entry 37). -/
structure TickIn where
  lkfba : Bool
  lkfbb : Bool
  vlfMv : Nat
  vdd3Mv : Nat
  tempDeci : Int
  /-- The level of the wire CXGNT after its pulse filter (R146). -/
  cxgnt : Bool
  /-- The last carrier cycle of an LF frame falls in this tick (R74, R76). -/
  lfFrameEnd : Bool
  work : List StepWork
  deriving DecidableEq, Repr

/-- What an abort completes for: a function of the table Abort entries, or a slot (R61, R63). -/
inductive AbortTarget where
  | fn (sub : Nat)
  | slot (n : Nat)
  deriving DecidableEq, Repr

/-- What one channel showed in one frame or burst of an LF operation (R72, R73, R88, R93): the settled 4-bit code, the on-time, and for
each carrier-on period the changes of frequency in Hz that the phase detector asked for, cycle by cycle. -/
structure LfMeasure where
  ch : Nat
  code : BitVec 4
  onUs : Nat
  periods : List (List Int)
  deriving DecidableEq, Repr

/-- Tracking clamped at a window edge (R89): the carrier cycle from which it was, and the one at which the phase came within its limit. -/
structure LfClamp where
  first : Nat
  cycle : Nat
  deriving DecidableEq, Repr

/-- A comparator trip (R91): the channel, and what the operation had driven up to it. -/
structure LfTrip where
  ch : Nat
  driven : List LfMeasure
  deriving DecidableEq, Repr

/-- VLF out of its limits (R92): in mV, and what the operation had driven up to then. -/
structure LfSupplyLoss where
  vlfMv : Nat
  driven : List LfMeasure
  deriving DecidableEq, Repr

/-- What a calibration's end brings beside its outcome (R86, R93): the die temperature in 0.1 °C and the on-time. -/
structure CalReading where
  tempDeci : Int
  onUs : Nat
  deriving DecidableEq, Repr

/-- The end of a channel's resonance calibration (R86). -/
inductive LfCal where
  | found (hz : Nat)
  | noZeroPhase
  | codeZero
  deriving DecidableEq, Repr

/-- How the receiver took a packet (R130, R131, R159): the correlation quality and the RSSI in 0.1 dBm measured on each antenna port during
the preamble, and the gain step it settled on. -/
structure Reception where
  qualityA : Nat
  qualityB : Nat
  rssiA : Int
  rssiB : Int
  gain : Nat
  deriving DecidableEq, Repr

/-- One decoded answer of a round: its slot, whether it is a LANSWER, its four payload bytes, and how it was received (R108, R118). -/
structure Answer where
  slot : Nat
  legacy : Bool
  payload : Bytes
  rx : Reception
  deriving DecidableEq, Repr

/-- What a round heard beside its valid answers (R108, R152): slots with a collision, packets with a wrong CRC. -/
structure RoundNoise where
  collided : Nat
  crcFailures : Nat
  deriving DecidableEq, Repr

/-- A report packet: how it was received, and its payload (R105, R114). -/
structure ReportPacket where
  rx : Reception
  payload : Bytes
  deriving DecidableEq, Repr

/-- A reply window that closed without a valid reply (R119, R152): the slot, and whether a packet with a wrong CRC came in it. -/
structure MissedReply where
  slot : Nat
  crcFailed : Bool
  deriving DecidableEq, Repr

/-- The background calibrations, in table order (R144). -/
inductive BgCal where | dcOffset | iqImage | rssiOffset | paDetector
  deriving DecidableEq, Repr

/-- The values a background calibration finds (R128, R141, R144): the image rejection in dB with the gain and phase correction, and the offset
of the PA detector in 0.1 dB. -/
structure BgFound where
  imageDb : Nat
  gain : Int
  phase : Int
  paOffset : Int
  deriving DecidableEq, Repr

/-- How a raw command ends (table Raw commands, R149, R150). -/
inductive RawEnd where
  | done
  /-- No lock within 8 µs of the start of its body (R150). -/
  | noLock
  /-- What RX received: valid packets, CRC failures, and the last valid packet's payload and RSSI in 0.1 dBm. -/
  | received (packets crcFailures : Nat) (last : Bytes) (rssi : Int)
  | scanned (rssi : Bytes)
  | captured (samples : Bytes)
  deriving DecidableEq, Repr

/-- What the receiver saw at one position of a sweep (R160): the lock sample at 5 µs, and the 96 native samples I and Q of 16 to 22 µs. -/
structure Tone where
  locked : Bool
  samples : List (Int × Int)
  deriving DecidableEq, Repr

/-- One received probe echo (R130, R163). -/
structure ProbeEcho where
  rssi : Int
  crcOk : Bool
  handle : Nat
  payload : Bytes
  deriving DecidableEq, Repr

/-- The carriers of an exchange: one USDO server's pair, or the PDO pair (R191, R192, R196). -/
inductive Carrier where
  | usdo (srv : Srv)
  | pdo
  deriving DecidableEq, Repr

/-- The two feedback lands (R181). -/
inductive Land where | lkfba | lkfbb
  deriving DecidableEq, Repr

/-- Why an input is masked (R204, R415). -/
inductive MaskCause where | stuck | rate
  deriving DecidableEq, Repr

/-- What a 14443 frame exchange of the walk drew (R219 to R222). -/
inductive HfReply where
  /-- REQA drew no ATQA. -/
  | noAtqa
  /-- REQA drew an ATQA. -/
  | atqa
  /-- An anticollision answer without collision, as UID bits in order of transmission. -/
  | bits (answer : List Bool)
  /-- An anticollision answer with its first collided position; `answer` holds the bits before it. -/
  | collision (answer : List Bool)
  /-- A SAK. -/
  | sak (value : Byte)
  /-- RATS and PPS done: TA(1) and the FWI of the tag's ATS. -/
  | activated (ta : Byte) (fwi : Nat)
  /-- SELECT of the module application succeeded. -/
  | selected
  /-- READ ORIGIN returned the record and the origin signature. -/
  | origin (record signature : Bytes)
  /-- S(DESELECT) or HLTA done. -/
  | halted
  /-- The application answered with a status other than 90 00. -/
  | refused
  /-- No answer, or one that fails its CRC, parity or timing. -/
  | failed
  deriving DecidableEq, Repr

/-- What Kaolin's power path measures as a command begins (R238): P in 0.1 mW and the reservoir in µJ. -/
structure Harvest where
  power : Nat
  reservoir : Nat
  deriving DecidableEq, Repr

/-- A Kaolin command as received: whether under secure messaging, its data (then ciphertext followed by the tag; R244, R249), and the power
measured as it begins. -/
structure Apdu where
  sm : Bool
  data : Bytes
  harvest : Harvest
  deriving DecidableEq, Repr

/-- P1 and P2 of a Kaolin command (R244). -/
structure ApduParams where
  p1 : Byte
  p2 : Byte
  deriving DecidableEq, Repr

/-- CLA and INS of a Kaolin command (R244). -/
structure ApduHeader where
  cla : Byte
  ins : Byte
  deriving DecidableEq, Repr

/-- A reader activates Kaolin (R235): the power measured, and the rate PPS settled on (0 for 106, 1 for 212 kbit/s). -/
structure Activation where
  harvest : Harvest
  rate : Nat
  deriving DecidableEq, Repr

/-- The two-copy records of Kaolin (R255, R256). -/
inductive KaolinRecord where
  | file (fid : Nat)
  | pinTries
  | failures (entry : Nat)
  | carry
  | logEntry (entry : Nat)
  deriving DecidableEq, Repr

/-- A record whose copies differ or are damaged when FLD powers up: one copy, or both of them bad (R255, R256). -/
structure Torn where
  record : KaolinRecord
  both : Bool
  deriving DecidableEq, Repr

/-- The two Grit cells (R319). -/
inductive Cell where | a | b
  deriving DecidableEq, Repr

/-- The two health tests (R320). -/
inductive HealthTest where | rct | apt
  deriving DecidableEq, Repr

/-- What a port in standby detected (R337). -/
inductive WakePattern where
  | wup
  | wuf (id dlc : Nat) (data : Bytes)
  | errorCount
  deriving DecidableEq, Repr

/-- The packet a NAK names: a transaction tag or a stream sequence number (R363). -/
inductive SahunPacket where
  | tagged (tag : Nat)
  | stream (seq : Nat)
  deriving DecidableEq, Repr

/-- A snapshot of the Eptan accumulators (R383); energies in µWh. -/
structure Snapshot where
  epoch : Nat
  charge : Nat
  discharge : Nat
  tick : Nat
  deriving DecidableEq, Repr

/-- The supplies with a reset threshold (R424). -/
inductive Rail where | vbat | vdd3 | vio
  deriving DecidableEq, Repr

/-- The detectors of the table Safety mechanisms, codes 0x01 to 0x0E (R431). -/
inductive Detector where
  | lockstep | ecc | mram | aes | signature | evaluators | watchdog | supply | clock | shield | glitch | temperature | selfTest | fwDigest
  deriving DecidableEq, Repr

/-- The fault classes (R431). -/
inductive FaultClass where | a | b | c | d | e
  deriving DecidableEq, Repr

/-- The key region items (R487). -/
inductive KeyItem where | deviceRoot | transportRoot | ownerRoot | imageRoot | identityKey | uidSigV | seedCarry
  deriving DecidableEq, Repr

/-- A trip of a tamper detector (R436). -/
inductive Tamper where
  | shield
  | glitch
  | clock
  | temperature
  | keyStore (item : KeyItem)
  deriving DecidableEq, Repr

/-- The kinds of start-up, codes 0x01 to 0x08 (R425). -/
inductive StartKind where | cold | supply | pin | watchdog | fault | activation | wake | nmt
  deriving DecidableEq, Repr

/-- What a start-up sequence finds (R427): measured durations, self-test outcomes, the state of the stored copies. -/
structure StartIn where
  durationUs : Nat
  /-- Step 2: the reference started within 20 ms. -/
  referenceOk : Bool
  /-- Step 4: SRAM, ECC and lockstep self-test (R430). -/
  selfTestOk : Bool
  /-- Step 5: key region items with both copies bad (R436, R487). -/
  badItems : List KeyItem
  /-- Step 5: persistent entries (index × 256 + sub-index) with both copies bad (R451). -/
  badEntries : List Nat
  /-- Step 6: the cipher engine's and SHE's self-tests (R298, R307). -/
  cipherOk : Bool
  sheOk : Bool
  /-- Step 7: the active bank's digest matches, and the fallback bank's (R318). -/
  digestOk : Bool
  fallbackOk : Bool
  /-- Step 8: the SEQ of the first broken link among the last 64 records (R398). -/
  brokenSeq : Option Nat
  /-- The first filtered level of SVPANEL at CORE ready (R206). -/
  panelOpen : Bool
  deriving DecidableEq, Repr

/-- The domain whose move ends, and what it finds as it comes on: for RFX from off, whether the chain tables hold against their check value
(R167); for CORE from retention, the first filtered level of SVPANEL (R206). -/
structure PowerUp where
  dom : Domain
  chainsHold : Bool
  panelOpen : Bool
  deriving DecidableEq, Repr

/-- The commands: one constructor per row of spec/opcode_table.json, in the table's order. -/
inductive Instr where
  /-- FRAME_TICK (R35). Each 25 µs frame tick runs its head (snapshot, readiness, dispatch), body (engine steps) and tail (double-check, commit, logging). -/
  | frameTick (i : TickIn)
  /-- STEP_TIMEOUT (R46). A step unfinished at the end of its fourth body ends its session with STEP_TIMEOUT at that commit. -/
  | stepTimeout (slot : Nat)
  /-- DEADLINE_MISSED (R49). A class 1 step not dispatched in its named tick gets the step outcome DEADLINE_MISSED and is retried as a missing reply. -/
  | deadlineMissed (slot : Nat)
  /-- DEADLINE_LATE (R49). A class 0 or class 2 step dispatched after its deadline still runs and the event DEADLINE_LATE is logged. -/
  | deadlineLate (slot : Nat)
  /-- TICK_HIGH_WATER_UPDATE (R34). When the tick counter reaches H minus 4,096, the controller writes H = counter + 8,192 to both MRAM copies. -/
  | tickHighWaterUpdate
  /-- SESSION_ADMITTED (R43). A waiting session request passes mode, kind limit, radio gate, watermark and resource checks and is granted a slot and its initial clods. -/
  | sessionAdmitted
  /-- ADMISSION_TIMEOUT (R43). A waiting session request not admitted within its kind's admission timeout fails with NO_RESOURCE. -/
  | admissionTimeout
  /-- CLOD_GRANTED (R53). A session waiting for clods is granted them once clods are freed. -/
  | clodGranted (slot : Nat)
  /-- CLOD_WAIT_TIMEOUT (R53). A session still without requested clods after 8 ticks ends with NO_RESOURCE. -/
  | clodWaitTimeout (slot : Nat)
  /-- CREDENTIAL_PAGE_IN_DONE (R56). A credential page-in on NVM completes and the record is committed into the cache for the requesting slot. -/
  | credentialPageInDone (index : Nat)
  /-- ENGINE_OPERATION_END (R47). An engine operation started by a session completes and its result is committed in the tail of that tick. -/
  | engineOperationEnd (slot : Nat) (result : Code)
  /-- ABORT_REQUEST (R62). Writing 0x01 to a sub-index of 0x2110 asserts the function's local reset and marks its sessions ABORTING. -/
  | abortRequest (via : Via) (fn : Nat) (value : Bytes)
  /-- ABORT_COMPLETION (R62). By the tail of A+4 the aborted function is idle, affected sessions commit ABORTED and the result is written to 0x2112. -/
  | abortCompletion (target : AbortTarget) (idle : Bool)
  /-- SESSION_ABORT (R63). Writing 0x01 to 0x2111:nn aborts the session in slot nn, and its children for an APPROACH. -/
  | sessionAbort (via : Via) (slot : Nat) (value : Bytes)
  /-- DICTIONARY_WRITE (R450). A write to an entry without a row of its own passes the checks of R450 in order and is committed and stored persistently if class rw or sw. -/
  | dictionaryWrite (via : Via) (idx sub : Nat) (value : Bytes)
  /-- MODE_REQUEST (R12). A write to 0x2001:01 under an envelope requests a mode change, checked in order and answered PENDING or with the first failure. -/
  | modeRequest (via : Via) (value : Bytes)
  /-- DEPOT_REQUEST (R11). A write of 0x05 or 0x06 to 0x2001:03 requests BOUND to DEPOT or DEPOT to BOUND without an envelope. -/
  | depotRequest (via : Via) (value : Bytes)
  /-- MODE_COMMIT (R13). After the two-copy mode record and any zeroisation are written and verified, the new mode takes effect at a commit and OK is reported. -/
  | modeCommit
  /-- SERVICE_EXIT (R19). When SVPANEL has reported closed for the exit delay, the controller closes the latch, clears arming and returns to DEPOT. -/
  | serviceExit
  /-- SERVICE_OVERRUN (R19). At the end of each whole maximum-duration period in SERVICE, a panel that is open or masked logs SERVICE_OVERRUN. -/
  | serviceOverrun
  /-- ENVELOPE_WRITE (R27). A sealed-write envelope written to 0x2020:01 is checked for layout, signer, nonce, binding and signature and, if accepted, replaces any earlier one. -/
  | envelopeWrite (via : Via) (value : Bytes)
  /-- ENVELOPE_CANCEL (R28). Writing TRUE to 0x2020:06 ends the active envelope and draws a fresh nonce. -/
  | envelopeCancel (via : Via) (value : Bytes)
  /-- ENVELOPE_EXPIRY (R28). When an envelope's lifetime runs out, its items lapse, a fresh nonce is drawn and sw writes fail with ENVELOPE_EXPIRED. -/
  | envelopeExpiry
  /-- PUBLIC_KEY_WRITE (R305). A write of an owner, lessor, site or origin public key is checked for canonical encoding and small order, or erases the key where allowed. -/
  | publicKeyWrite (via : Via) (idx sub : Nat) (value : Bytes)
  /-- LF_OPERATION_END (R83). An LF operation ends and its result, with settled current and frequency of each burst, is committed and budgets corrected. -/
  | lfOperationEnd (vlfMv : Nat) (driven : List LfMeasure)
  /-- LF_DETUNED (R89). Tracking clamped at a window edge lowers the current target until phase is reached, setting a ceiling or ending the operation with LF_DETUNE_LIMIT. -/
  | lfDetuned (ch : Nat) (clamp : LfClamp) (driven : List LfMeasure)
  /-- LF_OVERCURRENT (R91). A channel's comparator trips at 2.4 A, the channel is clamped low and the operation ends with LF_OVERCURRENT. -/
  | lfOvercurrent (trip : LfTrip)
  /-- LF_SUPPLY_FAULT (R92). VLF outside 7.0–34.0 V during an operation damps the drive and ends the operation with LF_SUPPLY. -/
  | lfSupplyFault (loss : LfSupplyLoss)
  /-- LF_CALIBRATE (R87). Writing a channel mask to 0x2220:00 commands resonance calibration of those channels. -/
  | lfCalibrate (via : Via) (value : Bytes)
  /-- LF_CALIBRATION_START (R87). A commanded or scheduled calibration starts on a channel once the LF engine is free. -/
  | lfCalibrationStart
  /-- LF_CALIBRATION_END (R86). Calibration of a channel completes, storing its frequency and temperature or entering a fault state. -/
  | lfCalibrationEnd (ch : Nat) (outcome : LfCal) (reading : CalReading)
  /-- LF_FAULT_CLEAR (R94). Writing 0x01 to 0x2203 for a faulted channel returns it to UNCALIBRATED and logs LF_FAULT_CLEARED. -/
  | lfFaultClear (via : Via) (sub : Nat) (value : Bytes)
  /-- LF_CHANNEL_ENABLE_WRITE (R94). A write to the enable mask at 0x2201:00 disables channels or returns them to their earlier state. -/
  | lfChannelEnableWrite (via : Via) (value : Bytes)
  /-- LF_NOMINAL_FREQUENCY_WRITE (R95). A write to 0x2200:01 returns every enabled channel to UNCALIBRATED and resets every ceiling to 15. -/
  | lfNominalFrequencyWrite (via : Via) (value : Bytes)
  /-- TOUCH_EVENT (R101). A committed touch on an electrode requests an APPROACH, a credential test, or is absorbed as TOUCH_IGNORED according to mode and arming. -/
  | touchEvent (electrode : Nat)
  /-- HOST_APPROACH_REQUEST (R101). Writing 0x01 to 0x2310:00 is treated as a touch on the electrode set at 0x2310:01. -/
  | hostApproachRequest (via : Via) (value : Bytes)
  /-- ROUND_END (R108). The slotted round closes; the controller decodes answers, computes handles, counts collisions and requests one BADGE child per answer. -/
  | roundEnd (slot : Nat) (answers : List Answer) (noise : RoundNoise)
  /-- BADGE_RESPONSE (R111). A RESPONSE from a BLB-200 badge is checked in order and, on success, answered with CONFIRM. -/
  | badgeResponse (slot : Nat) (rx : Reception) (payload : Bytes)
  /-- LRESPONSE (R118). An LRESPONSE from a forerunner badge is checked with MAC and counter and, on success, answered with LCONFIRM. -/
  | lresponse (slot : Nat) (rx : Reception) (payload : Bytes)
  /-- VREPORT (R114). A VREPORT or LVREPORT from a confirmed badge is opened and its vector measurements checked against K. -/
  | vreport (slot : Nat) (report : ReportPacket)
  /-- BADGE_REPLY_MISSING (R119). A missing RESPONSE or VREPORT causes the identical packet to be resent, or the BADGE session to end with TIMEOUT once retries are used. -/
  | badgeReplyMissing (missed : MissedReply)
  /-- BADGE_SESSION_TIMEOUT (R119). A BADGE session reaching its limit from admission ends with TIMEOUT. -/
  | badgeSessionTimeout (slot : Nat)
  /-- APPROACH_TIMEOUT (R119). An APPROACH reaching its limit ends with APPROACH_TIMEOUT and its children with PARENT_ENDED. -/
  | approachTimeout (slot : Nat)
  /-- SYNTH_CALIBRATE (R136). Writing TRUE to 0x2420:00 commands a full synthesiser calibration at the first tick with no RF operation in progress. -/
  | synthCalibrate (via : Via) (value : Bytes)
  /-- RF_TEMPERATURE_CHECK (R134). Every second while RFX is on, die temperature is read and a calibration made due if it moved more than 10 °C. -/
  | rfTemperatureCheck (tempDeci : Int)
  /-- SYNTH_CAL_START (R135). A postponed calibration starts in the first tick whose head sees the radio not in use. -/
  | synthCalStart
  /-- RF_SYNTH_CAL_OVERDUE (R135). 500 ms after the due tick with the radio still in use, the radio admission gate closes and the event is logged. -/
  | rfSynthCalOverdue
  /-- SYNTH_CAL_END (R137). A synthiser calibration completes, logging RF_SYNTH_CALIBRATED and reopening the gate, or failing and marking the radio FAILED. -/
  | synthCalEnd (subBands : List (Option (Nat × Nat))) (tempDeci : Int)
  /-- RF_CAL_RETRY (R137). Every 10 s while the radio is FAILED, the calibration is retried automatically. -/
  | rfCalRetry
  /-- RF_TX_DEFERRED (R138). A transmission not locked at its sample is deferred and goes at the first later tick whose sample shows lock. -/
  | rfTxDeferred (slot : Nat)
  /-- RF_LOCK_FAIL (R138). After 8 deferred ticks without lock the step fails with RF_LOCK_FAIL. -/
  | rfLockFail (slot : Nat)
  /-- BACKGROUND_CAL (R145). A due background calibration runs in a qualifying radio gap, keeping previous values and logging RF_BG_CAL_FAIL if it fails. -/
  | backgroundCal (which : BgCal) (passed : Bool) (tempDeci : Int) (found : BgFound)
  /-- CXGNT_WITHDRAWN (R147). A grant withdrawn during a transmission or sweep ramps the PA down within 2 µs and ends it with RF_COEX_DENIED. -/
  | cxgntWithdrawn
  /-- RF_COEX_STUCK (R148). CXGNT withholding the grant for more than 2 s is masked as stuck and the medium treated as granted. -/
  | rfCoexStuck
  /-- RF_COEX_REARMED (R148). A masked CXGNT is re-armed once seen granting or when its rate mask ends. -/
  | rfCoexRearmed
  /-- RAW_STOP (R151). Raw command STOP ends the active raw command according to the radio state. -/
  | rawStop (via : Via)
  /-- RAW_TX_CW (R149). Raw command TX_CW transmits unmodulated carrier for the set duration. -/
  | rawTxCw (via : Via)
  /-- RAW_TX_PRBS (R149). Raw command TX_PRBS transmits continuous GFSK of a PRBS9 sequence for the set duration. -/
  | rawTxPrbs (via : Via)
  /-- RAW_TX_PACKET (R149). Raw command TX_PACKET transmits the set payload the set number of times at the set interval. -/
  | rawTxPacket (via : Via)
  /-- RAW_RX (R149). Raw command RX receives valid raw packets for the set duration and counts packets and CRC failures. -/
  | rawRx (via : Via)
  /-- RAW_SCAN (R149). Raw command SCAN measures RSSI on channels 0 to 78 in order. -/
  | rawScan (via : Via)
  /-- RAW_CAPTURE (R149). Raw command CAPTURE stores 4,096 native I/Q sample pairs at 0x2441:00. -/
  | rawCapture (via : Via)
  /-- RAW_COMMAND_END (R149). A raw command reaches its end and writes its result to 0x2451:01. -/
  | rawCommandEnd (outcome : RawEnd)
  /-- TONE_MASK_WRITE (R156). A write to 0x2501:00 sets the tone mask or is refused with TONE_MASK_INVALID. -/
  | toneMaskWrite (via : Via) (value : Bytes)
  /-- SWEEP_END (R161). A 72-tone sweep ends and the engine computes d_phase, the split-half distances and the residual. -/
  | sweepEnd (slot : Nat) (tones : List Tone)
  /-- PROBE_EXCHANGE_END (R163). The eight-probe exchange ends and the engine computes RT, d_time and the excess latency from the valid probes. -/
  | probeExchangeEnd (slot : Nat) (echoes : List (Option ProbeEcho)) (gaps : List Nat)
  /-- FUSION (R165). Once sweep, probes, vectors and VREPORT are visible, the fusion step applies the rule in order and commits the first verdict. -/
  | fusion (slot : Nat)
  /-- VEHICLE_REQUEST (R193). A REQUEST admits a RELEASE session that checks it in order and answers with a CHALLENGE or a REFUSAL. -/
  | vehicleRequest (port : Port) (carrier : Carrier) (msg : Bytes)
  /-- VEHICLE_RESPONSE (R195). A RESPONSE on a carrier awaiting one is checked for length, header, tag or signature and plaintext OP. -/
  | vehicleResponse (port : Port) (carrier : Carrier) (msg : Bytes)
  /-- VEHICLE_RESPONSE_TIMEOUT (R194). No matching RESPONSE within the response limit ends the session with TIMEOUT and discards CV. -/
  | vehicleResponseTimeout (carrier : Carrier)
  /-- HVIL_WITHDRAWAL (R202). An HVIL-open event committed while released withdraws the lock at the next commit, logging LOCK_OFF with cause HVIL. -/
  | hvilWithdrawal
  /-- READBACK_MISMATCH (R182). A feedback disagreement persisting beyond the settle time logs LOCK_STUCK_ON or LOCK_FEEDBACK_LOST and sets the mismatch bit. -/
  | readbackMismatch (land : Land)
  /-- LATCH_PULL_IN_END (R203). After the pull-in time SVLATCH changes from full drive to the 20 kHz hold duty. -/
  | latchPullInEnd
  /-- SVPANEL_OPEN_EDGE (R206). A filtered open edge of SVPANEL, or an open first level at CORE ready, is evaluated as a forced panel where the latch is de-energised. -/
  | svpanelOpenEdge
  /-- PANEL_MASKED (R204). SVPANEL open beyond 2 s outside SERVICE, or eight opens within 1 s, masks the input. -/
  | panelMasked (cause : MaskCause)
  /-- PANEL_REARMED (R204). A masked SVPANEL is re-armed after being seen closed or when its rate mask ends. -/
  | panelRearmed
  /-- INVENTORY_READ (R223). Purpose READ written to 0x2710:01 starts a walk that reads and verifies tags without binding. -/
  | inventoryRead (via : Via)
  /-- INVENTORY_BIND (R223). Purpose BIND written to 0x2710:01 starts a walk that forms a candidate set for binding. -/
  | inventoryBind (via : Via)
  /-- INVENTORY_CHECK (R223). Purpose CHECK written to 0x2710:01 starts a walk that compares found tags with the binding table. -/
  | inventoryCheck (via : Via)
  /-- PERIODIC_CHECK (R223). Every check interval the controller itself requests a CHECK of all enabled loops, skipped if a walk is in flight. -/
  | periodicCheck
  /-- LOOP_FIELD_ON (R214). After the settle time and field-on guard on a selected loop, the driver current is checked and the walk begins or the loop is skipped. -/
  | loopFieldOn (vhfMv driverPercent : Nat)
  /-- HF_FRAME_EXCHANGE_END (R219). A 14443 frame exchange of the walk ends and the walk procedure advances its anticollision stack, selection or tag read. -/
  | hfFrameExchangeEnd (reply : HfReply)
  /-- ORIGIN_VERIFY_END (R218). A module origin signature verification on SIG completes and sets the tag's state. -/
  | originVerifyEnd (entry : Nat)
  /-- INVENTORY_TIMEOUT (R231). A walk not complete within the walk limit ends with INVENTORY_TIMEOUT. -/
  | inventoryTimeout
  /-- BINDING_COMMIT (R229). Writing the candidate digest to 0x2712:03 under an owner envelope replaces the bindings of the walk's loops. -/
  | bindingCommit (via : Via) (value : Bytes)
  /-- KAOLIN_FIELD_POWER_UP (R238). Harvested power reaching 8 mW for 2 ms with the rail at 3.0 V makes Kaolin ready to answer REQA. -/
  | kaolinFieldPowerUp (power reservoir : Nat) (torn : List Torn)
  /-- KAOLIN_DROP_OUT (R238). Harvested power below 7 mW for 1 ms stops Kaolin, loses secured state and discards staged writes. -/
  | kaolinDropOut
  /-- KAOLIN_ACTIVATION (R235). REQA, anticollision, SELECT, RATS and PPS from a reader activate Kaolin as an ISO/IEC 14443-4 PICC. -/
  | kaolinActivation (found : Activation)
  /-- KAOLIN_DESELECT (R250). S(DESELECT) ends the secured state, discards staged data and writes the field log entry. -/
  | kaolinDeselect
  /-- KAOLIN_SELECT_AID (R239). SELECT by AID selects the NDEF or Kaolin application with no current file. -/
  | kaolinSelectAid (p1 p2 : Byte) (apdu : Apdu)
  /-- KAOLIN_SELECT_FID (R239). SELECT by FID makes a file of the selected application current. -/
  | kaolinSelectFid (p1 p2 : Byte) (apdu : Apdu)
  /-- KAOLIN_READ_BINARY (R244). READ BINARY returns up to 246 bytes of the current file under its access condition. -/
  | kaolinReadBinary (p1 p2 : Byte) (apdu : Apdu) (le : Nat)
  /-- KAOLIN_VERIFY (R247). VERIFY decrements the PIN counter before comparing the PIN digest and enters secured state on a match. -/
  | kaolinVerify (p1 p2 : Byte) (apdu : Apdu)
  /-- KAOLIN_GET_CHALLENGE (R248). GET CHALLENGE returns a 16-byte CK from a strict instance or the seed carry. -/
  | kaolinGetChallenge (params : ApduParams) (apdu : Apdu) (le : Nat)
  /-- KAOLIN_MUTUAL_AUTHENTICATE (R248). MUTUAL AUTHENTICATE checks the reader's tag under KSR and enters secured state with the reader's rights. -/
  | kaolinMutualAuthenticate (p1 p2 : Byte) (apdu : Apdu)
  /-- KAOLIN_INTERNAL_AUTHENTICATE (R252). INTERNAL AUTHENTICATE returns a live Ed448 signature by the device identity key over UID, challenge, digest, status and path. -/
  | kaolinInternalAuthenticate (p1 p2 : Byte) (apdu : Apdu)
  /-- LIVE_SIGN_ABANDONED (R238). Harvested power below 10 mW for 1 ms during live signing abandons it and answers 6F 51. -/
  | liveSignAbandoned
  /-- KAOLIN_UPDATE_BINARY (R253). UPDATE BINARY stages appended bytes to a MAINT file at its append point under the write guard. -/
  | kaolinUpdateBinary (p1 p2 : Byte) (apdu : Apdu)
  /-- KAOLIN_COMMIT_FILE (R253). COMMIT FILE writes the new length of the staged MAINT file and logs FIELD_FILE_COMMITTED. -/
  | kaolinCommitFile (p1 p2 : Byte) (apdu : Apdu)
  /-- KAOLIN_UNKNOWN_COMMAND (R244). A command with another CLA or INS is answered with 6E 00 or 6D 00. -/
  | kaolinUnknownCommand (h : Harvest) (header : ApduHeader)
  /-- HOST_FILE_WRITE (R257). Writing new content to 0x2820:02 starts filling the inactive copy of the selected Kaolin file through PASSPORT sessions. -/
  | hostFileWrite (via : Via) (value : Bytes)
  /-- FILE_COMMITTED (R258). A host file commit flips the active copy in a gap between field commands and voids a field selection of that file. -/
  | fileCommitted
  /-- HOST_FILE_WRITE_TIMEOUT (R259). A host write still not admitted after the host write limit fails with NO_RESOURCE. -/
  | hostFileWriteTimeout
  /-- STATUS_FILE_REFRESH (R243). Every refresh interval while CORE is on, and at mode commits and CHECK walks, the STATUS file is rewritten. -/
  | statusFileRefresh
  /-- OWNER_UID_SIGNATURE_WRITE (R251). A write to 0x2802:00 is verified against the owner key and committed as UIDSIG_O. -/
  | ownerUidSignatureWrite (via : Via) (value : Bytes)
  /-- PIN_DIGEST_WRITE (R247). A write to 0x2810:01 sets the PIN digest and restores the tries counter. -/
  | pinDigestWrite (via : Via) (value : Bytes)
  /-- READER_ENTRY_WRITE (R248). A write to a reader entry at 0x2811 enrols the reader and clears its bar. -/
  | readerEntryWrite (via : Via) (sub : Nat) (value : Bytes)
  /-- CARRY_REFRESHED (R261). At start-up and every 3,600 s while a strict instance delivers, the seed carry is refreshed with fresh strict bits. -/
  | carryRefreshed
  /-- ROOT_IMPORT (R269). A 50-byte write to 0x2911:00 under an envelope unwraps a root through Silt and installs it into its slot. -/
  | rootImport (via : Via) (value : Bytes)
  /-- CIPHER_SELFTEST_REQUEST (R298). Writing TRUE to 0x2920:00 starts the cipher engine self-test. -/
  | cipherSelftestRequest (via : Via) (value : Bytes)
  /-- CIPHER_SELFTEST (R298). The self-test completes, its result is written and logged, and a failure puts the engine into FAILED. -/
  | cipherSelftest (passed shePassed : Bool)
  /-- CIPHER_RESUME (R280). When the cipher lock falls free, suspended operations resume before any new grant. -/
  | cipherResume
  /-- CIPHER_COMPARE_FAIL (R283). The two AES cores disagree, nothing is released and the tick is re-executed. -/
  | cipherCompareFail (slot : Nat) (op : Byte)
  /-- CIPHER_LOCK_STALE (R276). A slot holding the cipher lock idle for 16 ticks has the lock freed and its session ended with HW_FAULT. -/
  | cipherLockStale
  /-- KEY_REGISTER_WAIT_TIMEOUT (R273). A step waiting 8 ticks for a free key register ends its session with NO_RESOURCE. -/
  | keyRegisterWaitTimeout (slot : Nat)
  /-- GCM_OPEN_END (R290). A GCM open finishes its tag check and releases the plaintext from Silt or zeroes it with AUTH_FAIL. -/
  | gcmOpenEnd (slot : Nat) (tagHolds : Bool)
  /-- ATTESTATION_CHALLENGE (R313). A challenge written to 0x2A20:01 requests a signed attestation statement. -/
  | attestationChallenge (via : Via) (value : Bytes)
  /-- FIRMWARE_IMAGE_HEADER (R315). When the first 558 bytes of an image arrive at 0x2A30:01, the header is checked before any payload is accepted. -/
  | firmwareImageHeader (via : Via) (header : Bytes)
  /-- FIRMWARE_INSTALL_END (R316). After the payload's tag holds, its digest is recomputed and the bank marked VALID or zeroed. -/
  | firmwareInstallEnd (payload readBack : Bytes)
  /-- ACTIVATE_BANK (R317). Writing a bank number to 0x2A31:01 activates a VALID bank, raises the SVN and resets the controller. -/
  | activateBank (via : Via) (value : Bytes)
  /-- CERTIFICATE_CHAIN_WRITE (R312). A certificate chain written to 0x2A04:01 in FACTORY is checked against the Darith root and committed. -/
  | certificateChainWrite (via : Via) (value : Bytes)
  /-- VENDOR_UID_SIGNATURE_WRITE (R312). UIDSIG_V written to 0x2A04:02 in FACTORY is checked against the device CA key and committed. -/
  | vendorUidSignatureWrite (via : Via) (value : Bytes)
  /-- SHE_COMPARE_FAIL (R306). The signature engine's datapaths disagree and the tick is re-executed. -/
  | sheCompareFail (slot : Nat)
  /-- RNG_HEALTH_FAIL (R327). A failed health test fails waiting strict requests, zeroes the pool and restarts or latches the source. -/
  | rngHealthFail (cell : Cell) (test : HealthTest)
  /-- RNG_STARTUP_TEST_END (R320). The noise source start-up test ends, returning the source to READY or counting a failure. -/
  | rngStartupTestEnd (passed : Bool)
  /-- RNG_RESTART_SOURCE (R329). Writing TRUE to 0x2A40:06 restarts a LATCHED source through a fresh start-up test. -/
  | rngRestartSource (via : Via) (value : Bytes)
  /-- RNG_SEEDED (R326). All sixteen generator instances have received their first seed after RNS came on. -/
  | rngSeeded
  /-- RNG_NOT_READY_TIMEOUT (R326). A request to an instance still unseeded 4 ms after RNS came on fails with RNG_NOT_READY. -/
  | rngNotReadyTimeout
  /-- STRICT_REQUEST_SERVED (R323). A waiting strict request reseeds and generates once the pool holds 3 blocks. -/
  | strictRequestServed
  /-- STRETCH_RESEED (R324). A stretch instance reseeds in the background after its call count or interval is reached. -/
  | stretchReseed (inst : Nat)
  /-- RNG_STRETCH_EXHAUSTED (R324). A stretch instance at 2^20 calls since reseed becomes EXHAUSTED and answers RNG_FAIL. -/
  | rngStretchExhausted (inst : Nat)
  /-- HOST_RANDOM_READ (R322). A read of 0x2A45:00 returns 32 fresh bytes from ST11. -/
  | hostRandomRead (via : Via)
  /-- NMT_START (R339). NMT Start Remote Node makes the addressed port operational. -/
  | nmtStart (port : Port) (node : Nat)
  /-- NMT_STOP (R339). NMT Stop Remote Node puts the addressed port into stopped. -/
  | nmtStop (port : Port) (node : Nat)
  /-- NMT_ENTER_PRE_OPERATIONAL (R339). NMT Enter Pre-operational puts the addressed port into pre-operational. -/
  | nmtEnterPreOperational (port : Port) (node : Nat)
  /-- NMT_RESET_COMMUNICATION (R340). NMT Reset Communication resets the port's CAN, NMT, PDO and EMCY state, ends its USDO transfers and sends boot-up. -/
  | nmtResetCommunication (port : Port) (node : Nat)
  /-- NMT_RESET_NODE (R340). NMT Reset Node resets the controller while the lock is withheld, else is treated as Reset Communication. -/
  | nmtResetNode (port : Port) (node : Nat)
  /-- HEARTBEAT_RECEIVED (R345). A heartbeat creates or updates a partner entry and may log PARTNER_APPEARED or PARTNER_RETURNED. -/
  | heartbeatReceived (port : Port) (node state : Nat)
  /-- BOOT_UP_RECEIVED (R345). A partner's boot-up message updates its entry and logs PARTNER_APPEARED, PARTNER_RETURNED or PARTNER_RESTARTED. -/
  | bootUpReceived (port : Port) (node : Nat)
  /-- PARTNER_LOST (R345). A PRESENT partner with no heartbeat for its time enters LOST, with EMCY 0x8130 for configured entries. -/
  | partnerLost (entry : Nat)
  /-- SYNC_RECEIVED (R349). A committed SYNC triggers every synchronous TPDO whose count is due. -/
  | syncReceived (port : Port) (counter : Option Nat)
  /-- RPDO_RECEIVED (R348). An RPDO is applied as one dictionary write of all its mapped entries, or discarded whole. -/
  | rpdoReceived (port : Port) (num : Nat) (payload : Bytes)
  /-- TPDO_TRIGGER (R349). A change of a mapped value or an event timer expiry queues an event-driven TPDO after its inhibit time. -/
  | tpdoTrigger (num : Nat)
  /-- USDO_INITIATE (R351). A client's USDO initiate is given a free server, supersedes its own earlier transfer, or is aborted when both are held. -/
  | usdoInitiate (port : Port) (client : Nat) (segmented : Bool)
  /-- USDO_SEGMENT_TIMEOUT (R354). A segmented transfer idle for the segment timeout is aborted with TRANSFER_TIMEOUT. -/
  | usdoSegmentTimeout (srv : Srv)
  /-- BUS_OFF (R335). A port entering bus-off stops transmitting and logs BUS_OFF. -/
  | busOff (port : Port)
  /-- BUS_OFF_RECOVERY (R335). After the bus-off delay or a manual command, a port recovers, logs BUS_RECOVERED and raises EMCY 0x8140. -/
  | busOffRecovery (port : Port)
  /-- BUS_OFF_RECOVER (R335). Writing the port to 0x2B03:03 starts manual bus-off recovery of that port. -/
  | busOffRecover (via : Via) (value : Bytes)
  /-- ERROR_PASSIVE (R335). A port entering error passive logs the event and raises EMCY 0x8120 on the other port. -/
  | errorPassive (port : Port)
  /-- RX_OVERRUN (R335). A received frame finding the 64-frame buffer full is lost, logged and reported by EMCY 0x8110. -/
  | rxOverrun (port : Port)
  /-- CAN_BITRATE_WRITE (R333). A rate write to 0x2B01 is refused while released or for a bad combination, otherwise stored for the next Reset Communication. -/
  | canBitrateWrite (via : Via) (sub : Nat) (value : Bytes)
  /-- PDO_MAPPING_WRITE (R347). A PDO mapping write is checked against the mapping limits and refused with PDO_MAPPING_INVALID outside them. -/
  | pdoMappingWrite (via : Via) (idx sub : Nat) (value : Bytes)
  /-- LSS_SWITCH_STATE_GLOBAL (R342). LSS switch state global moves every slave between waiting and configuration state. -/
  | lssSwitchStateGlobal (port : Port) (config : Bool)
  /-- LSS_SWITCH_STATE_SELECTIVE (R342). LSS switch state selective moves the slave with the matching LSS address into configuration state. -/
  | lssSwitchStateSelective (port : Port) (vendor product revision serial : Nat)
  /-- LSS_CONFIGURE_NODE_ID (R342). LSS configure node-ID sets the port's node-ID for the next Reset Communication. -/
  | lssConfigureNodeId (port : Port) (node : Nat)
  /-- LSS_CONFIGURE_BIT_TIMING (R343). LSS configure bit timing selects a nominal rate, refused while the lock is released. -/
  | lssConfigureBitTiming (port : Port) (selector code : Nat)
  /-- LSS_ACTIVATE_BIT_TIMING (R343). LSS activate bit timing switches to the configured rate, refused while the lock is released. -/
  | lssActivateBitTiming (port : Port)
  /-- LSS_STORE_CONFIGURATION (R343). LSS store configuration stores the LSS settings, refused while the lock is released. -/
  | lssStoreConfiguration (port : Port)
  /-- LSS_INQUIRE_IDENTITY (R342). LSS inquire identity returns the vendor, product, revision or serial of the LSS address. -/
  | lssInquireIdentity (port : Port) (part : Nat)
  /-- LSS_INQUIRE_NODE_ID (R342). LSS inquire node-ID returns the port's node-ID. -/
  | lssInquireNodeId (port : Port)
  /-- LSS_IDENTIFY_REMOTE_SLAVE (R342). LSS identify remote slave answers if the LSS address lies within the requested ranges. -/
  | lssIdentifyRemoteSlave (port : Port) (vendor product revLow revHigh serLow serHigh : Nat)
  /-- LSS_IDENTIFY_NON_CONFIGURED (R342). LSS identify non-configured remote slave answers if the port has no node-ID. -/
  | lssIdentifyNonConfigured (port : Port)
  /-- LSS_FASTSCAN (R342). LSS Fastscan answers a bit-wise search for the slave's LSS address. -/
  | lssFastscan (port : Port) (idNumber bitCheck lssSub lssNext : Nat)
  /-- CAN_WAKE_PATTERN (R337). A port in standby detecting a WUP, a matching WUF or the frame error threshold raises a bus wake event. -/
  | canWakePattern (port : Port) (pattern : WakePattern)
  /-- LINK_TRAINING_END (R361). Sahun link training ends, reading the attribute map and entering UP or DEGRADED, or failing and scheduling a retry. -/
  | linkTrainingEnd (lanes : BitVec 4) (attrMap : Bytes)
  /-- LINK_TRAINING_RETRY (R362). A failed training is retried every 100 ms, or every 10 s once FAILED. -/
  | linkTrainingRetry
  /-- LINK_DEGRADED (R361). A lane losing symbol lock for 2 µs is dropped and the link continues DEGRADED with EMCY 0xFF13. -/
  | linkDegraded (lane : Nat)
  /-- LINK_DOWN (R362). Loss of both lanes of a direction sends the link to TRAINING and raises EMCY 0xFF13. -/
  | linkDown (direction : Nat)
  /-- SAHUN_NAK (R363). A NAK causes the named packet to be retransmitted, and a third NAK of one packet retrains the link. -/
  | sahunNak (packet : SahunPacket)
  /-- READ_DATA_LANDED (R365). A READ_DATA with good CRC lands and its data is committed for the waiting session. -/
  | readDataLanded (tag : Nat) (data : Bytes)
  /-- READ_TIMEOUT_LOGGED (R365). A bridge read without data 8 ticks after issue ends with TIMEOUT and the address is logged. -/
  | readTimeoutLogged (tag : Nat)
  /-- POSTED_WRITE_ROOM_TIMEOUT (R366). A write finding no room among 16 outstanding after 8 ticks ends its session with NO_RESOURCE. -/
  | postedWriteRoomTimeout (slot : Nat)
  /-- WRITE_ACK_RECEIVED (R366). An ACK for a posted write frees its outstanding place. -/
  | writeAckReceived (tag : Nat)
  /-- POSTED_WRITE_FAILED (R367). A WRITE_ERR, or a write lost at link loss, is entered in the posted-write error log with EMCY 0xFF13. -/
  | postedWriteFailed (tag : Nat) (cause : Code)
  /-- SAMPLE_PACKET_LANDED (R368). A SAMPLE packet lands and is committed in sequence order, returning credits by ACK. -/
  | samplePacketLanded (seq lost : Nat) (record : Bytes)
  /-- EVENT_PACKET_LANDED (R368). An EVENT packet from the Eptan die lands and is committed behind the records that caused it and logged. -/
  | eventPacketLanded (seq lost : Nat) (event : Bytes)
  /-- PREFETCH_DISCARDED (R372). An AUX prefetch line unused for 4 ticks is discarded and the unconsumed bytes logged. -/
  | prefetchDiscarded
  /-- HOST_WINDOW_READ (R373). A read of 0x2C50:03 reads the set length at the set Eptan address through a DICTIONARY session. -/
  | hostWindowRead (via : Via)
  /-- HOST_WINDOW_WRITE (R373). A write of 0x2C50:03 posts a write to the set Eptan address through a DICTIONARY session. -/
  | hostWindowWrite (via : Via) (value : Bytes)
  /-- METER_FOLD (R384). Every fold period, and at lock changes and receipts, the Eptan counters are folded into the lifetime totals and credit debited. -/
  | meterFold (snapshot : Option Snapshot)
  /-- GRACE_TIME_EXPIRY (R391). The grace clock reaching the grace time moves the credit state to EXHAUSTED. -/
  | graceTimeExpiry
  /-- EPTAN_CONFIG_CHECK (R380). Every 1 s, and after LINK_UP, the Eptan REG window is read back and differing registers rewritten. -/
  | eptanConfigCheck (readBack : List Bytes)
  /-- ZERO_CURRENT_OFFSET (R381). Writing 0x01 to 0x2D12:01 starts averaging 4,000 records to null the current offset, or is refused. -/
  | zeroCurrentOffset (via : Via) (value : Bytes)
  /-- ZERO_OFFSET_END (R381). After 4,000 records the mean is written as the offset and the result reported. -/
  | zeroOffsetEnd
  /-- TOKEN_TOPUP (R393). A TOPUP credit token is checked and adds its amount to the credit, or to the held credit in QUARANTINE. -/
  | tokenTopup (via : Via) (value : Bytes)
  /-- TOKEN_TERMS (R393). A TERMS credit token is checked and replaces the grace energy and grace time. -/
  | tokenTerms (via : Via) (value : Bytes)
  /-- TOKEN_ADJUST (R393). An ADJUST credit token is checked and changes the credit by its signed amount. -/
  | tokenAdjust (via : Via) (value : Bytes)
  /-- TOKEN_JOURNAL_ACK (R399). A JOURNAL_ACK token is checked and raises the acknowledged sequence, freeing journal records. -/
  | tokenJournalAck (via : Via) (value : Bytes)
  /-- RECEIPT_REQUEST (R397). Writing 0x01 to 0x2D51:00 requests a receipt. -/
  | receiptRequest (via : Via) (value : Bytes)
  /-- PERIODIC_RECEIPT (R397). Every receipt period a receipt is requested, unless the journal is in RESERVE or FULL. -/
  | periodicReceipt
  /-- RECEIPT_WRITE (R397). A RECEIPT session's signature completes and METER, SIG_A and SIG_B are appended and copied to 0x2D52:00. -/
  | receiptWrite
  /-- JOURNAL_IMPORT (R400). A journal import written to 0x2D60:01 is checked and opened provisionally into the ring. -/
  | journalImport (via : Via) (length : Nat) (header : Bytes)
  /-- JOURNAL_IMPORT_END (R400). The import's tag check ends, writing IMPORT_END with OK and a receipt, or zeroing the extent. -/
  | journalImportEnd (cipher tag : Bytes)
  /-- DOMAIN_REQUEST (R406). A write of 0, 1 or 2 to 0x2E01:n sets a domain's pending target, evaluated and checked two ticks later. -/
  | domainRequest (via : Via) (sub : Nat) (value : Bytes)
  /-- GROUP_REQUEST (R409). A write to 0x2E02:01 sets targets for many domains, lowering in fixed order then raising in reverse, stopping at a refusal. -/
  | groupRequest (via : Via) (value : Bytes)
  /-- DOMAIN_TRANSITION_END (R407). A domain transition completes and the domain reports its reached state. -/
  | domainTransitionEnd (found : PowerUp)
  /-- DOMAIN_FAULTED (R407). A transition missing its bound leaves the domain in FAULT and raises EMCY 0xFF15. -/
  | domainFaulted (dom : Domain)
  /-- WAKE (R414). A filtered wake source firing while CORE or its CAN domain is not on raises CORE and the listed CAN domains and records the wake. -/
  | wake (source subject : Nat)
  /-- WAKE_SOURCE_STUCK (R415). A wake source active for more than 2 s is masked as stuck. -/
  | wakeSourceStuck (source : Nat)
  /-- WAKE_SOURCE_REARMED (R415). A masked wake source is re-armed once seen inactive or when its rate mask ends. -/
  | wakeSourceRearmed (source : Nat)
  /-- CAP_SCAN (R417). A capacitive scan measures each enabled electrode, tracks baselines and declares or ends touches. -/
  | capScan (caps : List Nat)
  /-- BASELINE_REACQUIRE (R417). Writing a mask to 0x2E43:00 re-acquires the named electrodes' baselines over eight scans. -/
  | baselineReacquire (via : Via) (value : Bytes)
  /-- RTC_SET (R418). An unsealed write to 0x2E14:02 sets the RTC, refusing backward moves beyond 300 s while valid. -/
  | rtcSet (via : Via) (value : Bytes)
  /-- RTC_SET_SEALED (R418). A write to 0x2E14:04 under an owner envelope sets the RTC to any value. -/
  | rtcSetSealed (via : Via) (value : Bytes)
  /-- RTC_ALARM (R418). The RTC reaching the alarm value fires the alarm once as a wake source. -/
  | rtcAlarm
  /-- THERMAL_GUARD (R421). Die temperature at the guard refuses every gated operation until it falls 5 °C below, with EMCY 0xFF15. -/
  | thermalGuard (tempDeci : Int)
  /-- STARTUP (R427). After a reset or cold supply, the start-up sequence restores state, self-tests, checks firmware, completes pending work and sends boot-up. -/
  | startup (i : StartIn)
  /-- BOOT_RETRY (R430). 100 ms after a failed boot self-test the sequence repeats from the boot step. -/
  | bootRetry
  /-- SUPPLY_RESET (R424). A supply below its reset threshold for the stated time resets the main die. -/
  | supplyReset (rail : Rail) (aonLost : Bool)
  /-- RESET_PIN (R424). RESET_N held low for 2 µs or longer resets the main die. -/
  | resetPin (lowNs : Nat)
  /-- SUPPLY_WARNING (R424). VBAT between 5.8 and 7.0 V or above 36.0 V for 100 ms logs a warning. -/
  | supplyWarning (vbatMv : Nat)
  /-- TICK_WATCHDOG (R435). No tick committed for 1 ms writes a fault record and resets the main die. -/
  | tickWatchdog
  /-- FAULT_DETECTED (R431). A safety mechanism detects a fault, which is corrected, re-executed, contained, latched or fatal by its class. -/
  | faultDetected (detector : Detector) (cls : FaultClass) (slot engine : Nat) (detail : Bytes)
  /-- TAMPER (R436). A tamper detector trip sets the Hardpan latch with its cause and logs TAMPER with EMCY 0xFF16. -/
  | tamper (detector : Tamper)
  /-- CLOCK_RESTORED (R436). After the reference has been good for 100 ms the controller switches back to it. -/
  | clockRestored
  /-- HARDPAN_RELEASE (R439). Writing the exact cause mask to 0x2F12:01 under the proper envelope clears the latch if no cause is active. -/
  | hardpanRelease (via : Via) (value : Bytes)
  /-- HARDPAN_REQUEST (R440). Writing 0x01 to 0x2F11:00 under an owner envelope sets cause OWNER_REQUEST. -/
  | hardpanRequest (via : Via) (value : Bytes)
  /-- EVENT_SELECT (R441). Writing a sequence number to 0x2F20:03 selects the event log entry read at 0x2F20:04. -/
  | eventSelect (via : Via) (value : Bytes)
  /-- CREDENTIAL_RECORD_WRITE (R455). A write of a credential record at 0x3000 is checked for content, mode and uniqueness and committed with its check value. -/
  | credentialRecordWrite (via : Via) (idx sub : Nat) (value : Bytes)
  /-- CREDENTIAL_FIND (R458). Writing a CREDID to 0x3F00:01 makes 0x3F00:02 read its store index. -/
  | credentialFind (via : Via) (value : Bytes)
  /-- JOURNAL_SELECT (R460). Writing a SEQ to 0x3800:01 makes 0x3800:02 return the record carrying that SEQ. -/
  | journalSelect (via : Via) (value : Bytes)
  /-- JOURNAL_BLOCK_READ (R460). A read of 0x3810:03 serves count records from the set start as a DICTIONARY session. -/
  | journalBlockRead (via : Via)
  /-- GRIT_RAW_CAPTURE (R461). A read of 0x5F00 in FACTORY captures 65,536 raw bits of one noise cell. -/
  | gritRawCapture (via : Via) (sub : Nat)
  /-- PANEL_CLOSED (R204). A filtered closed edge of SVPANEL reports the panel closed, starting the SERVICE exit delay and ending the active PANEL_FORCED cause. -/
  | panelClosed
  /-- PRODUCER_HEARTBEAT (R338). Every producer heartbeat time at 0x1017 the controller sends its heartbeat on each port that may transmit. -/
  | producerHeartbeat
  /-- PORT_ERROR_ACTIVE (R335). A port whose error counters fall back leaves error passive for error active, clearing its outstanding error bit. -/
  | portErrorActive (port : Port)
  /-- THERMAL_GUARD_LEFT (R421). The die temperature falling 5 °C below the guard ends the refusal of gated operations and clears the outstanding thermal-guard error. -/
  | thermalGuardLeft (tempDeci : Int)
  deriving DecidableEq, Repr

end Sys2Proof
end

