-- ==== Sys2Proof/Config.lean ====
section
/-! DEFINITION. What the manual leaves to the part or to the standards it names: free values, factory-set data, and the
cryptographic functions of FIPS 197, SP 800-38B/D, FIPS 202 and RFC 8032. Every constant here is opaque: no proof can see a value
of it, so a statement proved about the model holds whatever it is (log entries 2, 3, 4 and 6). -/

namespace Sys2Proof.Config

/-- A byte nobody fixes: the n-th byte the controller draws (random values of R29, R102, R110, R193, R248, R322, R396; log entry 2). -/
opaque freeByte : Nat → Byte

/-- A number nobody fixes, below a bound the drawing rule sets (R99, R102; log entry 2). -/
opaque freeNat : Nat → Nat

/-- Byte i of SHAKE256 over a message (FIPS 202, R303; log entry 3). -/
opaque shakeByte : Bytes → Nat → Byte

/-- Byte i of AES under a 16- or 32-byte key of a 16-byte block (R265; log entry 3). -/
opaque aesByte : Bytes → Bytes → Nat → Byte

/-- Byte i of AES-CMAC under a key over a message (R265, R271; log entry 3). -/
opaque cmacByte : Bytes → Bytes → Nat → Byte

/-- Byte i of the GCM key stream under a key and an IV (R265; log entry 3). -/
opaque gcmStreamByte : Bytes → Bytes → Nat → Byte

/-- Byte i of the GCM tag under a key and an IV over AAD and ciphertext (R265; log entry 3). -/
opaque gcmTagByte : Bytes → Bytes → Bytes → Bytes → Nat → Byte

/-- R304 holds for a public key, a context, a message and a signature (log entry 3). -/
opaque ed448Valid : Bytes → Bytes → Bytes → Bytes → Bool

/-- Byte i of the signature by the device identity key, with a context, over a message (R303, R306; log entry 3). -/
opaque identitySignByte : Bytes → Bytes → Nat → Byte

/-- R305: a 57-byte public key decodes canonically and is not of small order (log entry 3). -/
opaque keyAcceptable : Bytes → Bool

/-- Byte i of the Kaolin UID, written in FACTORY (R235; log entry 4). -/
opaque uidByte : Nat → Byte

/-- Byte i of the device identity public key at 0x2A01:00 (R312; log entry 4). -/
opaque identityKeyByte : Nat → Byte

/-- Byte i of the Darith root public key, in silicon (R308, R310; log entry 4). -/
opaque darithRootByte : Nat → Byte

/-- Byte i of the certificate chain committed in FACTORY (R310, R312; log entry 4). -/
opaque chainByte : Nat → Byte

/-- Byte i of UIDSIG_V committed in FACTORY (R251, R312; log entry 4). -/
opaque uidSigVByte : Nat → Byte

/-- Byte i of the root in a slot that is set at delivery: 0 DEVICE, 1 TRANSPORT, 3 IMAGE, 14 FACTORY (R267; log entry 4). -/
opaque rootByte : Nat → Nat → Byte

/-- Byte i of the seed carry at delivery (R261; log entry 4). -/
opaque carryByte : Nat → Byte

/-- The release and the first 32 bytes of the DIGEST of the image in bank 0 at delivery (R314, R313; log entry 4). -/
opaque factoryRelease : Nat
opaque factoryDigestByte : Nat → Byte
opaque factoryImageIdByte : Nat → Byte

/-- The die temperature of the FACTORY synthesiser calibration, in 0.1 °C (R134, 0x2421:03; log entry 4). -/
opaque factoryCalTemp : Int

/-- Byte i of an entry written in FACTORY whose value the manual does not state: 0x2405, 0x2504; arguments: the entry's key, i
(log entry 4). -/
opaque factoryEntryByte : Nat → Nat → Byte

/-- The factory channel constants of the Eptan die at 0x2D11:00, 64 bytes (R380; log entry 4). -/
opaque eptanConstantByte : Nat → Byte

/-- Where the REG window of the Eptan die holds each constant; the manual gives no register map (R364, R380; log entry 162). -/
opaque eptanRegister : Nat → Nat

/-- The real functions of chapter 06 in the number format of the part, which the manual does not state (R160, R161, R164; log entry 6): the
cosine of an angle in turns, the square root, the natural logarithm, and the angle of a phasor in degrees. -/
opaque cosTurn : Rat → Rat
opaque root : Rat → Rat
opaque ln : Rat → Rat
opaque degrees : Rat → Rat → Rat

/-- The LF solution where an iteration of R164 has no step to take, as where its start lies on a coil: the manual states none (log entry
6). Position in mm and mean square residual in dB². Arguments: the point it starts from, and the usable bursts as coil record, settled
code and vector. -/
opaque lfOpen : Rat × Rat × Rat → List (Bytes × Nat × (Int × Int × Int)) → (Rat × Rat × Rat) × Rat

/-- The chain phase in turns that a chain table holds for a tone channel and a gain step: the manual states no layout of 0x2504 (R160;
log entry 4). -/
opaque chainPhase : Bytes → Nat → Nat → Rat

/-- The length of a chain table at 0x2504 (log entry 4). -/
opaque chainLength : Nat

/-- The capacitor code and the gain that the FACTORY calibration found for a sub-band (R134; log entry 4). -/
opaque factoryBand : Nat → Nat × Nat

/-- A cap electrode's baseline after a scan, in 0.01 pF: the manual gives a time constant of 30 s but no number format (R417; log
entry 6). Arguments: the baseline, the measured capacitance, the scan rate. -/
opaque baselineTrack : Nat → Nat → Nat → Nat

/-- A baseline being re-acquired over eight scans (R417; log entry 6). Arguments: scans still to come, the baseline, the measured
capacitance. -/
opaque baselineAcquire : Nat → Nat → Nat → Nat

/-- What a counter reads after a rise past the largest number its entry holds: the manual states no wrap and no stop
(log entry 2). Arguments: the entry's key and the value it held. -/
opaque counterBeyond : Nat → Nat → Nat

end Sys2Proof.Config
end

