-- ==== Sys2Proof/Machine/Codes.lean ====
section
/-! DEFINITION. The result codes (`Rc`) and event codes (`Ev`) of the manual, one name each (R8 and the code tables of the chapters). -/

namespace Sys2Proof.Machine

namespace Rc
/-- TRANSITION_INVALID (R32). -/
abbrev transitionInvalid : Code := 0x0101
/-- LOCK_RELEASED (R32). -/
abbrev lockReleased : Code := 0x0102
/-- ENROL_INCOMPLETE (R32). -/
abbrev enrolIncomplete : Code := 0x0103
/-- ENVELOPE_MALFORMED (R32). -/
abbrev envelopeMalformed : Code := 0x0104
/-- ENVELOPE_NONCE (R32). -/
abbrev envelopeNonce : Code := 0x0105
/-- ENVELOPE_EXPIRED (R32). -/
abbrev envelopeExpired : Code := 0x0106
/-- ENVELOPE_SCOPE (R32). -/
abbrev envelopeScope : Code := 0x0107
/-- ENVELOPE_SIGNER (R32). -/
abbrev envelopeSigner : Code := 0x0108
/-- HARDPAN_NOT_RELEASED (R32). -/
abbrev hardpanNotReleased : Code := 0x0109
/-- DEADLINE_MISSED (R67). -/
abbrev deadlineMissed : Code := 0x0201
/-- CREDENTIAL_CHANGED (R67). -/
abbrev credentialChanged : Code := 0x0202
/-- PARENT_ENDED (R67). -/
abbrev parentEnded : Code := 0x0203
/-- LF_SUPPLY (R97). -/
abbrev lfSupply : Code := 0x0301
/-- LF_CHANNEL_FAULT (R97). -/
abbrev lfChannelFault : Code := 0x0302
/-- LF_OVERCURRENT (R97). -/
abbrev lfOvercurrent : Code := 0x0303
/-- LF_BUDGET (R97). -/
abbrev lfBudget : Code := 0x0304
/-- LF_DETUNE_LIMIT (R97). -/
abbrev lfDetuneLimit : Code := 0x0305
/-- LF_CAL_FAIL (R97). -/
abbrev lfCalFail : Code := 0x0306
/-- LF_NO_CHANNEL (R97). -/
abbrev lfNoChannel : Code := 0x0307
/-- NO_ANSWER (R124). -/
abbrev noAnswer : Code := 0x0401
/-- NO_QUALIFYING_BADGE (R124). -/
abbrev noQualifyingBadge : Code := 0x0402
/-- BADGE_UNKNOWN (R124). -/
abbrev badgeUnknown : Code := 0x0403
/-- BADGE_NO_RIGHT (R124). -/
abbrev badgeNoRight : Code := 0x0404
/-- DUPLICATE_BADGE (R124). -/
abbrev duplicateBadge : Code := 0x0405
/-- CREDENTIAL_BARRED (R124). -/
abbrev credentialBarred : Code := 0x0406
/-- COUNTER_REPLAY (R124). -/
abbrev counterReplay : Code := 0x0407
/-- LEGACY_REFUSED (R124). -/
abbrev legacyRefused : Code := 0x0408
/-- APPROACH_TIMEOUT (R124). -/
abbrev approachTimeout : Code := 0x0409
/-- NOT_ARMED (R124). -/
abbrev notArmed : Code := 0x040A
/-- RF_LOCK_FAIL (R153). -/
abbrev rfLockFail : Code := 0x0501
/-- RF_SUPPLY (R153). -/
abbrev rfSupply : Code := 0x0502
/-- RF_COEX_DENIED (R153). -/
abbrev rfCoexDenied : Code := 0x0503
/-- RF_CAL_FAIL (R153). -/
abbrev rfCalFail : Code := 0x0505
/-- OUT_OF_ZONE (R171). -/
abbrev outOfZone : Code := 0x0601
/-- RELAY_SUSPECT (R171). -/
abbrev relaySuspect : Code := 0x0602
/-- DISTANCE_REDUCTION_SUSPECT (R171). -/
abbrev distanceReductionSuspect : Code := 0x0603
/-- RANGING_INCONCLUSIVE (R171). -/
abbrev rangingInconclusive : Code := 0x0604
/-- LF_RF_INCONSISTENT (R171). -/
abbrev lfRfInconsistent : Code := 0x0605
/-- GEOMETRY_UNSET (R171). -/
abbrev geometryUnset : Code := 0x0606
/-- TONE_MASK_INVALID (R171). -/
abbrev toneMaskInvalid : Code := 0x0607
/-- CREDIT_EXHAUSTED (R211). -/
abbrev creditExhausted : Code := 0x0701
/-- SERVICE_OPEN (R211). -/
abbrev serviceOpen : Code := 0x0702
/-- HVIL_OPEN (R211). -/
abbrev hvilOpen : Code := 0x0704
/-- LINK_VOLTAGE_HIGH (R211). -/
abbrev linkVoltageHigh : Code := 0x0705
/-- EPT_STALE (R211). -/
abbrev eptStale : Code := 0x0706
/-- VEHICLE_UNKNOWN (R211). -/
abbrev vehicleUnknown : Code := 0x0707
/-- VEHICLE_NO_RIGHT (R211). -/
abbrev vehicleNoRight : Code := 0x0708
/-- EXCHANGE_SUPERSEDED (R211). -/
abbrev exchangeSuperseded : Code := 0x0709
/-- INSULATION_LOW (R211). -/
abbrev insulationLow : Code := 0x070A
/-- MESSAGE_MALFORMED (R211). -/
abbrev messageMalformed : Code := 0x070B
/-- FORM_UNSUPPORTED (R211). -/
abbrev formUnsupported : Code := 0x070C
/-- VEHICLE_BARRED (R211). -/
abbrev vehicleBarred : Code := 0x070D
/-- EXCHANGE_UNKNOWN (R211). -/
abbrev exchangeUnknown : Code := 0x070E
/-- HF_SUPPLY (R233). -/
abbrev hfSupply : Code := 0x0801
/-- DEVICE_OVERFULL (R233). -/
abbrev deviceOverfull : Code := 0x0803
/-- INVENTORY_TIMEOUT (R233). -/
abbrev inventoryTimeout : Code := 0x0805
/-- CANDIDATES_CHANGED (R233). -/
abbrev candidatesChanged : Code := 0x0806
/-- NO_ORIGIN_KEY (R233). -/
abbrev noOriginKey : Code := 0x0807
/-- LOOP_INVALID (R233). -/
abbrev loopInvalid : Code := 0x0808
/-- FILE_UNKNOWN (R264). -/
abbrev fileUnknown : Code := 0x0901
/-- FILE_TOO_LONG (R264). -/
abbrev fileTooLong : Code := 0x0902
/-- NDEF_INVALID (R264). -/
abbrev ndefInvalid : Code := 0x0903
/-- FILE_READ_ONLY (R264). -/
abbrev fileReadOnly : Code := 0x0904
/-- CIPHER_FAILED (R302). -/
abbrev cipherFailed : Code := 0x1001
/-- KEY_USAGE (R302). -/
abbrev keyUsage : Code := 0x1002
/-- IV_REUSED (R302). -/
abbrev ivReused : Code := 0x1003
/-- ROOT_EMPTY (R302). -/
abbrev rootEmpty : Code := 0x1004
/-- ROOT_SLOT_INVALID (R302). -/
abbrev rootSlotInvalid : Code := 0x1005
/-- MESSAGE_TOO_LONG (R302). -/
abbrev messageTooLong : Code := 0x1006
/-- FW_HEADER_INVALID (R331). -/
abbrev fwHeaderInvalid : Code := 0x1101
/-- CERT_INVALID (R331). -/
abbrev certInvalid : Code := 0x1102
/-- FW_ROLLBACK (R331). -/
abbrev fwRollback : Code := 0x1103
/-- FW_DIGEST_MISMATCH (R331). -/
abbrev fwDigestMismatch : Code := 0x1104
/-- FW_BANK_STATE (R331). -/
abbrev fwBankState : Code := 0x1105
/-- FW_OWNER_SIG (R331). -/
abbrev fwOwnerSig : Code := 0x1106
/-- SHE_FAILED (R331). -/
abbrev sheFailed : Code := 0x1107
/-- PUBLIC_KEY_INVALID (R331). -/
abbrev publicKeyInvalid : Code := 0x1108
/-- CHALLENGE_LENGTH (R331). -/
abbrev challengeLength : Code := 0x1109
/-- ENTRY_UNKNOWN (R359). -/
abbrev entryUnknown : Code := 0x1201
/-- ACCESS_CLASS (R359). -/
abbrev accessClass : Code := 0x1202
/-- LENGTH_MISMATCH (R359). -/
abbrev lengthMismatch : Code := 0x1203
/-- VALUE_RANGE (R359). -/
abbrev valueRange : Code := 0x1204
/-- TRANSFER_TIMEOUT (R359). -/
abbrev transferTimeout : Code := 0x1205
/-- BITRATE_LOCKED (R359). -/
abbrev bitrateLocked : Code := 0x1207
/-- PDO_MAPPING_INVALID (R359). -/
abbrev pdoMappingInvalid : Code := 0x1208
/-- ADDR_UNMAPPED (R375). -/
abbrev addrUnmapped : Code := 0x1301
/-- WINDOW_READ_ONLY (R375). -/
abbrev windowReadOnly : Code := 0x1302
/-- REG_LOCKED (R375). -/
abbrev regLocked : Code := 0x1303
/-- BRIDGE_DOWN (R375). -/
abbrev bridgeDown : Code := 0x1305
/-- WINDOW_REFUSED (R375). -/
abbrev windowRefused : Code := 0x1306
/-- TOKEN_MALFORMED (R402). -/
abbrev tokenMalformed : Code := 0x1401
/-- NO_LESSOR_KEY (R402). -/
abbrev noLessorKey : Code := 0x1402
/-- TOKEN_BINDING (R402). -/
abbrev tokenBinding : Code := 0x1403
/-- TOKEN_REPLAY (R402). -/
abbrev tokenReplay : Code := 0x1404
/-- TOKEN_TIME_UNKNOWN (R402). -/
abbrev tokenTimeUnknown : Code := 0x1405
/-- TOKEN_EXPIRED (R402). -/
abbrev tokenExpired : Code := 0x1406
/-- JOURNAL_FULL (R402). -/
abbrev journalFull : Code := 0x1407
/-- TOKEN_HELD (R402). -/
abbrev tokenHeld : Code := 0x1408
/-- ZERO_REFUSED (R402). -/
abbrev zeroRefused : Code := 0x1409
/-- IMPORT_REFUSED (R402). -/
abbrev importRefused : Code := 0x140A
/-- DOMAIN_REFUSED (R423). -/
abbrev domainRefused : Code := 0x1501
/-- NOT_ATTEMPTED (R423). -/
abbrev notAttempted : Code := 0x1502
/-- SUPERSEDED (R423). -/
abbrev superseded : Code := 0x1503
/-- DOMAIN_FAULT (R423). -/
abbrev domainFault : Code := 0x1504
/-- RTC_BACKWARD (R423). -/
abbrev rtcBackward : Code := 0x1505
/-- THERMAL_BUDGET (R423). -/
abbrev thermalBudget : Code := 0x1506
/-- ALWAYS_ON (R423). -/
abbrev alwaysOn : Code := 0x1507
/-- HARDPAN_CAUSE_ACTIVE (R446). -/
abbrev hardpanCauseActive : Code := 0x1601
/-- HARDPAN_CAUSES_CHANGED (R446). -/
abbrev hardpanCausesChanged : Code := 0x1602
/-- HARDPAN_CLEAR (R446). -/
abbrev hardpanClear : Code := 0x1603
/-- OK (R452). -/
abbrev ok : Code := 0x0000
/-- BUSY (R452). -/
abbrev busy : Code := 0x0001
/-- PENDING (R452). -/
abbrev pending : Code := 0x0002
/-- DENIED (R452). -/
abbrev denied : Code := 0x0010
/-- NOT_ENROLLED (R452). -/
abbrev notEnrolled : Code := 0x0011
/-- MODE_FORBIDS (R452). -/
abbrev modeForbids : Code := 0x0012
/-- AUTH_FAIL (R452). -/
abbrev authFail : Code := 0x0020
/-- SIG_INVALID (R452). -/
abbrev sigInvalid : Code := 0x0021
/-- RNG_FAIL (R452). -/
abbrev rngFail : Code := 0x0030
/-- RNG_NOT_READY (R452). -/
abbrev rngNotReady : Code := 0x0031
/-- TIMEOUT (R452). -/
abbrev timeout : Code := 0x0040
/-- ABORTED (R452). -/
abbrev aborted : Code := 0x0041
/-- STEP_TIMEOUT (R452). -/
abbrev stepTimeout : Code := 0x0042
/-- CONFLICT (R452). -/
abbrev conflict : Code := 0x0050
/-- FIELD_WEAK (R452). -/
abbrev fieldWeak : Code := 0x0051
/-- HW_FAULT (R452). -/
abbrev hwFault : Code := 0x0060
/-- NO_RESOURCE (R452). -/
abbrev noResource : Code := 0x0070
/-- CREDENTIAL_INVALID (R463). -/
abbrev credentialInvalid : Code := 0x1701
/-- CREDENTIAL_DUPLICATE (R463). -/
abbrev credentialDuplicate : Code := 0x1702
end Rc

namespace Ev
/-- MODE_CHANGED (R32). -/
abbrev modeChanged : Code := 0x0180
/-- SERVICE_ENTERED (R32). -/
abbrev serviceEntered : Code := 0x0181
/-- SERVICE_LEFT (R32). -/
abbrev serviceLeft : Code := 0x0182
/-- SERVICE_OVERRUN (R32). -/
abbrev serviceOverrun : Code := 0x0183
/-- SERVICE_RESUMED_AS_DEPOT (R32). -/
abbrev serviceResumedAsDepot : Code := 0x0184
/-- CLOD_LOW (R67). -/
abbrev clodLow : Code := 0x0280
/-- CLOD_RECOVERED (R67). -/
abbrev clodRecovered : Code := 0x0281
/-- STEP_TIMEOUT_LOGGED (R67). -/
abbrev stepTimeoutLogged : Code := 0x0282
/-- ABORT_COMPLETED (R67). -/
abbrev abortCompleted : Code := 0x0283
/-- DEADLINE_LATE (R67). -/
abbrev deadlineLate : Code := 0x0284
/-- LF_CALIBRATED (R97). -/
abbrev lfCalibrated : Code := 0x0380
/-- LF_BUDGET_HIGH (R97). -/
abbrev lfBudgetHigh : Code := 0x0381
/-- LF_DETUNED (R97). -/
abbrev lfDetuned : Code := 0x0382
/-- LF_CHANNEL_FAULTED (R97). -/
abbrev lfChannelFaulted : Code := 0x0383
/-- LF_FAULT_CLEARED (R97). -/
abbrev lfFaultCleared : Code := 0x0384
/-- APPROACH_STARTED (R124). -/
abbrev approachStarted : Code := 0x0480
/-- APPROACH_ENDED (R124). -/
abbrev approachEnded : Code := 0x0481
/-- TOUCH_IGNORED (R124). -/
abbrev touchIgnored : Code := 0x0482
/-- BADGE_ACCEPTED (R124). -/
abbrev badgeAccepted : Code := 0x0483
/-- ANSWER_DROPPED (R124). -/
abbrev answerDropped : Code := 0x0484
/-- BADGE_SUSPECT (R124). -/
abbrev badgeSuspect : Code := 0x0485
/-- CREDENTIAL_TEST_DONE (R124). -/
abbrev credentialTestDone : Code := 0x0486
/-- RF_SYNTH_CALIBRATED (R153). -/
abbrev rfSynthCalibrated : Code := 0x0580
/-- RF_SYNTH_CAL_POSTPONED (R153). -/
abbrev rfSynthCalPostponed : Code := 0x0581
/-- RF_SYNTH_CAL_OVERDUE (R153). -/
abbrev rfSynthCalOverdue : Code := 0x0582
/-- RF_COEX_STUCK (R153). -/
abbrev rfCoexStuck : Code := 0x0583
/-- RF_COEX_RATE (R153). -/
abbrev rfCoexRate : Code := 0x0584
/-- RF_COEX_REARMED (R153). -/
abbrev rfCoexRearmed : Code := 0x0585
/-- RF_BG_CAL_FAIL (R153). -/
abbrev rfBgCalFail : Code := 0x0586
/-- RF_TX_DEFERRED (R153). -/
abbrev rfTxDeferred : Code := 0x0587
/-- VERDICT_COMMITTED (R171). -/
abbrev verdictCommitted : Code := 0x0680
/-- GEOMETRY_CHANGED (R171). -/
abbrev geometryChanged : Code := 0x0681
/-- RANGING_CAL_INVALID (R171). -/
abbrev rangingCalInvalid : Code := 0x0682
/-- LOCK_ON (R211). -/
abbrev lockOn : Code := 0x0780
/-- LOCK_OFF (R211). -/
abbrev lockOff : Code := 0x0781
/-- LOCK_STUCK_ON (R211). -/
abbrev lockStuckOn : Code := 0x0782
/-- LOCK_FEEDBACK_LOST (R211). -/
abbrev lockFeedbackLost : Code := 0x0783
/-- PANEL_FORCED (R211). -/
abbrev panelForced : Code := 0x0784
/-- PANEL_MASKED (R211). -/
abbrev panelMasked : Code := 0x0785
/-- PANEL_REARMED (R211). -/
abbrev panelRearmed : Code := 0x0786
/-- VEHICLE_SUSPECT (R211). -/
abbrev vehicleSuspect : Code := 0x0787
/-- RELEASE_REFUSED (R211). -/
abbrev releaseRefused : Code := 0x0788
/-- INVENTORY_DONE (R233). -/
abbrev inventoryDone : Code := 0x0880
/-- LOOP_OVERFULL (R233). -/
abbrev loopOverfull : Code := 0x0881
/-- MODULE_MISMATCH (R233). -/
abbrev moduleMismatch : Code := 0x0882
/-- BINDING_COMMITTED (R233). -/
abbrev bindingCommitted : Code := 0x0883
/-- TAG_WONT_HALT (R233). -/
abbrev tagWontHalt : Code := 0x0884
/-- SELF_SEEN (R233). -/
abbrev selfSeen : Code := 0x0885
/-- LOOP_FAULT (R233). -/
abbrev loopFault : Code := 0x0886
/-- FIELD_SESSION (R264). -/
abbrev fieldSession : Code := 0x0980
/-- SECURED_ENTERED (R264). -/
abbrev securedEntered : Code := 0x0981
/-- PIN_BLOCKED (R264). -/
abbrev pinBlocked : Code := 0x0982
/-- READER_BARRED (R264). -/
abbrev readerBarred : Code := 0x0983
/-- FILE_COMMITTED (R264). -/
abbrev fileCommitted : Code := 0x0984
/-- FIELD_FILE_COMMITTED (R264). -/
abbrev fieldFileCommitted : Code := 0x0985
/-- TORN_WRITE_RECOVERED (R264). -/
abbrev tornWriteRecovered : Code := 0x0986
/-- CARRY_REFRESHED (R264). -/
abbrev carryRefreshed : Code := 0x0987
/-- CIPHER_COMPARE_FAIL (R302). -/
abbrev cipherCompareFail : Code := 0x1080
/-- CIPHER_RETRACT (R302). -/
abbrev cipherRetract : Code := 0x1081
/-- CIPHER_SELFTEST (R302). -/
abbrev cipherSelftest : Code := 0x1082
/-- ROOT_INSTALLED (R302). -/
abbrev rootInstalled : Code := 0x1083
/-- CIPHER_LOCK_STALE (R302). -/
abbrev cipherLockStale : Code := 0x1084
/-- CIPHER_FAULTED (R302). -/
abbrev cipherFaulted : Code := 0x1085
/-- CIPHER_UNMASKED (R302). -/
abbrev cipherUnmasked : Code := 0x1086
/-- RNG_HEALTH_FAIL (R331). -/
abbrev rngHealthFail : Code := 0x1180
/-- RNG_RESTARTED (R331). -/
abbrev rngRestarted : Code := 0x1181
/-- RNG_LATCHED (R331). -/
abbrev rngLatched : Code := 0x1182
/-- RNG_RECOVERED (R331). -/
abbrev rngRecovered : Code := 0x1183
/-- RNG_STRETCH_EXHAUSTED (R331). -/
abbrev rngStretchExhausted : Code := 0x1184
/-- FW_STAGED (R331). -/
abbrev fwStaged : Code := 0x1185
/-- FW_ACTIVATED (R331). -/
abbrev fwActivated : Code := 0x1186
/-- FW_BANK_INVALID (R331). -/
abbrev fwBankInvalid : Code := 0x1187
/-- SHE_COMPARE_FAIL (R331). -/
abbrev sheCompareFail : Code := 0x1188
/-- RNG_SEEDED (R331). -/
abbrev rngSeeded : Code := 0x1189
/-- SHE_FAULTED (R331). -/
abbrev sheFaulted : Code := 0x118A
/-- BUS_OFF (R359). -/
abbrev busOff : Code := 0x1280
/-- BUS_RECOVERED (R359). -/
abbrev busRecovered : Code := 0x1281
/-- ERROR_PASSIVE (R359). -/
abbrev errorPassive : Code := 0x1282
/-- PARTNER_APPEARED (R359). -/
abbrev partnerAppeared : Code := 0x1283
/-- PARTNER_LOST (R359). -/
abbrev partnerLost : Code := 0x1284
/-- PARTNER_RETURNED (R359). -/
abbrev partnerReturned : Code := 0x1285
/-- PARTNER_RESTARTED (R359). -/
abbrev partnerRestarted : Code := 0x1286
/-- PARTNER_TABLE_FULL (R359). -/
abbrev partnerTableFull : Code := 0x1287
/-- NODE_ID_CLASH (R359). -/
abbrev nodeIdClash : Code := 0x1288
/-- RPDO_DISCARDED (R359). -/
abbrev rpdoDiscarded : Code := 0x1289
/-- EMCY_OVERFLOW (R359). -/
abbrev emcyOverflow : Code := 0x128A
/-- NMT_RESET_DEFERRED (R359). -/
abbrev nmtResetDeferred : Code := 0x128B
/-- RX_OVERRUN (R359). -/
abbrev rxOverrun : Code := 0x128C
/-- LINK_UP (R375). -/
abbrev linkUp : Code := 0x1380
/-- LINK_DOWN (R375). -/
abbrev linkDown : Code := 0x1381
/-- LINK_DEGRADED (R375). -/
abbrev linkDegraded : Code := 0x1382
/-- LINK_FAILED (R375). -/
abbrev linkFailed : Code := 0x1383
/-- READ_TIMEOUT_LOGGED (R375). -/
abbrev readTimeoutLogged : Code := 0x1384
/-- POSTED_WRITE_FAILED (R375). -/
abbrev postedWriteFailed : Code := 0x1385
/-- PREFETCH_DISCARDED (R375). -/
abbrev prefetchDiscarded : Code := 0x1386
/-- STREAM_GAP (R375). -/
abbrev streamGap : Code := 0x1387
/-- METER_GAP (R402). -/
abbrev meterGap : Code := 0x1480
/-- HVIL_OPENED (R402). -/
abbrev hvilOpened : Code := 0x1481
/-- HVIL_CLOSED (R402). -/
abbrev hvilClosed : Code := 0x1482
/-- HVIL_FAULT (R402). -/
abbrev hvilFault : Code := 0x1483
/-- ISO_WARNING (R402). -/
abbrev isoWarning : Code := 0x1484
/-- ISO_LOW (R402). -/
abbrev isoLow : Code := 0x1485
/-- FREE_RUNNING (R402). -/
abbrev freeRunning : Code := 0x1486
/-- TICK_RELOCKED (R402). -/
abbrev tickRelocked : Code := 0x1487
/-- CREDIT_STATE (R402). -/
abbrev creditState : Code := 0x1488
/-- ISO_RECOVERED (R402). -/
abbrev isoRecovered : Code := 0x1489
/-- CHAIN_BROKEN (R402). -/
abbrev chainBroken : Code := 0x148A
/-- CONFIG_RESTORED (R402). -/
abbrev configRestored : Code := 0x148B
/-- JOURNAL_LOW (R402). -/
abbrev journalLow : Code := 0x148C
/-- JOURNAL_RESERVE (R402). -/
abbrev journalReserve : Code := 0x148D
/-- WAKE (R423). -/
abbrev wake : Code := 0x1580
/-- WAKE_SOURCE_STUCK (R423). -/
abbrev wakeSourceStuck : Code := 0x1581
/-- WAKE_SOURCE_RATE (R423). -/
abbrev wakeSourceRate : Code := 0x1582
/-- WAKE_SOURCE_REARMED (R423). -/
abbrev wakeSourceRearmed : Code := 0x1583
/-- DOMAIN_REFUSED_LOGGED (R423). -/
abbrev domainRefusedLogged : Code := 0x1584
/-- DOMAIN_WOKEN_ON_ACCESS (R423). -/
abbrev domainWokenOnAccess : Code := 0x1585
/-- THERMAL_HIGH (R423). -/
abbrev thermalHigh : Code := 0x1586
/-- THERMAL_REFUSED (R423). -/
abbrev thermalRefused : Code := 0x1587
/-- THERMAL_GUARD (R423). -/
abbrev thermalGuard : Code := 0x1588
/-- DOMAIN_FAULTED (R423). -/
abbrev domainFaulted : Code := 0x1589
/-- RTC_SET (R423). -/
abbrev rtcSet : Code := 0x158A
/-- START_UP (R446). -/
abbrev startUp : Code := 0x1680
/-- HARDPAN_SET (R446). -/
abbrev hardpanSet : Code := 0x1681
/-- HARDPAN_RELEASED (R446). -/
abbrev hardpanReleased : Code := 0x1682
/-- TICK_REEXECUTED (R446). -/
abbrev tickReexecuted : Code := 0x1683
/-- RESET_REPORTED (R446). -/
abbrev resetReported : Code := 0x1684
/-- TAMPER (R446). -/
abbrev tamper : Code := 0x1685
/-- BOOT_STEP_FAILED (R446). -/
abbrev bootStepFailed : Code := 0x1686
/-- CLOCK_FALLBACK (R446). -/
abbrev clockFallback : Code := 0x1687
/-- SUPPLY_WARNING (R446). -/
abbrev supplyWarning : Code := 0x1688
/-- CREDENTIAL_WRITTEN (R463). -/
abbrev credentialWritten : Code := 0x1780
/-- DICT_RESTORED (R463). -/
abbrev dictRestored : Code := 0x1781
end Ev

end Sys2Proof.Machine
end

