-- ==== Sys2Proof/Machine/Entries.lean ====
section
/-! DEFINITION. The object dictionary's entries with a table row of their own (R30, R65, R96, R123, R152, R170, R210, R232,
R263, R301, R330, R358, R374, R401, R422, R445, R453, R462): type, access class, length, default and range of each. -/

namespace Sys2Proof.Machine

/-- The types of R449; the numbers of bytes are the row's lengths. -/
inductive EntryType where | bool | uint | int | octets | domain | vstring
  deriving DecidableEq, Repr

/-- The access classes of R7. -/
inductive Access where | ro | rw | wo | const | sw
  deriving DecidableEq, Repr

/-- How a table states a default: a number, all zero, nothing stored, or bytes. -/
inductive Default where
  | num (n : Nat)
  | zeros
  | empty
  | bytes (b : Bytes)
  deriving DecidableEq, Repr

/-- One row: the keys index × 256 + sub-index it covers, its type and class, the lengths it admits, its default, its
range, and whether its value outlives a start-up (R451; "since FACTORY" counts and FACTORY data; log entry 9). -/
structure EntryRow where
  first : Nat
  last : Nat
  type : EntryType
  access : Access
  minLen : Nat
  maxLen : Nat
  default : Default
  lo : Int
  hi : Int
  keep : Bool
  deriving DecidableEq, Repr

/-- R30 part a. -/
def entries01a : List EntryRow := [
  ⟨0x200000, 0x200000, .uint, .ro, 1, 1, .num 0x2, 0, 255, false⟩,
  ⟨0x200101, 0x200101, .uint, .sw, 1, 1, .zeros, 2, 12, false⟩,
  ⟨0x200102, 0x200102, .uint, .ro, 2, 2, .zeros, 0, 65535, false⟩,
  ⟨0x200103, 0x200103, .uint, .rw, 1, 1, .zeros, 5, 6, false⟩,
  ⟨0x200201, 0x200201, .uint, .ro, 1, 1, .num 0x1, 0, 255, false⟩,
  ⟨0x200202, 0x200202, .uint, .ro, 8, 8, .zeros, 0, 18446744073709551615, false⟩,
  ⟨0x200203, 0x200203, .uint, .ro, 4, 4, .zeros, 0, 4294967295, true⟩,
  ⟨0x200204, 0x200204, .uint, .ro, 1, 1, .zeros, 0, 255, false⟩,
  ⟨0x200205, 0x200205, .uint, .ro, 1, 1, .zeros, 0, 255, false⟩,
  ⟨0x200300, 0x200300, .uint, .ro, 2, 2, .zeros, 0, 65535, false⟩,
  ⟨0x200401, 0x200401, .bool, .rw, 1, 1, .zeros, 0, 1, true⟩,
  ⟨0x200402, 0x200402, .uint, .rw, 2, 2, .num 0x708, 60, 14400, true⟩,
  ⟨0x200403, 0x200403, .uint, .rw, 2, 2, .num 0x1388, 500, 60000, true⟩,
  ⟨0x200404, 0x200404, .uint, .ro, 4, 4, .zeros, 0, 4294967295, true⟩,
  ⟨0x202001, 0x202001, .domain, .wo, 194, 794, .empty, 0, 0, false⟩,
  ⟨0x202002, 0x202002, .uint, .ro, 2, 2, .zeros, 0, 65535, false⟩,
  ⟨0x202003, 0x202003, .octets, .ro, 16, 16, .zeros, 0, 0, false⟩,
  ⟨0x202004, 0x202004, .uint, .ro, 1, 1, .zeros, 0, 255, false⟩,
  ⟨0x202005, 0x202005, .uint, .ro, 8, 8, .zeros, 0, 18446744073709551615, false⟩,
  ⟨0x202006, 0x202006, .bool, .wo, 1, 1, .zeros, 0, 1, false⟩,
  ⟨0x202100, 0x202100, .octets, .sw, 57, 57, .zeros, 0, 0, true⟩,
  ⟨0x202200, 0x202200, .uint, .ro, 1, 1, .zeros, 0, 255, false⟩]

/-- R65 part a. -/
def entries02a : List EntryRow := [
  ⟨0x210000, 0x210000, .uint, .ro, 8, 8, .zeros, 0, 18446744073709551615, false⟩,
  ⟨0x210100, 0x210100, .uint, .ro, 4, 4, .zeros, 0, 4294967295, false⟩,
  ⟨0x210201, 0x210201, .uint, .ro, 1, 1, .zeros, 0, 255, false⟩,
  ⟨0x210202, 0x210202, .uint, .ro, 1, 1, .zeros, 0, 255, false⟩,
  ⟨0x210203, 0x210203, .uint, .ro, 4, 4, .zeros, 0, 4294967295, false⟩,
  ⟨0x210204, 0x210204, .uint, .ro, 4, 4, .zeros, 0, 4294967295, false⟩,
  ⟨0x210205, 0x210205, .uint, .ro, 4, 4, .zeros, 0, 4294967295, false⟩,
  ⟨0x210301, 0x210301, .uint, .ro, 2, 2, .num 0x200, 0, 65535, false⟩,
  ⟨0x210302, 0x210302, .uint, .rw, 2, 2, .num 0x40, 32, 256, true⟩,
  ⟨0x210303, 0x210303, .uint, .ro, 2, 2, .num 0x200, 0, 65535, false⟩,
  ⟨0x210401, 0x210401, .uint, .ro, 4, 4, .zeros, 0, 4294967295, false⟩,
  ⟨0x210402, 0x210402, .uint, .ro, 4, 4, .zeros, 0, 4294967295, false⟩,
  ⟨0x210403, 0x210403, .uint, .ro, 2, 2, .zeros, 0, 65535, false⟩,
  ⟨0x210404, 0x210404, .uint, .ro, 4, 4, .zeros, 0, 4294967295, false⟩,
  ⟨0x210601, 0x210601, .uint, .rw, 2, 2, .num 0x28, 8, 4000, true⟩,
  ⟨0x210602, 0x210602, .uint, .rw, 2, 2, .num 0x4, 2, 40, true⟩,
  ⟨0x211001, 0x21100C, .uint, .wo, 1, 1, .zeros, 0, 255, false⟩,
  ⟨0x211101, 0x211140, .uint, .wo, 1, 1, .zeros, 1, 1, false⟩,
  ⟨0x211201, 0x21120C, .uint, .ro, 2, 2, .zeros, 0, 65535, false⟩,
  ⟨0x212001, 0x212040, .uint, .ro, 4, 4, .num 0xFF, 0, 4294967295, false⟩,
  ⟨0x212201, 0x212240, .uint, .ro, 2, 2, .zeros, 0, 65535, false⟩]

/-- R96 part a. -/
def entries03a : List EntryRow := [
  ⟨0x220001, 0x220001, .uint, .sw, 2, 2, .num 0x4E2, 1000, 1500, true⟩,
  ⟨0x220002, 0x220002, .uint, .const, 1, 1, .num 0x20, 0, 255, true⟩,
  ⟨0x220100, 0x220100, .uint, .rw, 1, 1, .num 0xFF, 0, 255, true⟩,
  ⟨0x220201, 0x220208, .uint, .ro, 1, 1, .num 0x1, 0, 255, false⟩,
  ⟨0x220301, 0x220308, .uint, .wo, 1, 1, .zeros, 1, 1, false⟩,
  ⟨0x220401, 0x220408, .uint, .ro, 1, 1, .num 0xF, 0, 255, false⟩,
  ⟨0x220501, 0x220508, .uint, .ro, 4, 4, .zeros, 0, 4294967295, true⟩,
  ⟨0x220601, 0x220608, .uint, .ro, 4, 4, .zeros, 0, 4294967295, false⟩,
  ⟨0x220701, 0x220708, .uint, .ro, 1, 1, .zeros, 0, 255, false⟩,
  ⟨0x220801, 0x220801, .uint, .rw, 1, 1, .num 0xC, 2, 15, true⟩,
  ⟨0x220802, 0x220802, .uint, .rw, 1, 1, .num 0x9, 2, 15, true⟩,
  ⟨0x220803, 0x220803, .uint, .rw, 1, 1, .num 0xC, 2, 15, true⟩,
  ⟨0x220901, 0x220901, .uint, .rw, 1, 1, .num 0x8, 2, 32, true⟩,
  ⟨0x220902, 0x220902, .uint, .rw, 1, 1, .num 0x2, 2, 32, true⟩,
  ⟨0x220903, 0x220903, .uint, .rw, 1, 1, .num 0x2, 2, 32, true⟩,
  ⟨0x221101, 0x221101, .uint, .rw, 1, 1, .num 0xFF, 0, 255, true⟩,
  ⟨0x221102, 0x221102, .uint, .rw, 1, 1, .zeros, 0, 1, true⟩,
  ⟨0x221103, 0x221103, .uint, .rw, 1, 1, .zeros, 0, 1, true⟩,
  ⟨0x221201, 0x221201, .uint, .rw, 1, 1, .num 0x1, 0, 255, true⟩,
  ⟨0x221202, 0x221202, .uint, .rw, 1, 1, .num 0x23, 0, 255, true⟩,
  ⟨0x221203, 0x221203, .uint, .rw, 1, 1, .num 0x45, 0, 255, true⟩,
  ⟨0x221204, 0x221204, .uint, .rw, 1, 1, .num 0x67, 0, 255, true⟩,
  ⟨0x222000, 0x222000, .uint, .wo, 1, 1, .zeros, 1, 255, false⟩,
  ⟨0x222100, 0x222100, .uint, .ro, 2, 2, .zeros, 0, 65535, false⟩,
  ⟨0x222200, 0x222200, .int, .ro, 2, 2, .zeros, (-32768), 32767, true⟩,
  ⟨0x222300, 0x222300, .uint, .rw, 1, 1, .num 0x14, 5, 40, true⟩,
  ⟨0x223001, 0x223001, .uint, .rw, 2, 2, .num 0x190, 50, 2000, true⟩,
  ⟨0x223002, 0x223002, .uint, .rw, 2, 2, .num 0x14, 1, 200, true⟩,
  ⟨0x223101, 0x223108, .uint, .ro, 2, 2, .zeros, 0, 65535, false⟩,
  ⟨0x224000, 0x224000, .uint, .ro, 2, 2, .zeros, 0, 65535, false⟩]

/-- R96 part b. -/
def entries03b : List EntryRow := [
  ⟨0x224101, 0x224108, .uint, .ro, 2, 2, .zeros, 0, 65535, false⟩,
  ⟨0x224201, 0x224208, .uint, .ro, 4, 4, .zeros, 0, 4294967295, true⟩]

/-- R123 part a. -/
def entries04a : List EntryRow := [
  ⟨0x230001, 0x230001, .uint, .sw, 2, 2, .zeros, 1, 65535, true⟩,
  ⟨0x230002, 0x230002, .uint, .sw, 2, 2, .zeros, 1, 65535, true⟩,
  ⟨0x230201, 0x230201, .uint, .ro, 4, 4, .zeros, 0, 4294967295, true⟩,
  ⟨0x230202, 0x230202, .uint, .ro, 1, 1, .zeros, 0, 255, true⟩,
  ⟨0x230301, 0x230301, .bool, .sw, 1, 1, .zeros, 0, 1, true⟩,
  ⟨0x230302, 0x230302, .uint, .sw, 4, 4, .zeros, 0, 4294967295, true⟩,
  ⟨0x230401, 0x230401, .uint, .rw, 8, 8, .num 0xFFFFFFFFFF, 1, 1099511627775, true⟩,
  ⟨0x230402, 0x230402, .uint, .rw, 1, 1, .num 0x2, 0, 3, true⟩,
  ⟨0x230403, 0x230403, .uint, .rw, 1, 1, .num 0xA, 10, 20, true⟩,
  ⟨0x230501, 0x230501, .uint, .rw, 1, 1, .num 0x2, 1, 4, true⟩,
  ⟨0x230502, 0x230502, .uint, .rw, 1, 1, .num 0x2, 0, 4, true⟩,
  ⟨0x230503, 0x230503, .uint, .rw, 2, 2, .num 0xFA, 100, 1000, true⟩,
  ⟨0x230504, 0x230504, .uint, .rw, 2, 2, .num 0x78, 50, 500, true⟩,
  ⟨0x230600, 0x230600, .uint, .rw, 1, 1, .num 0x10, 1, 16, true⟩,
  ⟨0x230700, 0x230700, .uint, .rw, 2, 2, .num 0x3C, 0, 3600, true⟩,
  ⟨0x231000, 0x231000, .uint, .wo, 1, 1, .zeros, 1, 1, false⟩,
  ⟨0x231001, 0x231001, .uint, .rw, 1, 1, .zeros, 0, 3, true⟩,
  ⟨0x231101, 0x231101, .uint, .ro, 2, 2, .zeros, 0, 65535, false⟩,
  ⟨0x231102, 0x231102, .uint, .ro, 4, 4, .zeros, 0, 4294967295, false⟩,
  ⟨0x231103, 0x231103, .uint, .ro, 8, 8, .zeros, 0, 18446744073709551615, false⟩,
  ⟨0x231104, 0x231104, .uint, .ro, 4, 4, .zeros, 0, 4294967295, false⟩,
  ⟨0x231201, 0x231201, .uint, .ro, 4, 4, .zeros, 0, 4294967295, true⟩,
  ⟨0x231202, 0x231202, .uint, .ro, 4, 4, .zeros, 0, 4294967295, true⟩,
  ⟨0x231203, 0x231203, .uint, .ro, 4, 4, .zeros, 0, 4294967295, true⟩,
  ⟨0x231204, 0x231204, .uint, .ro, 4, 4, .zeros, 0, 4294967295, true⟩]

/-- R152 part a. -/
def entries05a : List EntryRow := [
  ⟨0x240001, 0x240001, .uint, .ro, 1, 1, .zeros, 0, 255, false⟩,
  ⟨0x240002, 0x240002, .uint, .ro, 2, 2, .zeros, 0, 65535, false⟩,
  ⟨0x240003, 0x240003, .int, .ro, 2, 2, .zeros, (-32768), 32767, false⟩,
  ⟨0x240101, 0x240101, .int, .rw, 1, 1, .num 0x14, (-40), 28, true⟩,
  ⟨0x240102, 0x240102, .int, .sw, 1, 1, .num 0x1C, (-40), 28, true⟩,
  ⟨0x240201, 0x240201, .uint, .rw, 1, 1, .zeros, 0, 2, true⟩,
  ⟨0x240202, 0x240202, .uint, .rw, 1, 1, .zeros, 0, 1, true⟩,
  ⟨0x240300, 0x240300, .uint, .rw, 1, 1, .zeros, 0, 1, true⟩,
  ⟨0x240401, 0x240401, .uint, .ro, 1, 1, .zeros, 0, 255, false⟩,
  ⟨0x240402, 0x240402, .uint, .ro, 1, 1, .zeros, 0, 255, false⟩,
  ⟨0x240501, 0x240503, .octets, .ro, 17, 17, .zeros, 0, 0, true⟩,
  ⟨0x242000, 0x242000, .bool, .wo, 1, 1, .zeros, 0, 1, false⟩,
  ⟨0x242101, 0x242101, .uint, .ro, 2, 2, .zeros, 0, 65535, false⟩,
  ⟨0x242102, 0x242102, .uint, .ro, 8, 8, .zeros, 0, 18446744073709551615, false⟩,
  ⟨0x242103, 0x242103, .int, .ro, 2, 2, .zeros, (-32768), 32767, true⟩,
  ⟨0x242104, 0x242104, .uint, .ro, 1, 1, .zeros, 0, 255, false⟩,
  ⟨0x242105, 0x242105, .uint, .ro, 8, 8, .zeros, 0, 18446744073709551615, false⟩,
  ⟨0x242201, 0x242201, .uint, .rw, 2, 2, .num 0x1, 1, 600, true⟩,
  ⟨0x242202, 0x242202, .uint, .rw, 2, 2, .num 0x3C, 10, 3600, true⟩,
  ⟨0x242203, 0x242203, .uint, .rw, 2, 2, .num 0x3C, 10, 3600, true⟩,
  ⟨0x242204, 0x242204, .uint, .rw, 2, 2, .num 0xA, 1, 3600, true⟩,
  ⟨0x242205, 0x242205, .uint, .rw, 1, 1, .num 0x5, 2, 10, true⟩,
  ⟨0x242300, 0x242300, .uint, .ro, 4, 4, .zeros, 0, 4294967295, false⟩,
  ⟨0x243001, 0x243001, .bool, .rw, 1, 1, .zeros, 0, 1, true⟩,
  ⟨0x243002, 0x243002, .uint, .rw, 1, 1, .zeros, 0, 1, true⟩,
  ⟨0x243003, 0x243003, .uint, .rw, 1, 1, .zeros, 0, 7, true⟩,
  ⟨0x243004, 0x243004, .uint, .rw, 1, 1, .num 0x14, 0, 40, true⟩,
  ⟨0x243005, 0x243005, .uint, .ro, 1, 1, .zeros, 0, 255, false⟩,
  ⟨0x244001, 0x244001, .int, .ro, 2, 2, .num 0xFC18, (-32768), 32767, false⟩,
  ⟨0x244100, 0x244100, .domain, .ro, 4096, 4096, .empty, 0, 0, false⟩]

/-- R152 part b. -/
def entries05b : List EntryRow := [
  ⟨0x245001, 0x245001, .uint, .wo, 1, 1, .zeros, 0, 6, false⟩,
  ⟨0x245002, 0x245002, .uint, .rw, 2, 2, .num 0x988, 2402, 2480, true⟩,
  ⟨0x245003, 0x245003, .uint, .rw, 1, 1, .num 0x1, 0, 2, true⟩,
  ⟨0x245004, 0x245004, .int, .rw, 1, 1, .zeros, (-40), 28, true⟩,
  ⟨0x245005, 0x245005, .uint, .rw, 1, 1, .zeros, 0, 2, true⟩,
  ⟨0x245006, 0x245006, .uint, .rw, 4, 4, .num 0x3E8, 1, 600000, true⟩,
  ⟨0x245007, 0x245007, .domain, .rw, 0, 255, .empty, 0, 0, true⟩,
  ⟨0x245008, 0x245008, .uint, .rw, 2, 2, .num 0x1, 1, 65535, true⟩,
  ⟨0x245009, 0x245009, .uint, .rw, 2, 2, .num 0x3E8, 400, 65535, true⟩,
  ⟨0x24500A, 0x24500A, .uint, .rw, 4, 4, .num 0x5A3C96E1, 0, 4294967295, true⟩,
  ⟨0x24500B, 0x24500B, .uint, .rw, 2, 2, .num 0x64, 20, 1000, true⟩,
  ⟨0x245101, 0x245101, .uint, .ro, 2, 2, .zeros, 0, 65535, false⟩,
  ⟨0x245103, 0x245103, .uint, .ro, 2, 2, .zeros, 0, 65535, false⟩,
  ⟨0x245104, 0x245104, .uint, .ro, 2, 2, .zeros, 0, 65535, false⟩,
  ⟨0x245105, 0x245105, .domain, .ro, 0, 255, .empty, 0, 0, false⟩,
  ⟨0x245200, 0x245200, .octets, .ro, 79, 79, .zeros, 0, 0, false⟩,
  ⟨0x246001, 0x246001, .uint, .ro, 4, 4, .zeros, 0, 4294967295, false⟩,
  ⟨0x246002, 0x246002, .uint, .ro, 4, 4, .zeros, 0, 4294967295, false⟩,
  ⟨0x246003, 0x246003, .uint, .ro, 4, 4, .zeros, 0, 4294967295, false⟩,
  ⟨0x246004, 0x246004, .uint, .ro, 4, 4, .zeros, 0, 4294967295, false⟩,
  ⟨0x246005, 0x246005, .uint, .ro, 4, 4, .zeros, 0, 4294967295, false⟩]

/-- R170 part a. -/
def entries06a : List EntryRow := [
  ⟨0x250001, 0x250001, .uint, .ro, 2, 2, .zeros, 0, 65535, false⟩,
  ⟨0x250002, 0x250002, .uint, .ro, 4, 4, .zeros, 0, 4294967295, false⟩,
  ⟨0x250003, 0x250003, .uint, .ro, 4, 4, .zeros, 0, 4294967295, false⟩,
  ⟨0x250004, 0x250004, .int, .ro, 4, 4, .zeros, (-2147483648), 2147483647, false⟩,
  ⟨0x250005, 0x250005, .uint, .ro, 1, 1, .zeros, 0, 255, false⟩,
  ⟨0x250006, 0x250006, .uint, .ro, 1, 1, .zeros, 0, 255, false⟩,
  ⟨0x250007, 0x250007, .octets, .ro, 6, 6, .zeros, 0, 0, false⟩,
  ⟨0x250008, 0x250008, .uint, .ro, 1, 1, .zeros, 0, 255, false⟩,
  ⟨0x250009, 0x250009, .uint, .ro, 4, 4, .zeros, 0, 4294967295, false⟩,
  ⟨0x250100, 0x250100, .octets, .rw, 10, 10, .bytes [0xFF, 0xFF, 0xFF, 0xFF, 0xFF, 0xFF, 0xFF, 0xFF, 0xFF, 0x7F], 0, 0, true⟩,
  ⟨0x250201, 0x250201, .int, .rw, 1, 1, .num 0xC, (-40), 28, true⟩,
  ⟨0x250202, 0x250202, .uint, .rw, 1, 1, .num 0x32, 25, 90, true⟩,
  ⟨0x250203, 0x250203, .uint, .rw, 2, 2, .num 0x14, 8, 400, true⟩,
  ⟨0x250301, 0x250301, .int, .sw, 2, 2, .zeros, (-2000), 2000, true⟩,
  ⟨0x250302, 0x250302, .int, .sw, 2, 2, .zeros, (-2000), 2000, true⟩,
  ⟨0x250303, 0x250303, .int, .sw, 2, 2, .zeros, (-2000), 2000, true⟩,
  ⟨0x250304, 0x250304, .int, .sw, 2, 2, .zeros, (-2000), 2000, true⟩,
  ⟨0x250401, 0x250402, .domain, .ro, 0, 4194304, .empty, 0, 0, true⟩,
  ⟨0x251001, 0x251008, .octets, .sw, 14, 14, .zeros, 0, 0, true⟩,
  ⟨0x251101, 0x251102, .octets, .sw, 6, 6, .zeros, 0, 0, true⟩,
  ⟨0x251201, 0x251201, .octets, .sw, 6, 6, .zeros, 0, 0, true⟩,
  ⟨0x251202, 0x251202, .octets, .sw, 6, 6, .zeros, 0, 0, true⟩,
  ⟨0x251203, 0x251203, .uint, .sw, 2, 2, .zeros, 0, 5000, true⟩,
  ⟨0x251204, 0x251204, .uint, .sw, 2, 2, .num 0xC8, 0, 2000, true⟩,
  ⟨0x251300, 0x251300, .uint, .sw, 2, 2, .num 0x9C4, 300, 5000, true⟩,
  ⟨0x252001, 0x252001, .uint, .sw, 1, 1, .num 0x38, 48, 72, true⟩,
  ⟨0x252002, 0x252002, .uint, .sw, 1, 1, .num 0x6, 4, 8, true⟩,
  ⟨0x252003, 0x252003, .uint, .sw, 2, 2, .num 0xBB8, 1000, 10000, true⟩,
  ⟨0x252004, 0x252004, .uint, .sw, 2, 2, .num 0x258, 200, 2000, true⟩,
  ⟨0x252005, 0x252005, .uint, .sw, 2, 2, .num 0xFA, 100, 1000, true⟩]

/-- R170 part b. -/
def entries06b : List EntryRow := [
  ⟨0x252006, 0x252006, .uint, .sw, 1, 1, .num 0x2D, 20, 90, true⟩,
  ⟨0x252101, 0x252101, .uint, .sw, 2, 2, .num 0x3E8, 300, 3000, true⟩,
  ⟨0x252102, 0x252102, .uint, .sw, 1, 1, .num 0x1E, 10, 120, true⟩,
  ⟨0x252201, 0x252201, .uint, .sw, 1, 1, .zeros, 0, 1, true⟩,
  ⟨0x252202, 0x252202, .uint, .sw, 2, 2, .num 0x3E8, 300, 2500, true⟩,
  ⟨0x253001, 0x253007, .uint, .ro, 4, 4, .zeros, 0, 4294967295, true⟩]

/-- R210 part a. -/
def entries07a : List EntryRow := [
  ⟨0x260001, 0x260001, .uint, .ro, 1, 1, .zeros, 0, 255, false⟩,
  ⟨0x260002, 0x260002, .uint, .ro, 8, 8, .zeros, 0, 18446744073709551615, false⟩,
  ⟨0x260003, 0x260003, .uint, .ro, 1, 1, .zeros, 0, 255, false⟩,
  ⟨0x260004, 0x260004, .uint, .ro, 4, 4, .zeros, 0, 4294967295, false⟩,
  ⟨0x260005, 0x260005, .uint, .ro, 4, 4, .zeros, 0, 4294967295, true⟩,
  ⟨0x260006, 0x260006, .uint, .ro, 4, 4, .zeros, 0, 4294967295, true⟩,
  ⟨0x260101, 0x260101, .uint, .ro, 2, 2, .zeros, 0, 65535, false⟩,
  ⟨0x260102, 0x260102, .uint, .ro, 4, 4, .zeros, 0, 4294967295, false⟩,
  ⟨0x260103, 0x260103, .uint, .ro, 1, 1, .zeros, 0, 255, false⟩,
  ⟨0x261001, 0x261001, .domain, .wo, 20, 126, .empty, 0, 0, false⟩,
  ⟨0x261002, 0x261002, .domain, .ro, 0, 4194304, .empty, 0, 0, false⟩,
  ⟨0x261101, 0x261101, .octets, .rw, 32, 32, .zeros, 0, 0, true⟩,
  ⟨0x261102, 0x261102, .octets, .ro, 32, 32, .zeros, 0, 0, false⟩,
  ⟨0x262001, 0x262001, .uint, .rw, 2, 2, .num 0x28, 5, 1000, true⟩,
  ⟨0x262002, 0x262002, .uint, .rw, 2, 2, .num 0x3C, 0, 3600, true⟩,
  ⟨0x262003, 0x262003, .uint, .rw, 1, 1, .num 0x3, 1, 10, true⟩,
  ⟨0x263001, 0x263001, .uint, .sw, 1, 1, .num 0x19, 5, 90, true⟩,
  ⟨0x263002, 0x263002, .uint, .rw, 2, 2, .num 0x28, 10, 400, true⟩,
  ⟨0x263003, 0x263003, .uint, .sw, 1, 1, .zeros, 0, 1, true⟩,
  ⟨0x263004, 0x263004, .uint, .ro, 4, 4, .zeros, 0, 4294967295, true⟩,
  ⟨0x264000, 0x264000, .uint, .const, 2, 2, .num 0x64, 0, 65535, true⟩,
  ⟨0x264101, 0x264101, .uint, .rw, 2, 2, .num 0x28, 4, 400, true⟩,
  ⟨0x264102, 0x264102, .uint, .rw, 2, 2, .num 0x4, 4, 400, true⟩,
  ⟨0x264103, 0x264103, .uint, .rw, 2, 2, .num 0x8, 4, 400, true⟩,
  ⟨0x264104, 0x264104, .uint, .sw, 1, 1, .zeros, 0, 3, true⟩,
  ⟨0x265001, 0x265001, .uint, .rw, 2, 2, .num 0xC8, 50, 2000, true⟩,
  ⟨0x265002, 0x265002, .uint, .rw, 1, 1, .num 0x1E, 10, 100, true⟩,
  ⟨0x265101, 0x265101, .uint, .ro, 1, 1, .zeros, 0, 255, false⟩,
  ⟨0x265102, 0x265102, .uint, .sw, 1, 1, .zeros, 0, 1, true⟩,
  ⟨0x265103, 0x265103, .uint, .rw, 2, 2, .num 0x14, 1, 200, true⟩]

/-- R210 part b. -/
def entries07b : List EntryRow := [
  ⟨0x265104, 0x265104, .uint, .sw, 1, 1, .num 0x1, 0, 1, true⟩,
  ⟨0x266001, 0x266008, .octets, .sw, 57, 57, .zeros, 0, 0, true⟩]

/-- R232 part a. -/
def entries08a : List EntryRow := [
  ⟨0x270001, 0x270001, .uint, .ro, 1, 1, .zeros, 0, 255, false⟩,
  ⟨0x270002, 0x270002, .uint, .ro, 2, 2, .zeros, 0, 65535, false⟩,
  ⟨0x270101, 0x270101, .uint, .rw, 1, 1, .num 0xFF, 0, 255, true⟩,
  ⟨0x270102, 0x270102, .uint, .rw, 2, 2, .num 0xC8, 50, 2000, true⟩,
  ⟨0x270103, 0x270103, .uint, .rw, 2, 2, .num 0x13EC, 5100, 20000, true⟩,
  ⟨0x270201, 0x270201, .uint, .rw, 2, 2, .num 0x1F4, 100, 1000, true⟩,
  ⟨0x270202, 0x270202, .uint, .rw, 1, 1, .num 0x2, 0, 3, true⟩,
  ⟨0x270203, 0x270203, .uint, .rw, 1, 1, .num 0x6, 0, 8, true⟩,
  ⟨0x270204, 0x270204, .uint, .rw, 1, 1, .num 0x2, 0, 4, true⟩,
  ⟨0x271001, 0x271001, .uint, .wo, 1, 1, .zeros, 1, 3, false⟩,
  ⟨0x271002, 0x271002, .uint, .rw, 1, 1, .num 0xFF, 0, 255, true⟩,
  ⟨0x271003, 0x271003, .uint, .ro, 2, 2, .zeros, 0, 65535, false⟩,
  ⟨0x271004, 0x271004, .uint, .ro, 4, 4, .zeros, 0, 4294967295, false⟩,
  ⟨0x271005, 0x271005, .uint, .ro, 1, 1, .zeros, 0, 255, false⟩,
  ⟨0x271101, 0x271101, .uint, .rw, 2, 2, .zeros, 0, 65535, true⟩,
  ⟨0x271102, 0x271102, .uint, .rw, 2, 2, .num 0xBB8, 1500, 10000, true⟩,
  ⟨0x271201, 0x271201, .octets, .ro, 32, 32, .zeros, 0, 0, false⟩,
  ⟨0x271202, 0x271202, .uint, .ro, 1, 1, .zeros, 0, 255, false⟩,
  ⟨0x271203, 0x271203, .octets, .sw, 32, 32, .zeros, 0, 0, true⟩,
  ⟨0x271204, 0x271204, .uint, .ro, 2, 2, .zeros, 0, 65535, false⟩,
  ⟨0x272001, 0x272004, .octets, .sw, 57, 57, .zeros, 0, 0, true⟩,
  ⟨0x273001, 0x273001, .uint, .sw, 1, 1, .zeros, 0, 1, true⟩,
  ⟨0x273101, 0x273101, .uint, .ro, 1, 1, .zeros, 0, 255, false⟩,
  ⟨0x273102, 0x273102, .uint, .ro, 1, 1, .zeros, 0, 255, false⟩,
  ⟨0x273103, 0x273103, .uint, .ro, 1, 1, .zeros, 0, 255, false⟩,
  ⟨0x273104, 0x273104, .uint, .ro, 1, 1, .zeros, 0, 255, false⟩,
  ⟨0x273105, 0x273105, .uint, .ro, 2, 2, .zeros, 0, 65535, false⟩,
  ⟨0x274001, 0x274080, .octets, .ro, 24, 24, .zeros, 0, 0, false⟩,
  ⟨0x274101, 0x274180, .octets, .ro, 32, 32, .zeros, 0, 0, false⟩,
  ⟨0x274200, 0x274200, .uint, .ro, 1, 1, .zeros, 0, 255, false⟩]

/-- R232 part b. -/
def entries08b : List EntryRow := [
  ⟨0x275000, 0x275000, .uint, .ro, 4, 4, .zeros, 0, 4294967295, true⟩]

/-- R263 part a. -/
def entries09a : List EntryRow := [
  ⟨0x280001, 0x280001, .uint, .ro, 1, 1, .zeros, 0, 255, false⟩,
  ⟨0x280002, 0x280002, .uint, .ro, 1, 1, .zeros, 0, 255, false⟩,
  ⟨0x280003, 0x280003, .uint, .ro, 2, 2, .zeros, 0, 65535, false⟩,
  ⟨0x280004, 0x280004, .uint, .ro, 2, 2, .zeros, 0, 65535, false⟩,
  ⟨0x280101, 0x280101, .octets, .const, 7, 7, .zeros, 0, 0, true⟩,
  ⟨0x280102, 0x280102, .octets, .const, 5, 5, .bytes [0x05, 0x78, 0x11, 0x70, 0x00], 0, 0, true⟩,
  ⟨0x280200, 0x280200, .octets, .sw, 114, 114, .empty, 0, 0, true⟩,
  ⟨0x281001, 0x281001, .octets, .sw, 32, 32, .zeros, 0, 0, true⟩,
  ⟨0x281002, 0x281002, .uint, .rw, 1, 1, .num 0x5, 1, 10, true⟩,
  ⟨0x281003, 0x281003, .uint, .ro, 1, 1, .num 0x5, 0, 255, false⟩,
  ⟨0x281004, 0x281004, .uint, .sw, 1, 1, .num 0x5, 0, 255, true⟩,
  ⟨0x281101, 0x281110, .octets, .sw, 8, 8, .zeros, 0, 0, true⟩,
  ⟨0x281201, 0x281210, .uint, .ro, 1, 1, .zeros, 0, 255, false⟩,
  ⟨0x281300, 0x281300, .uint, .rw, 1, 1, .num 0xA, 3, 50, true⟩,
  ⟨0x282001, 0x282001, .uint, .rw, 2, 2, .num 0x110, 0, 65535, true⟩,
  ⟨0x282002, 0x282002, .domain, .wo, 0, 4194304, .empty, 0, 0, false⟩,
  ⟨0x282003, 0x282003, .uint, .ro, 2, 2, .zeros, 0, 65535, false⟩,
  ⟨0x282004, 0x282004, .domain, .ro, 0, 4194304, .empty, 0, 0, false⟩,
  ⟨0x282005, 0x282005, .uint, .ro, 2, 2, .zeros, 0, 65535, false⟩,
  ⟨0x282100, 0x282100, .uint, .rw, 2, 2, .num 0xE10, 60, 65535, true⟩,
  ⟨0x282102, 0x282102, .uint, .rw, 2, 2, .num 0x7D0, 500, 10000, true⟩,
  ⟨0x282201, 0x282201, .uint, .ro, 4, 4, .zeros, 0, 4294967295, true⟩,
  ⟨0x282202, 0x282202, .uint, .ro, 4, 4, .zeros, 0, 4294967295, true⟩,
  ⟨0x282203, 0x282203, .uint, .ro, 4, 4, .zeros, 0, 4294967295, false⟩,
  ⟨0x282301, 0x282310, .octets, .ro, 32, 32, .zeros, 0, 0, false⟩,
  ⟨0x282400, 0x282400, .uint, .ro, 4, 4, .zeros, 0, 4294967295, false⟩]

/-- R301 part a. -/
def entries10a : List EntryRow := [
  ⟨0x290001, 0x290001, .uint, .ro, 1, 1, .zeros, 0, 255, false⟩,
  ⟨0x290100, 0x290100, .uint, .ro, 4, 4, .zeros, 0, 4294967295, false⟩,
  ⟨0x290201, 0x290201, .uint, .ro, 1, 1, .zeros, 0, 255, false⟩,
  ⟨0x290202, 0x290202, .uint, .ro, 4, 4, .zeros, 0, 4294967295, false⟩,
  ⟨0x290301, 0x290301, .uint, .ro, 1, 1, .zeros, 0, 255, false⟩,
  ⟨0x290302, 0x290302, .uint, .ro, 1, 1, .zeros, 0, 255, false⟩,
  ⟨0x290401, 0x290401, .uint, .ro, 1, 1, .num 0x80, 0, 255, false⟩,
  ⟨0x290402, 0x290402, .uint, .ro, 1, 1, .num 0x80, 0, 255, false⟩,
  ⟨0x290403, 0x290403, .uint, .ro, 1, 1, .num 0x10, 0, 255, false⟩,
  ⟨0x291001, 0x291010, .uint, .ro, 1, 1, .zeros, 0, 255, false⟩,
  ⟨0x291100, 0x291100, .octets, .sw, 50, 50, .zeros, 0, 0, true⟩,
  ⟨0x291200, 0x291200, .uint, .ro, 2, 2, .zeros, 0, 65535, false⟩,
  ⟨0x292000, 0x292000, .bool, .wo, 1, 1, .zeros, 0, 1, false⟩,
  ⟨0x292100, 0x292100, .uint, .ro, 2, 2, .zeros, 0, 65535, false⟩,
  ⟨0x293001, 0x293001, .uint, .sw, 1, 1, .num 0xF, 0, 15, true⟩,
  ⟨0x293002, 0x293002, .bool, .sw, 1, 1, .num 0x1, 0, 1, true⟩,
  ⟨0x293100, 0x293100, .uint, .ro, 4, 4, .zeros, 0, 4294967295, true⟩,
  ⟨0x294001, 0x294001, .uint, .ro, 4, 4, .zeros, 0, 4294967295, false⟩,
  ⟨0x294002, 0x294002, .uint, .ro, 4, 4, .zeros, 0, 4294967295, false⟩,
  ⟨0x294003, 0x294003, .uint, .ro, 4, 4, .zeros, 0, 4294967295, true⟩,
  ⟨0x294004, 0x294004, .uint, .ro, 4, 4, .zeros, 0, 4294967295, false⟩,
  ⟨0x294100, 0x294100, .uint, .ro, 4, 4, .zeros, 0, 4294967295, true⟩,
  ⟨0x294200, 0x294200, .uint, .ro, 4, 4, .zeros, 0, 4294967295, false⟩]

/-- R330 part a. -/
def entries11a : List EntryRow := [
  ⟨0x2A0001, 0x2A0001, .uint, .ro, 1, 1, .zeros, 0, 255, false⟩,
  ⟨0x2A0002, 0x2A0002, .uint, .ro, 4, 4, .zeros, 0, 4294967295, false⟩,
  ⟨0x2A0003, 0x2A0003, .uint, .ro, 4, 4, .zeros, 0, 4294967295, true⟩,
  ⟨0x2A0004, 0x2A0004, .uint, .ro, 4, 4, .zeros, 0, 4294967295, true⟩,
  ⟨0x2A0100, 0x2A0100, .octets, .ro, 57, 57, .zeros, 0, 0, true⟩,
  ⟨0x2A0200, 0x2A0200, .domain, .ro, 422, 422, .empty, 0, 0, true⟩,
  ⟨0x2A0300, 0x2A0300, .octets, .const, 57, 57, .zeros, 0, 0, true⟩,
  ⟨0x2A0401, 0x2A0401, .domain, .sw, 422, 422, .empty, 0, 0, false⟩,
  ⟨0x2A0402, 0x2A0402, .octets, .sw, 114, 114, .zeros, 0, 0, false⟩,
  ⟨0x2A0403, 0x2A0403, .uint, .ro, 2, 2, .zeros, 0, 65535, false⟩,
  ⟨0x2A2001, 0x2A2001, .octets, .wo, 0, 4194304, .zeros, 0, 0, false⟩,
  ⟨0x2A2002, 0x2A2002, .domain, .ro, 207, 255, .empty, 0, 0, false⟩,
  ⟨0x2A2003, 0x2A2003, .uint, .ro, 2, 2, .zeros, 0, 65535, false⟩,
  ⟨0x2A3001, 0x2A3001, .domain, .wo, 574, 523822, .empty, 0, 0, false⟩,
  ⟨0x2A3002, 0x2A3002, .uint, .ro, 2, 2, .zeros, 0, 65535, false⟩,
  ⟨0x2A3003, 0x2A3003, .uint, .ro, 1, 1, .zeros, 0, 255, false⟩,
  ⟨0x2A3101, 0x2A3101, .uint, .wo, 1, 1, .zeros, 0, 1, false⟩,
  ⟨0x2A3102, 0x2A3102, .uint, .ro, 2, 2, .zeros, 0, 65535, false⟩,
  ⟨0x2A3201, 0x2A3202, .uint, .ro, 1, 1, .zeros, 0, 255, true⟩,
  ⟨0x2A3301, 0x2A3302, .uint, .ro, 4, 4, .zeros, 0, 4294967295, false⟩,
  ⟨0x2A3401, 0x2A3402, .octets, .ro, 16, 16, .zeros, 0, 0, false⟩,
  ⟨0x2A3500, 0x2A3500, .uint, .ro, 4, 4, .zeros, 0, 4294967295, false⟩,
  ⟨0x2A3600, 0x2A3600, .uint, .ro, 1, 1, .zeros, 0, 255, false⟩,
  ⟨0x2A4001, 0x2A4001, .uint, .ro, 1, 1, .zeros, 0, 255, false⟩,
  ⟨0x2A4002, 0x2A4002, .uint, .ro, 1, 1, .zeros, 0, 255, false⟩,
  ⟨0x2A4003, 0x2A4003, .uint, .rw, 2, 2, .num 0x3C, 10, 3600, true⟩,
  ⟨0x2A4004, 0x2A4004, .uint, .ro, 4, 4, .zeros, 0, 4294967295, true⟩,
  ⟨0x2A4005, 0x2A4005, .uint, .ro, 4, 4, .zeros, 0, 4294967295, true⟩,
  ⟨0x2A4006, 0x2A4006, .bool, .wo, 1, 1, .zeros, 0, 1, false⟩,
  ⟨0x2A4007, 0x2A4007, .uint, .ro, 1, 1, .zeros, 0, 255, false⟩]

/-- R330 part b. -/
def entries11b : List EntryRow := [
  ⟨0x2A4008, 0x2A4008, .uint, .ro, 8, 8, .zeros, 0, 18446744073709551615, false⟩,
  ⟨0x2A4101, 0x2A4101, .uint, .rw, 4, 4, .num 0x1000, 256, 65536, true⟩,
  ⟨0x2A4102, 0x2A4102, .uint, .rw, 2, 2, .num 0xA, 1, 3600, true⟩,
  ⟨0x2A4201, 0x2A4210, .uint, .ro, 1, 1, .zeros, 0, 255, false⟩,
  ⟨0x2A4301, 0x2A4310, .uint, .ro, 4, 4, .zeros, 0, 4294967295, false⟩,
  ⟨0x2A4500, 0x2A4500, .octets, .ro, 32, 32, .zeros, 0, 0, false⟩,
  ⟨0x2A4601, 0x2A4601, .uint, .const, 1, 1, .num 0x51, 0, 255, true⟩,
  ⟨0x2A4602, 0x2A4602, .uint, .const, 2, 2, .num 0x344, 0, 65535, true⟩]

/-- R358 part a. -/
def entries12a : List EntryRow := [
  ⟨0x2B0001, 0x2B0001, .uint, .rw, 1, 1, .num 0x20, 1, 255, true⟩,
  ⟨0x2B0002, 0x2B0002, .uint, .rw, 1, 1, .num 0x20, 1, 255, true⟩,
  ⟨0x2B0101, 0x2B0101, .uint, .rw, 1, 1, .num 0x2, 0, 3, true⟩,
  ⟨0x2B0102, 0x2B0102, .uint, .rw, 1, 1, .num 0x2, 0, 3, true⟩,
  ⟨0x2B0103, 0x2B0103, .uint, .rw, 1, 1, .num 0x2, 0, 4, true⟩,
  ⟨0x2B0104, 0x2B0104, .uint, .rw, 1, 1, .num 0x2, 0, 4, true⟩,
  ⟨0x2B0201, 0x2B0202, .uint, .ro, 1, 1, .zeros, 0, 255, false⟩,
  ⟨0x2B0203, 0x2B0204, .uint, .ro, 1, 1, .zeros, 0, 255, false⟩,
  ⟨0x2B0301, 0x2B0301, .uint, .rw, 1, 1, .zeros, 0, 1, true⟩,
  ⟨0x2B0302, 0x2B0302, .uint, .rw, 2, 2, .num 0x64, 0, 10000, true⟩,
  ⟨0x2B0303, 0x2B0303, .uint, .wo, 1, 1, .zeros, 1, 2, false⟩,
  ⟨0x2B0400, 0x2B0400, .uint, .rw, 1, 1, .num 0x3, 1, 3, true⟩,
  ⟨0x2B0501, 0x2B0501, .bool, .rw, 1, 1, .zeros, 0, 1, true⟩,
  ⟨0x2B0601, 0x2B0601, .bool, .rw, 1, 1, .zeros, 0, 1, true⟩,
  ⟨0x2B0502, 0x2B0502, .uint, .rw, 2, 2, .zeros, 0, 2047, true⟩,
  ⟨0x2B0602, 0x2B0602, .uint, .rw, 2, 2, .zeros, 0, 2047, true⟩,
  ⟨0x2B0503, 0x2B0503, .uint, .rw, 2, 2, .num 0x7FF, 0, 2047, true⟩,
  ⟨0x2B0603, 0x2B0603, .uint, .rw, 2, 2, .num 0x7FF, 0, 2047, true⟩,
  ⟨0x2B0504, 0x2B0504, .uint, .rw, 1, 1, .num 0x8, 0, 8, true⟩,
  ⟨0x2B0604, 0x2B0604, .uint, .rw, 1, 1, .num 0x8, 0, 8, true⟩,
  ⟨0x2B0505, 0x2B0505, .octets, .rw, 8, 8, .zeros, 0, 0, true⟩,
  ⟨0x2B0605, 0x2B0605, .octets, .rw, 8, 8, .zeros, 0, 0, true⟩,
  ⟨0x2B0506, 0x2B0506, .uint, .rw, 1, 1, .num 0x2, 0, 3, true⟩,
  ⟨0x2B0606, 0x2B0606, .uint, .rw, 1, 1, .num 0x2, 0, 3, true⟩,
  ⟨0x2B1001, 0x2B1010, .uint, .rw, 1, 1, .zeros, 0, 1, true⟩,
  ⟨0x2B1101, 0x2B1110, .uint, .rw, 1, 1, .zeros, 0, 2, true⟩,
  ⟨0x2B2001, 0x2B2001, .uint, .rw, 2, 2, .num 0x1F4, 50, 5000, true⟩,
  ⟨0x2B3001, 0x2B3002, .uint, .ro, 2, 2, .zeros, 0, 65535, false⟩,
  ⟨0x2B3003, 0x2B3004, .uint, .ro, 1, 1, .zeros, 0, 255, false⟩,
  ⟨0x2B3100, 0x2B3100, .uint, .ro, 2, 2, .zeros, 0, 65535, false⟩]

/-- R358 part b. -/
def entries12b : List EntryRow := [
  ⟨0x2B3201, 0x2B3202, .uint, .ro, 4, 4, .zeros, 0, 4294967295, false⟩,
  ⟨0x2B3203, 0x2B3204, .uint, .ro, 4, 4, .zeros, 0, 4294967295, false⟩,
  ⟨0x2B3205, 0x2B3205, .uint, .ro, 4, 4, .zeros, 0, 4294967295, false⟩,
  ⟨0x2B3301, 0x2B3302, .uint, .ro, 1, 1, .zeros, 0, 255, false⟩,
  ⟨0x2B3303, 0x2B3304, .uint, .ro, 1, 1, .zeros, 0, 255, false⟩,
  ⟨0x2B4001, 0x2B4020, .uint, .rw, 1, 1, .zeros, 0, 1, true⟩,
  ⟨0x2B4101, 0x2B4120, .octets, .ro, 12, 12, .zeros, 0, 0, false⟩,
  ⟨0x2B4200, 0x2B4200, .uint, .rw, 2, 2, .num 0x7D0, 500, 60000, true⟩,
  ⟨0x2B4300, 0x2B4300, .uint, .ro, 1, 1, .zeros, 0, 255, false⟩]

/-- R374 part a. -/
def entries13a : List EntryRow := [
  ⟨0x2C0001, 0x2C0001, .uint, .ro, 1, 1, .zeros, 0, 255, false⟩,
  ⟨0x2C0002, 0x2C0002, .uint, .ro, 1, 1, .zeros, 0, 255, false⟩,
  ⟨0x2C0003, 0x2C0003, .uint, .ro, 4, 4, .zeros, 0, 4294967295, false⟩,
  ⟨0x2C0004, 0x2C0004, .uint, .ro, 4, 4, .zeros, 0, 4294967295, false⟩,
  ⟨0x2C0005, 0x2C0005, .uint, .ro, 4, 4, .zeros, 0, 4294967295, false⟩,
  ⟨0x2C0101, 0x2C0101, .uint, .ro, 4, 4, .zeros, 0, 4294967295, false⟩,
  ⟨0x2C0102, 0x2C0102, .uint, .ro, 1, 1, .zeros, 0, 255, false⟩,
  ⟨0x2C0201, 0x2C0201, .uint, .ro, 4, 4, .zeros, 0, 4294967295, false⟩,
  ⟨0x2C0202, 0x2C0202, .uint, .ro, 4, 4, .zeros, 0, 4294967295, true⟩,
  ⟨0x2C0203, 0x2C0203, .uint, .ro, 8, 8, .zeros, 0, 18446744073709551615, false⟩,
  ⟨0x2C0300, 0x2C0300, .octets, .ro, 6, 6, .zeros, 0, 0, false⟩,
  ⟨0x2C1000, 0x2C1000, .uint, .const, 1, 1, .num 0x8, 0, 255, true⟩,
  ⟨0x2C2001, 0x2C2010, .octets, .ro, 16, 16, .zeros, 0, 0, false⟩,
  ⟨0x2C2100, 0x2C2100, .uint, .ro, 4, 4, .zeros, 0, 4294967295, false⟩,
  ⟨0x2C3001, 0x2C3010, .octets, .ro, 16, 16, .zeros, 0, 0, false⟩,
  ⟨0x2C3100, 0x2C3100, .uint, .ro, 4, 4, .zeros, 0, 4294967295, false⟩,
  ⟨0x2C4001, 0x2C4001, .uint, .rw, 1, 1, .zeros, 0, 3, true⟩,
  ⟨0x2C4002, 0x2C4002, .uint, .rw, 2, 2, .num 0x3E8, 500, 10000, true⟩,
  ⟨0x2C4003, 0x2C4003, .uint, .rw, 1, 1, .num 0x2, 0, 3, true⟩,
  ⟨0x2C4004, 0x2C4004, .uint, .rw, 1, 1, .num 0x3, 0, 255, true⟩,
  ⟨0x2C4005, 0x2C4005, .uint, .rw, 1, 1, .num 0x2, 0, 255, true⟩,
  ⟨0x2C4006, 0x2C4006, .uint, .rw, 1, 1, .zeros, 0, 4, true⟩,
  ⟨0x2C4007, 0x2C4007, .bool, .rw, 1, 1, .zeros, 0, 1, true⟩,
  ⟨0x2C4008, 0x2C4008, .uint, .rw, 1, 1, .num 0x20, 16, 64, true⟩,
  ⟨0x2C5001, 0x2C5001, .uint, .rw, 4, 4, .zeros, 0, 4294967295, false⟩,
  ⟨0x2C5002, 0x2C5002, .uint, .rw, 2, 2, .num 0x4, 1, 256, false⟩,
  ⟨0x2C5003, 0x2C5003, .domain, .rw, 1, 256, .empty, 0, 0, false⟩,
  ⟨0x2C5004, 0x2C5004, .uint, .ro, 2, 2, .zeros, 0, 65535, false⟩]

/-- R401 part a. -/
def entries14a : List EntryRow := [
  ⟨0x2D0001, 0x2D0001, .int, .ro, 4, 4, .zeros, (-2147483648), 2147483647, false⟩,
  ⟨0x2D0002, 0x2D0002, .int, .ro, 4, 4, .zeros, (-2147483648), 2147483647, false⟩,
  ⟨0x2D0003, 0x2D0003, .int, .ro, 4, 4, .zeros, (-2147483648), 2147483647, false⟩,
  ⟨0x2D0004, 0x2D0004, .int, .ro, 2, 2, .zeros, (-32768), 32767, false⟩,
  ⟨0x2D0005, 0x2D0005, .uint, .ro, 1, 1, .zeros, 0, 255, false⟩,
  ⟨0x2D0006, 0x2D0006, .uint, .ro, 2, 2, .zeros, 0, 65535, false⟩,
  ⟨0x2D0007, 0x2D0007, .uint, .ro, 1, 1, .zeros, 0, 255, false⟩,
  ⟨0x2D0008, 0x2D0008, .uint, .ro, 8, 8, .zeros, 0, 18446744073709551615, false⟩,
  ⟨0x2D0100, 0x2D0100, .octets, .ro, 32, 32, .zeros, 0, 0, false⟩,
  ⟨0x2D1001, 0x2D1001, .uint, .sw, 4, 4, .num 0xF4240, 100000, 2000000, true⟩,
  ⟨0x2D1002, 0x2D1002, .uint, .sw, 4, 4, .num 0x186A0, 10000, 10000000, true⟩,
  ⟨0x2D1003, 0x2D1003, .int, .sw, 2, 2, .zeros, (-500), 500, true⟩,
  ⟨0x2D1004, 0x2D1004, .int, .sw, 2, 2, .num 0xFA, (-400), 1250, true⟩,
  ⟨0x2D1005, 0x2D1005, .uint, .sw, 4, 4, .num 0xF4240, 100000, 2000000, true⟩,
  ⟨0x2D1006, 0x2D1006, .uint, .sw, 1, 1, .zeros, 0, 1, true⟩,
  ⟨0x2D1100, 0x2D1100, .domain, .ro, 64, 64, .empty, 0, 0, true⟩,
  ⟨0x2D1201, 0x2D1201, .uint, .wo, 1, 1, .zeros, 1, 1, false⟩,
  ⟨0x2D1202, 0x2D1202, .uint, .ro, 2, 2, .zeros, 0, 65535, false⟩,
  ⟨0x2D1203, 0x2D1203, .int, .ro, 4, 4, .zeros, (-2147483648), 2147483647, false⟩,
  ⟨0x2D2001, 0x2D2001, .uint, .ro, 8, 8, .zeros, 0, 18446744073709551615, false⟩,
  ⟨0x2D2002, 0x2D2002, .uint, .ro, 8, 8, .zeros, 0, 18446744073709551615, false⟩,
  ⟨0x2D2003, 0x2D2003, .uint, .ro, 4, 4, .zeros, 0, 4294967295, false⟩,
  ⟨0x2D2004, 0x2D2004, .uint, .rw, 2, 2, .num 0xFA, 25, 1000, true⟩,
  ⟨0x2D2005, 0x2D2005, .uint, .ro, 4, 4, .zeros, 0, 4294967295, true⟩,
  ⟨0x2D3001, 0x2D3001, .uint, .rw, 1, 1, .num 0x8, 4, 64, true⟩,
  ⟨0x2D3101, 0x2D3101, .uint, .rw, 1, 1, .num 0x1, 0, 1, true⟩,
  ⟨0x2D3102, 0x2D3102, .uint, .sw, 4, 4, .num 0x3E8, 100, 10000, true⟩,
  ⟨0x2D3103, 0x2D3103, .uint, .sw, 2, 2, .num 0x64, 50, 1000, true⟩,
  ⟨0x2D3104, 0x2D3104, .uint, .sw, 2, 2, .num 0x1F4, 100, 5000, true⟩,
  ⟨0x2D4001, 0x2D4001, .domain, .wo, 192, 192, .empty, 0, 0, false⟩]

/-- R401 part b. -/
def entries14b : List EntryRow := [
  ⟨0x2D4002, 0x2D4002, .uint, .ro, 2, 2, .zeros, 0, 65535, false⟩,
  ⟨0x2D4100, 0x2D4100, .octets, .sw, 57, 57, .zeros, 0, 0, true⟩,
  ⟨0x2D4201, 0x2D4201, .int, .ro, 8, 8, .zeros, (-9223372036854775808), 9223372036854775807, false⟩,
  ⟨0x2D4202, 0x2D4202, .uint, .ro, 1, 1, .num 0x2, 0, 255, false⟩,
  ⟨0x2D4203, 0x2D4203, .uint, .ro, 4, 4, .zeros, 0, 4294967295, false⟩,
  ⟨0x2D4204, 0x2D4204, .uint, .ro, 4, 4, .zeros, 0, 4294967295, false⟩,
  ⟨0x2D4205, 0x2D4205, .uint, .ro, 4, 4, .zeros, 0, 4294967295, false⟩,
  ⟨0x2D4206, 0x2D4206, .uint, .ro, 8, 8, .zeros, 0, 18446744073709551615, false⟩,
  ⟨0x2D4207, 0x2D4207, .int, .ro, 8, 8, .zeros, (-9223372036854775808), 9223372036854775807, false⟩,
  ⟨0x2D5001, 0x2D5001, .uint, .rw, 2, 2, .num 0x384, 60, 3600, true⟩,
  ⟨0x2D5100, 0x2D5100, .uint, .wo, 1, 1, .zeros, 1, 1, false⟩,
  ⟨0x2D5200, 0x2D5200, .domain, .ro, 192, 192, .empty, 0, 0, false⟩,
  ⟨0x2D5301, 0x2D5301, .uint, .rw, 2, 2, .num 0x800, 256, 8192, true⟩,
  ⟨0x2D5302, 0x2D5302, .uint, .ro, 4, 4, .num 0x1, 0, 4294967295, false⟩,
  ⟨0x2D5303, 0x2D5303, .uint, .ro, 4, 4, .zeros, 0, 4294967295, false⟩,
  ⟨0x2D5304, 0x2D5304, .uint, .ro, 2, 2, .num 0x8000, 0, 65535, false⟩,
  ⟨0x2D5305, 0x2D5305, .uint, .ro, 1, 1, .zeros, 0, 255, false⟩,
  ⟨0x2D6001, 0x2D6001, .domain, .wo, 112, 2097200, .empty, 0, 0, false⟩,
  ⟨0x2D6002, 0x2D6002, .uint, .ro, 2, 2, .zeros, 0, 65535, false⟩,
  ⟨0x2D6003, 0x2D6003, .uint, .ro, 4, 4, .zeros, 0, 4294967295, false⟩]

/-- R422 part a. -/
def entries15a : List EntryRow := [
  ⟨0x2E0001, 0x2E000C, .uint, .ro, 1, 1, .zeros, 0, 255, false⟩,
  ⟨0x2E0101, 0x2E010C, .uint, .rw, 1, 1, .zeros, 0, 2, false⟩,
  ⟨0x2E0201, 0x2E0201, .uint, .rw, 4, 4, .num 0xFFFFFF, 0, 4294967295, false⟩,
  ⟨0x2E0202, 0x2E0202, .uint, .ro, 2, 2, .zeros, 0, 65535, false⟩,
  ⟨0x2E0203, 0x2E0203, .uint, .ro, 1, 1, .num 0xFF, 0, 255, false⟩,
  ⟨0x2E0301, 0x2E030C, .uint, .ro, 4, 4, .num 0x2, 0, 4294967295, false⟩,
  ⟨0x2E0401, 0x2E040C, .uint, .ro, 1, 1, .num 0xFF, 0, 255, false⟩,
  ⟨0x2E1001, 0x2E1001, .uint, .ro, 1, 1, .zeros, 0, 255, false⟩,
  ⟨0x2E1002, 0x2E1002, .uint, .ro, 1, 1, .zeros, 0, 255, false⟩,
  ⟨0x2E1003, 0x2E1003, .uint, .ro, 8, 8, .zeros, 0, 18446744073709551615, false⟩,
  ⟨0x2E1004, 0x2E1004, .uint, .ro, 4, 4, .zeros, 0, 4294967295, false⟩,
  ⟨0x2E1101, 0x2E110B, .uint, .ro, 4, 4, .zeros, 0, 4294967295, false⟩,
  ⟨0x2E1401, 0x2E1401, .uint, .ro, 4, 4, .zeros, 0, 4294967295, false⟩,
  ⟨0x2E1402, 0x2E1402, .uint, .rw, 4, 4, .zeros, 0, 4294967295, true⟩,
  ⟨0x2E1403, 0x2E1403, .bool, .ro, 1, 1, .zeros, 0, 1, false⟩,
  ⟨0x2E1404, 0x2E1404, .uint, .sw, 4, 4, .zeros, 0, 4294967295, true⟩,
  ⟨0x2E1500, 0x2E1500, .uint, .rw, 4, 4, .zeros, 0, 4294967295, true⟩,
  ⟨0x2E2000, 0x2E2000, .uint, .rw, 2, 2, .num 0x7FE, 0, 65535, true⟩,
  ⟨0x2E2100, 0x2E2100, .uint, .rw, 1, 1, .num 0x1, 0, 3, true⟩,
  ⟨0x2E3001, 0x2E3001, .uint, .rw, 2, 2, .num 0x1, 1, 200, true⟩,
  ⟨0x2E3002, 0x2E3002, .uint, .rw, 1, 1, .zeros, 0, 1, true⟩,
  ⟨0x2E3101, 0x2E310A, .uint, .ro, 1, 1, .zeros, 0, 255, false⟩,
  ⟨0x2E4001, 0x2E4001, .uint, .rw, 1, 1, .num 0x32, 10, 100, true⟩,
  ⟨0x2E4002, 0x2E4002, .uint, .rw, 1, 1, .num 0x4, 1, 16, true⟩,
  ⟨0x2E4003, 0x2E4003, .uint, .rw, 1, 1, .num 0xF, 0, 15, true⟩,
  ⟨0x2E4101, 0x2E4104, .uint, .rw, 2, 2, .num 0x50, 20, 1000, true⟩,
  ⟨0x2E4201, 0x2E4204, .int, .ro, 2, 2, .zeros, (-32768), 32767, false⟩,
  ⟨0x2E4300, 0x2E4300, .uint, .wo, 1, 1, .zeros, 1, 15, false⟩,
  ⟨0x2E5001, 0x2E5001, .uint, .sw, 2, 2, .num 0x7D0, 500, 5000, true⟩,
  ⟨0x2E5002, 0x2E5002, .uint, .sw, 2, 2, .num 0x76C, 500, 1900, true⟩]

/-- R422 part b. -/
def entries15b : List EntryRow := [
  ⟨0x2E5003, 0x2E5003, .uint, .sw, 1, 1, .num 0x8C, 120, 145, true⟩,
  ⟨0x2E5101, 0x2E5101, .uint, .ro, 2, 2, .zeros, 0, 65535, false⟩,
  ⟨0x2E5102, 0x2E5102, .int, .ro, 2, 2, .zeros, (-32768), 32767, false⟩,
  ⟨0x2E5103, 0x2E5103, .uint, .ro, 4, 4, .zeros, 0, 4294967295, false⟩]

/-- R445 part a. -/
def entries16a : List EntryRow := [
  ⟨0x2F0001, 0x2F0001, .uint, .ro, 1, 1, .num 0x1, 0, 255, false⟩,
  ⟨0x2F0002, 0x2F0002, .uint, .ro, 4, 4, .zeros, 0, 4294967295, false⟩,
  ⟨0x2F0003, 0x2F0003, .uint, .ro, 4, 4, .zeros, 0, 4294967295, true⟩,
  ⟨0x2F0004, 0x2F0004, .uint, .ro, 1, 1, .zeros, 0, 255, false⟩,
  ⟨0x2F0100, 0x2F0100, .uint, .ro, 4, 4, .zeros, 0, 4294967295, false⟩,
  ⟨0x2F0201, 0x2F0201, .uint, .ro, 4, 4, .zeros, 0, 4294967295, false⟩,
  ⟨0x2F0202, 0x2F0202, .uint, .ro, 4, 4, .zeros, 0, 4294967295, true⟩,
  ⟨0x2F0203, 0x2F0203, .uint, .ro, 4, 4, .zeros, 0, 4294967295, true⟩,
  ⟨0x2F0204, 0x2F0204, .uint, .ro, 4, 4, .zeros, 0, 4294967295, true⟩,
  ⟨0x2F0205, 0x2F0205, .uint, .ro, 4, 4, .zeros, 0, 4294967295, true⟩,
  ⟨0x2F0301, 0x2F0301, .uint, .ro, 2, 2, .zeros, 0, 65535, false⟩,
  ⟨0x2F0302, 0x2F0302, .uint, .ro, 2, 2, .zeros, 0, 65535, false⟩,
  ⟨0x2F1001, 0x2F1001, .bool, .ro, 1, 1, .zeros, 0, 1, false⟩,
  ⟨0x2F1002, 0x2F1002, .uint, .ro, 2, 2, .zeros, 0, 65535, false⟩,
  ⟨0x2F1003, 0x2F1003, .uint, .ro, 2, 2, .zeros, 0, 65535, false⟩,
  ⟨0x2F1004, 0x2F1004, .uint, .ro, 8, 8, .zeros, 0, 18446744073709551615, false⟩,
  ⟨0x2F1005, 0x2F1005, .uint, .ro, 4, 4, .zeros, 0, 4294967295, true⟩,
  ⟨0x2F1100, 0x2F1100, .uint, .sw, 1, 1, .zeros, 1, 1, true⟩,
  ⟨0x2F1201, 0x2F1201, .uint, .sw, 2, 2, .zeros, 0, 65535, true⟩,
  ⟨0x2F1202, 0x2F1202, .uint, .ro, 2, 2, .zeros, 0, 65535, false⟩,
  ⟨0x2F1300, 0x2F1300, .uint, .sw, 1, 1, .num 0xF, 0, 15, true⟩,
  ⟨0x2F2001, 0x2F2001, .uint, .ro, 4, 4, .zeros, 0, 4294967295, false⟩,
  ⟨0x2F2002, 0x2F2002, .uint, .ro, 4, 4, .zeros, 0, 4294967295, false⟩,
  ⟨0x2F2003, 0x2F2003, .uint, .rw, 4, 4, .zeros, 0, 4294967295, false⟩,
  ⟨0x2F2004, 0x2F2004, .octets, .ro, 32, 32, .zeros, 0, 0, false⟩,
  ⟨0x2F3001, 0x2F3040, .octets, .ro, 32, 32, .zeros, 0, 0, false⟩,
  ⟨0x2F3100, 0x2F3100, .uint, .ro, 1, 1, .num 0x1, 0, 255, false⟩]

/-- R453, R462 part a. -/
def entries17a : List EntryRow := [
  ⟨0x100000, 0x100000, .uint, .const, 4, 4, .zeros, 0, 4294967295, true⟩,
  ⟨0x100100, 0x100100, .uint, .ro, 1, 1, .zeros, 0, 255, false⟩,
  ⟨0x100500, 0x100500, .uint, .rw, 4, 4, .num 0x80, 0, 4294967295, true⟩,
  ⟨0x100800, 0x100800, .vstring, .const, 0, 64, .bytes [0x42, 0x4C, 0x53, 0x2D, 0x39, 0x36, 0x34, 0x30], 0, 0, true⟩,
  ⟨0x100900, 0x100900, .vstring, .const, 0, 64, .bytes [0x42, 0x30], 0, 0, true⟩,
  ⟨0x100A00, 0x100A00, .vstring, .ro, 0, 64, .empty, 0, 0, false⟩,
  ⟨0x101400, 0x101400, .uint, .const, 4, 4, .num 0x80, 0, 4294967295, true⟩,
  ⟨0x101500, 0x101500, .uint, .rw, 2, 2, .zeros, 0, 65535, true⟩,
  ⟨0x101601, 0x101620, .uint, .rw, 4, 4, .zeros, 0, 16777215, true⟩,
  ⟨0x101700, 0x101700, .uint, .rw, 2, 2, .num 0x64, 0, 65535, true⟩,
  ⟨0x101801, 0x101804, .uint, .const, 4, 4, .zeros, 0, 4294967295, true⟩,
  ⟨0x101900, 0x101900, .uint, .rw, 1, 1, .zeros, 0, 240, true⟩,
  ⟨0x1F8000, 0x1F8000, .uint, .rw, 4, 4, .zeros, 0, 4, true⟩,
  ⟨0x380001, 0x380001, .uint, .rw, 4, 4, .zeros, 0, 4294967295, false⟩,
  ⟨0x380002, 0x380002, .octets, .ro, 64, 64, .zeros, 0, 0, false⟩,
  ⟨0x381001, 0x381001, .uint, .rw, 4, 4, .num 0x1, 0, 4294967295, false⟩,
  ⟨0x381002, 0x381002, .uint, .rw, 2, 2, .num 0x40, 1, 256, false⟩,
  ⟨0x381003, 0x381003, .domain, .ro, 64, 16384, .empty, 0, 0, false⟩,
  ⟨0x3F0001, 0x3F0001, .uint, .rw, 4, 4, .zeros, 0, 4294967295, false⟩,
  ⟨0x3F0002, 0x3F0002, .uint, .ro, 2, 2, .num 0xFFFF, 0, 65535, false⟩,
  ⟨0x3F0100, 0x3F0100, .uint, .ro, 2, 2, .zeros, 0, 65535, false⟩,
  ⟨0x3F0200, 0x3F0200, .uint, .ro, 2, 2, .zeros, 0, 65535, false⟩,
  ⟨0x5F0001, 0x5F0002, .domain, .ro, 0, 4194304, .empty, 0, 0, false⟩,
  ⟨0x5F1001, 0x5F1008, .uint, .ro, 4, 4, .zeros, 0, 4294967295, false⟩,
  ⟨0x5F1101, 0x5F1108, .uint, .ro, 4, 4, .zeros, 0, 4294967295, true⟩,
  ⟨0x5F2001, 0x5F200B, .uint, .ro, 4, 4, .zeros, 0, 4294967295, false⟩,
  ⟨0x5F2100, 0x5F2100, .uint, .ro, 2, 2, .zeros, 0, 65535, false⟩]

/-- All rows of the chapters' entry tables but the record objects of R453 and the credential and journal arrays of R462,
which `entryRow?` (Ops) adds by rule. -/
def entryTable : List EntryRow :=
  entries01a ++ entries02a ++ entries03a ++ entries03b ++ entries04a ++ entries05a ++ entries05b ++ entries06a ++ entries06b ++ entries07a ++ entries07b ++ entries08a ++ entries08b ++ entries09a ++ entries10a ++ entries11a ++ entries11b ++ entries12a ++ entries12b ++ entries13a ++ entries14a ++ entries14b ++ entries15a ++ entries15b ++ entries16a ++ entries17a

end Sys2Proof.Machine
end

