-- ==== Sys2Proof/Machine/State.lean ====
section
/-! DEFINITION. The state of the BLS-9640 as plain data: one structure per chapter, the queue of waiting commands, and the
state after reset. A dictionary entry whose value the machine keeps nowhere else lives in `dict`, keyed by
index × 256 + sub-index, under the default its table states (Entries). -/

namespace Sys2Proof.Machine

/-- No meaning of this model raises a fault (log entry 1): every command of the table ends in a next state. The
constructor is here because the interface asks for a type of faults; nothing builds it. Safe. -/
inductive Fault where
  /-- Raised by nobody. -/
  | unreachable
  deriving DecidableEq, Repr

/-- The reasons a command can be refused. -/
inductive Refusal where
  /-- Raised by `exec`'s arm of a command that has no meaning yet. Safe. -/
  | notModelled (mnemonic : String)
  deriving DecidableEq, Repr

/-! ## Lifecycle (chapter 01) -/

/-- The lifecycle modes, codes 0x01 to 0x0C (R10). -/
inductive Mode where
  | factory | blank | enrol | transit | bound | depot | service | quarantine | repurpose | stationary | dormant | retired
  deriving DecidableEq, Repr

/-- The code of a mode at 0x2000:00 (R10). -/
def Mode.code : Mode → Nat
  | .factory => 0x01 | .blank => 0x02 | .enrol => 0x03 | .transit => 0x04 | .bound => 0x05 | .depot => 0x06
  | .service => 0x07 | .quarantine => 0x08 | .repurpose => 0x09 | .stationary => 0x0A | .dormant => 0x0B | .retired => 0x0C

/-- The mode a code names (R10). -/
def Mode.ofCode : Nat → Option Mode
  | 0x01 => some .factory | 0x02 => some .blank | 0x03 => some .enrol | 0x04 => some .transit | 0x05 => some .bound
  | 0x06 => some .depot | 0x07 => some .service | 0x08 => some .quarantine | 0x09 => some .repurpose
  | 0x0A => some .stationary | 0x0B => some .dormant | 0x0C => some .retired | _ => none

/-- A requested mode change in progress (R13): whether the first copy of the pending record has been written (R33). -/
structure PendingChange where
  target : Mode
  since : Tick
  firstCopy : Bool
  deriving DecidableEq, Repr

/-- The lifecycle record and the timers of SERVICE (R10 to R20, R33). -/
structure Lifecycle where
  mode : Mode
  /-- 0x2002:01 -/
  prev : Mode
  /-- 0x2002:02 -/
  changeTick : Tick
  /-- 0x2002:03 -/
  changeCount : Nat
  /-- 0x2002:04 -/
  dormantReturn : Option Mode
  /-- 0x2002:05 -/
  quarantineReturn : Option Mode
  pending : Option PendingChange
  /-- QUARANTINE follows the pending change at the next commit (R33). -/
  quarantineDue : Bool
  /-- Tick of SERVICE entry (R19). -/
  serviceFrom : Tick
  /-- Whole periods of 0x2004:02 already checked since SERVICE entry (R19). -/
  periods : Nat
  deriving DecidableEq, Repr

/-- The two signers of an envelope (R25). -/
inductive Signer where | vendor | owner
  deriving DecidableEq, Repr

/-- A write item of an envelope (R26). -/
structure EnvelopeItem where
  index : Nat
  sub : Nat
  length : Nat
  digest : Bytes
  used : Bool
  deriving DecidableEq, Repr

/-- The active envelope (R27, R28). -/
structure Envelope where
  signer : Signer
  items : List EnvelopeItem
  /-- 0x2020:05 -/
  expiry : Tick
  /-- The device nonce it carried (R270). -/
  nonce : Bytes
  deriving DecidableEq, Repr

/-- Sealed writes: the active envelope, whether the last one ended by expiry, and the device nonce (R28, R29). -/
structure Sealing where
  active : Option Envelope
  expired : Bool
  /-- 0x2020:03; none reads as all zeros -/
  nonce : Option Bytes
  deriving DecidableEq, Repr

/-! ## Ranging results kept by a session (chapter 06) -/

/-- What a sweep leaves (R161): distances in mm, and the square of the residual in degrees. -/
structure SweepResult where
  dPhase : Rat
  dA : Rat
  dB : Rat
  residSq : Rat
  valid : Nat
  deriving DecidableEq, Repr

/-- What the probes leave (R163): twice RT in units of 0.1 ns, and the number of valid probes. -/
structure ProbeResult where
  rt2 : Int
  valid : Nat
  deriving DecidableEq, Repr

/-- An opened VREPORT (R114). -/
structure Report where
  k : Nat
  sat : Nat
  vectors : List (Int × Int × Int)
  deriving DecidableEq, Repr

/-! ## Sessions (chapters 02, 04, 07) -/

/-- The session kinds, codes 0x01 to 0x08 (R41). -/
inductive SessionKind where | approach | badge | release | inventory | passport | receipt | dictionary | cipher
  deriving DecidableEq, Repr

/-- The slot states, codes 0x0 to 0x9 (R42). -/
inductive SlotState where
  | free | admitted | ready | running | carried | waitingEngine | waitingEvent | waitingResource | closing | aborting
  deriving DecidableEq, Repr

/-- What a vector operation leaves of one channel's frame or burst (R85). -/
structure LfBurst where
  ch : Nat
  code : Nat
  hz : Nat
  detuned : Bool
  deriving DecidableEq, Repr

/-- The vector operation of an approach's round (R113). -/
inductive Vectors where
  | none
  | running
  | failed
  | done (bursts : List LfBurst) (endTick : Tick)
  deriving DecidableEq, Repr

/-- An APPROACH session (R101 to R117). -/
structure Approach where
  electrode : Nat
  /-- Tick of the touch (0x2311:03). -/
  touchTick : Tick
  /-- A credential test, in ENROL or REPURPOSE (R101). -/
  test : Bool
  /-- LEG and SLOTS of the wake frame (R103). -/
  legacy : Bool
  slotCode : Nat
  rn : Bytes
  channel : Nat
  ws : Nat
  rk : Bytes
  /-- Rounds begun (R109). -/
  rounds : Nat
  /-- The tick M + 8 of the ROUND, once the wake has ended (R107). -/
  roundTick : Option Tick
  /-- The round has closed (R108). -/
  roundDone : Bool
  /-- Answers the round holds (R108). -/
  answers : Nat
  /-- Handles of the round's answers (R108). -/
  handles : List Nat
  /-- Slots of the round counted as collided (R108). -/
  collided : Nat
  vectors : Vectors
  /-- Coil order of the round's VECTOR frame (R82). -/
  order : List Nat
  /-- CREDIDs accepted in this approach (R111). -/
  accepted : List Nat
  /-- Retries of the approach's own class 1 steps (R119). -/
  retries : Nat
  /-- The badge slot whose verdict the approach proposes (R115). -/
  qualified : Option Nat
  /-- What the verdict stage has decided on a proposal it refused: the approach ends with it (R18, R117). -/
  decided : Option Code
  /-- Qualifying or last refused credential (0x2311:02). -/
  lastCredential : Nat
  deriving DecidableEq, Repr

/-- How far a BADGE session has come (R110 to R116). -/
inductive BadgePhase where
  | challenged
  /-- A forerunner badge's count is being written through (R118). -/
  | counted
  | confirmed | polled | reported
  /-- A suspicion's bar is being written through; OUTCOME 0x03 follows (R57, R115). -/
  | suspected (verdict : Code)
  | qualified
  /-- OUTCOME is sealed; once it is sent the session ends with this result, after an accepted outcome with the credential's use written
  through (R57, R116, R122). -/
  | outcome (result : Code) (uses : Bool)
  deriving DecidableEq, Repr

/-- What the next RF step of a badge session is: its prepared packet, its tone sweep with the probes, or fusion (R104, R158, R165). -/
inductive RfStep where | packet | sweep | fusion
  deriving DecidableEq, Repr

/-- A BADGE session (R110 to R119, R157 to R163). -/
structure Badge where
  roundSlot : Nat
  legacy : Bool
  handle : Nat
  cc : Bytes
  ts : Bytes
  bn : Bytes
  /-- KS, or KS7 of a forerunner badge. -/
  ks : Bytes
  /-- The CHALLENGE payload as sent (R110). -/
  challenge : Bytes
  phase : BadgePhase
  retries : Nat
  credIndex : Option Nat
  credId : Nat
  /-- Executed tick of the CONFIRM, planned until it is sent, and its START (R158). -/
  confirmTick : Nat
  start : Nat
  /-- The tone mask latched when the CONFIRM was sealed (R170). -/
  toneMask : Bytes
  toneOrder : List Nat
  /-- The antenna port of the handle's last valid packet: 0 ANTA, 1 ANTB (R132). -/
  port : Nat
  /-- The port and the gain step of the last valid RESPONSE, which the sweep keeps (R159). -/
  sweepPort : Nat
  gain : Nat
  /-- 0x2502:01 and :02 and the offsets of 0x2503 of the badge's kind, as they stood when the sweep began (R170). -/
  tonePower : Int
  threshold : Nat
  phaseOffset : Int
  turnOffset : Int
  next : RfStep
  /-- The last packet sent to the badge, TYPE and payload: what a retry repeats bit for bit (R106, R119). -/
  sent : Nat × Bytes
  /-- Its bytes on the air (R104). -/
  frame : Bytes
  sweep : Option SweepResult
  probes : Option ProbeResult
  report : Option Report
  deriving DecidableEq, Repr

/-- The exchange OPs (R186). -/
inductive ExchangeOp where | release | stop | status
  deriving DecidableEq, Repr

/-- The exchange of a RELEASE session (R186 to R200). -/
structure Exchange where
  carrier : Carrier
  /-- The CAN port its messages come in on (R180). -/
  port : Port
  op : ExchangeOp
  cid : Nat
  exid : Nat
  cv : Bytes
  vn : Bytes
  /-- The Ed448 form (R187, R207). -/
  site : Bool
  credIndex : Option Nat
  ke : Bytes
  /-- It waits for its RESPONSE (R196), since the executed tick of the CHALLENGE (R194). -/
  waiting : Bool
  challengeTick : Nat
  deriving DecidableEq, Repr

/-- The purposes of a walk, codes 0x01 to 0x03 (R223). -/
inductive Purpose where | read | bind | check
  deriving DecidableEq, Repr

/-- What a provisional open serves (R292). -/
inductive Consumer where | firmware | journal
  deriving DecidableEq, Repr

/-- What a session works on. -/
inductive Work where
  | idle
  | approach (a : Approach)
  | badge (b : Badge)
  | release (x : Exchange)
  /-- A walk's purpose and loops (R223). -/
  | inventory (purpose : Purpose) (mask : Nat)
  | passport
  /-- A receipt with its REASON bits, and whether it has folded (R384, R397). -/
  | receipt (reason : Nat) (folded : Bool)
  | dictionary (srv : Srv)
  /-- The DICTIONARY session of an attestation, with its challenge (R313). -/
  | attestation (challenge : Bytes)
  /-- A CIPHER session that opens a firmware image or a journal import (R292). -/
  | cipher (consumer : Consumer)
  deriving DecidableEq, Repr

/-- A session's change of a credential on its way to the store (R57): the store index, the changed record, and the outcome the session
ends with once it is written; none where its step goes on. -/
structure Through where
  index : Nat
  record : Bytes
  outcome : Option Code
  deriving DecidableEq, Repr

/-- One session slot (R42, R46, R49, R53, R55, R66). Ticks here are executed ticks (R40), but for `deadline`'s name. -/
structure Slot where
  kind : Option SessionKind
  state : SlotState
  carry : Nat
  clods : Nat
  parent : Option Nat
  /-- 0x2122 -/
  result : Code
  /-- The engine the next step needs or the session holds. -/
  engine : Option Engine
  /-- Executed tick in which the step became READY (R49). -/
  readyAt : Nat
  /-- The tick a class 1 step names for its air timing (R49). -/
  named : Option Nat
  /-- Executed tick of admission. -/
  since : Nat
  /-- Clods asked for, and since when it waits for them (R53). -/
  wants : Nat
  waitFrom : Nat
  /-- Store indices of the credentials it pins (R55). -/
  pins : List Nat
  /-- A credential it pins is stale from this executed tick on (R58). -/
  staleFrom : Option Nat
  /-- Executed tick of CLOSING, or the tick A of the abort (R42, R62). -/
  endedAt : Nat
  /-- Its class 0 or class 2 step was dispatched after its deadline, and that has not been logged yet (R49). -/
  late : Bool
  /-- Ticks by which its transmission has been deferred for lock (R138). -/
  deferred : Nat
  /-- It outlives its parent to send its outcome (R116). -/
  outlives : Bool
  /-- A change of a pinned credential that is being written through (R57). -/
  through : Option Through
  work : Work
  deriving DecidableEq, Repr

/-- A FREE slot (R42). -/
def Slot.empty : Slot :=
  { kind := none, state := .free, carry := 0, clods := 0, parent := none, result := 0, engine := none, readyAt := 0,
    named := none, since := 0, wants := 0, waitFrom := 0, pins := [], staleFrom := none, endedAt := 0,
    late := false, deferred := 0, outlives := false, through := none, work := .idle }

/-- A session request that waits for admission (R43). -/
structure Request where
  kind : SessionKind
  arrival : Nat
  parent : Option Nat
  work : Work
  deriving DecidableEq, Repr

/-- One entry of the credential cache (R55, R56). -/
structure CacheLine where
  index : Nat
  record : Bytes
  lastUse : Nat
  /-- A host has changed the record: from this executed tick on the copy is discarded, or stale while it is pinned (R58). -/
  dropAt : Option Nat
  deriving DecidableEq, Repr

/-- A page-in under way (R56). -/
structure PageIn where
  index : Nat
  requested : Nat
  slots : List Nat
  deriving DecidableEq, Repr

/-- What a session proposes to the verdict stage (R59). -/
inductive Proposal where
  | stop (slot : Nat)
  | service (slot : Nat)
  | release (slot : Nat)
  deriving DecidableEq, Repr

/-- The tick, the slots, the clod pool's gates, the cache, and aborts in progress (R34 to R64). -/
structure Tilth where
  /-- 0x2100:00, bits [47:0] -/
  tick : Tick
  /-- Ticks executed, which does not count the periods of re-execution (R40). -/
  executed : Nat
  /-- H in its two MRAM copies (R34). -/
  highWater : Nat
  highWaterCopy : Nat
  /-- Slots 1 to 64. -/
  slots : List Slot
  waiting : List Request
  /-- F has fallen below W and not yet risen to W + 16 (R54). -/
  clodLow : Bool
  /-- F has fallen below W/2 and not yet risen to W + 16 (R54). -/
  clodShut : Bool
  cache : List CacheLine
  pageIns : List PageIn
  /-- Order stamp of the last cache use (R56). -/
  uses : Nat
  proposals : List Proposal
  /-- Aborts in progress: what each is of, and tick A (R62, R63). -/
  aborts : List (AbortTarget × Nat)
  deriving DecidableEq, Repr

/-! ## LF field array (chapter 03) -/

/-- The channel states, codes 0x00 to 0x07 (R94). -/
inductive ChannelState where
  | disabled | uncalibrated | ready | detuned | faultOpen | faultCal | faultOvercurrent | faultDetune
  deriving DecidableEq, Repr

/-- One LF channel (R86 to R94). -/
structure LfChannel where
  state : ChannelState
  /-- The state it had before it was disabled (R94). -/
  saved : ChannelState
  /-- 0x2204 -/
  ceiling : Nat
  /-- B in units of 1/9,000,000 A²·ms (R93; log entry 10). -/
  budget : Nat
  /-- B is above 80 % of C and that has been logged (R93). -/
  high : Bool
  /-- Ticks of the over-current trips of the last 10 s (R91). -/
  trips : List Tick
  deriving DecidableEq, Repr

/-- A channel's part in the LF operation in progress: its charge at the start (R93). -/
structure LfDrive where
  ch : Nat
  target : Nat
  onUs : Nat
  deriving DecidableEq, Repr

/-- The kinds of LF transmission (table Drive profiles, R73, R77). -/
inductive LfOp where | wake | command | vector
  deriving DecidableEq, Repr

/-- One transmission of an LF operation: a frame on the channels of a pair, or a burst on one channel (R76, R83). -/
structure LfUnit where
  chans : List Nat
  /-- The profile's target code. -/
  target : Nat
  /-- W and the bytes of the frame, header to CRC; none for a burst. -/
  frame : Option (Nat × Bytes)
  /-- Channels whose current a DETUNED reduction has lowered in it (R85, R89). -/
  detuned : List Nat
  deriving DecidableEq, Repr

/-- The LF operation in progress (R47, R78 to R88), with the settings it started with (R95). -/
structure LfRun where
  slot : Nat
  op : LfOp
  /-- The second channel of a pair is driven in phase with the first, not a quarter period behind it (R71). -/
  inPhase : Bool
  /-- The nominal carrier in 0.1 kHz. -/
  nominal : Nat
  /-- UNCALIBRATED channels still to be calibrated before the first transmission (R87). -/
  cals : List Nat
  units : List LfUnit
  /-- Transmissions that have ended, and the tick in which the next one's carrier begins; none while channels are calibrated. -/
  ended : Nat
  onset : Option Tick
  /-- What each channel was charged with (R93). -/
  drives : List LfDrive
  deriving DecidableEq, Repr

/-- The LF field array (R68 to R95). -/
structure LfArray where
  channels : List LfChannel
  run : Option LfRun
  /-- Channels a command still has to calibrate, and those a temperature change schedules (R87). -/
  commanded : List Nat
  scheduled : List Nat
  /-- The channel under calibration, and the nominal carrier it started with (R86, R95). -/
  calibrating : Option (Nat × Nat)
  /-- Channels finished in the calibration under way (R87). -/
  finished : List Nat
  /-- Executed tick of the last host write that changed channel states: operations see it two ticks later (R95). -/
  hostTick : Option Nat
  /-- VLF in mV as the present tick's measurement found it (R92). -/
  vlfMv : Nat
  deriving DecidableEq, Repr

/-! ## Badge sessions (chapter 04): state outside the slots -/

/-- A packet as sent (R104, R126, R132, R142): TYPE, HANDLE, payload, rate code, antenna port, power in steps of 0.5 dBm, and its bytes on
the air. -/
structure SentPacket where
  type : Nat
  handle : Nat
  payload : Bytes
  rate : Nat
  port : Nat
  power : Int
  frame : Bytes
  deriving DecidableEq, Repr

/-- What chapter 04 keeps outside the slots. -/
structure BadgeState where
  /-- The 4-bit wake sequence (R102). -/
  ws : Nat
  /-- The payload of the last WAKE frame (R103). -/
  wake : Bytes
  /-- The last packet sent, of an approach or of a raw command (R104, R149). -/
  lastPacket : SentPacket
  deriving DecidableEq, Repr

/-! ## Radio (chapter 05) -/

/-- The raw commands with an air activity, codes 0x01 to 0x06 (R149). -/
inductive RawCommand where | txCw | txPrbs | txPacket | rx | scan | capture
  deriving DecidableEq, Repr

/-- The synthesiser calibration: commanded, due since a tick, overdue, running (R134 to R137). -/
structure SynthCal where
  commanded : Bool
  due : Option Tick
  overdue : Bool
  running : Bool
  /-- Tick of the last attempt (R137). -/
  lastTry : Tick
  /-- 0x2421:03, in 0.1 °C (R134). -/
  temp : Int
  deriving DecidableEq, Repr

/-- One background calibration: when it last ran, at what temperature, and whether it is due from RFX coming on (R144). -/
structure BgState where
  lastRun : Tick
  lastTemp : Int
  forced : Bool
  deriving DecidableEq, Repr

/-- What an RF operation of a session has on the air (R105, R159, R162). -/
inductive AirKind where | packet | sweep | probes
  deriving DecidableEq, Repr

/-- The RF operation in progress: its slot, the executed tick it began in, whether it needs the grant, and the executed ticks in which its
own transmission and its receive window end (R47, R105, R138, R147). -/
structure Air where
  slot : Nat
  kind : AirKind
  needsGrant : Bool
  from_ : Nat
  txEnd : Nat
  close : Nat
  /-- A reply or the answers of a round are awaited. -/
  reply : Bool
  deriving DecidableEq, Repr

/-- Mask state of an input under the rules of R415, R148, R204. -/
inductive Mask where | armed | stuck | rate
  deriving DecidableEq, Repr

/-- The 2.4 GHz transceiver (R125 to R152). -/
structure Radio where
  /-- The active raw command and the tick it was accepted in; `settling` while it awaits lock (R149, R150). -/
  raw : Option RawCommand
  rawFrom : Tick
  settling : Bool
  /-- Executed tick in which it began, and the one from which it ends (R149). -/
  rawStart : Nat
  rawUntil : Nat
  /-- STOP has been written; it ends with the packet on the air or the current dwell (R151). -/
  rawStop : Bool
  /-- Packets a raw TX_PACKET transmits, under the settings it started with (R149, R152). -/
  rawPackets : Nat
  synth : SynthCal
  /-- FAILED (R137). -/
  failed : Bool
  /-- The radio admission gate (R43) is closed for an overdue calibration (R135). -/
  gateClosed : Bool
  bg : List BgState
  /-- Executed tick in which the background calibration in progress ends (R144). -/
  bgUntil : Nat
  /-- The band table: capacitor code and VCO gain of each of the 16 sub-bands. Its copies in RFX, CORE SRAM and MRAM are the same (R134). -/
  bands : List (Nat × Nat)
  /-- Gain and phase correction of the last IQ image calibration, neutral at 0 (R128). -/
  iqGain : Int
  iqPhase : Int
  /-- Offset of the last PA detector calibration, and the PA setting of the last transmission, in 0.1 dB (R141). -/
  paOffset : Int
  paSetting : Rat
  air : Option Air
  /-- Tick in which the radio last transmitted or received (R145). -/
  lastAir : Tick
  /-- The levels of the wires CXREQ and CXPRI (R146). -/
  cxReq : Bool
  cxPri : Bool
  cxMask : Mask
  cxMaskedAt : Tick
  /-- CXGNT withholds the grant since this tick (R148). -/
  cxHeld : Option Tick
  /-- Ticks of the withdrawals of the last second (R148). -/
  cxDrops : List Tick
  /-- The chain tables of R167 hold. -/
  chainOk : Bool
  deriving DecidableEq, Repr

/-! ## Start lock, latch and panel (chapter 07) -/

/-- The start lock (R172, R210). -/
structure Lock where
  released : Bool
  /-- 0x2600:02 -/
  changeTick : Tick
  /-- 0x2600:03: 0 start-up, 1 release, 2 stop, 3 HVIL -/
  cause : Nat
  /-- 0x2600:04 -/
  credential : Nat
  deriving DecidableEq, Repr

/-- SVLATCH: energised, and in the hold phase after pull-in (R203). -/
structure Latch where
  on : Bool
  hold : Bool
  since : Tick
  deriving DecidableEq, Repr

/-- One feedback land: its filtered level, the run of differing samples of its 3-tick filter, the executed tick since
which it disagrees with the committed lock, and its mismatch bit (R181, R182). -/
structure FeedbackLand where
  level : Bool
  run : Nat
  disagree : Option Nat
  mismatch : Bool
  deriving DecidableEq, Repr

/-- SVPANEL (R204 to R206, R19). -/
structure Panel where
  open_ : Bool
  mask : Mask
  maskedAt : Tick
  /-- Since when it is open, and since when closed. -/
  since : Tick
  /-- Ticks of the opens of the last second (R204). -/
  opens : List Tick
  deriving DecidableEq, Repr

/-- What chapter 07 keeps outside the slots (R186, R191, R197). -/
structure Vehicle where
  feedbackA : FeedbackLand
  feedbackB : FeedbackLand
  /-- Executed tick of the last change of the lock, from which the settle times run (R181). -/
  settleFrom : Nat
  panel : Panel
  /-- The next EXID (R186). -/
  exid : Nat
  /-- The outbound message of USDO server 1 and 2; empty while the server has no exchange (R191). -/
  out1 : Bytes
  out2 : Bytes
  /-- The port the release in force came on (R180). -/
  releasePort : Option Port
  /-- HVIL opened in this tail while released: the withdrawal is due at the next commit (R202). -/
  hvilDue : Bool
  deriving DecidableEq, Repr

/-! ## Module tag inventory (chapter 08) -/

/-- The tag states, codes 0x01 to 0x06 (R224). -/
inductive TagState where | valid | present | foreign | originFail | unreadable | nonCompliant
  deriving DecidableEq, Repr

/-- One binding (table Binding entry, R230). -/
structure Binding where
  uid : Bytes
  loop : Nat
  present : Bool
  confirmed : Bool
  keySlot : Byte
  type : Bytes
  serial : Bytes
  seen : Nat
  deriving DecidableEq, Repr

/-- One entry of the walk's result table (table Result entry, R230); `state` is none while its origin verification runs. -/
structure Tag where
  uid : Bytes
  loop : Nat
  also : Nat
  state : Option TagState
  keySlot : Byte
  rate : Nat
  type : Bytes
  serial : Bytes
  record : Bytes
  signature : Bytes
  deriving DecidableEq, Repr

/-- A branch of the anticollision: the UID bits of the completed levels and those known of the current level, in order of
transmission (R219). -/
structure Branch where
  level : Nat
  done : List (List Bool)
  known : List Bool
  deriving DecidableEq, Repr

/-- What frame the walk has sent and waits for (R219 to R222). -/
inductive WalkStep where
  /-- Field off, the loop to be switched on next is selected (R214). -/
  | fieldOff
  /-- REQA before a branch. -/
  | reqa (b : Branch)
  /-- SELECT of a completed lower level of a branch, `k` of them done. -/
  | reselect (b : Branch) (k : Nat)
  /-- Anticollision at the branch's level. -/
  | anticollision (b : Branch)
  /-- SELECT of the branch's own level. -/
  | select (b : Branch)
  /-- RATS and PPS of a new tag. -/
  | activate (uid : Bytes)
  /-- SELECT of the module application, then READ ORIGIN, then S(DESELECT). -/
  | application (uid : Bytes) (rate : Nat)
  | readOrigin (uid : Bytes) (rate : Nat)
  | deselect
  /-- HLTA of a tag that is not read. -/
  | halt
  /-- The two REQA of the confirmation pass (R221). -/
  | confirm (second : Bool)
  deriving DecidableEq, Repr

/-- The settings a walk started with (R232): settle time and field-on guard in µs, transmit power, maximum rate, FWI cap, frame retries,
walk limit, mismatch action, and the four origin keys. -/
structure WalkSettings where
  settle : Nat
  guard : Nat
  power : Nat
  maxRate : Nat
  fwiCap : Nat
  retries : Nat
  limit : Nat
  action : Nat
  keys : List Bytes
  deriving DecidableEq, Repr

/-- The walk in flight (R219 to R231). -/
structure Walk where
  purpose : Purpose
  settings : WalkSettings
  /-- The loops of the request and enable masks, and those still to do after the current one. -/
  mask : Nat
  todo : List Nat
  loop : Nat
  stack : List Branch
  step : WalkStep
  retries : Nat
  /-- The loop is the first, before which the field has been off in any case; the tick in which the field went off (R214). -/
  firstLoop : Bool
  offFrom : Tick
  /-- The tick of the last REQA of the confirmation pass (R221). -/
  reqaAt : Tick
  /-- The FWI in force for the tag being read (R212). -/
  fwi : Nat
  /-- UIDs selected on this loop, one entry for each selection (R222). -/
  selections : List Bytes
  /-- Tags taken on this loop (R222). -/
  taken : Nat
  since : Tick
  /-- Every loop has ended; only verifications are left (R227). -/
  scanned : Bool
  deriving DecidableEq, Repr

/-- The inventory (R223 to R230). -/
structure Inventory where
  walk : Option Walk
  bindings : List Binding
  results : List Tag
  /-- The loops of the last BIND walk, its time in RTC seconds and its candidates, while a candidate set exists (R228). -/
  candidates : Option (Nat × Nat × List Tag)
  /-- Result of the last CHECK walk (R243). -/
  checkResult : Code
  /-- Tick from which the check interval counts (R223). -/
  checkFrom : Tick
  deriving DecidableEq, Repr

/-! ## Kaolin (chapter 09) -/

/-- The file kept for a FID, `none` where both copies of its length record or content are bad (R242, R256). -/
structure KaolinFile where
  fid : Nat
  content : Option Bytes
  deriving DecidableEq, Repr

/-- The applications (R239). -/
inductive KaolinApp where | ndef | kaolin
  deriving DecidableEq, Repr

/-- Open, secured by PIN, or secured by reader (0x2800:01; R246 to R249). -/
inductive Secured where
  | open_
  | pin
  /-- Reader entry, session key KSR, and SEQ of the next command and the next response (R249). -/
  | reader (entry : Nat) (ksr : Bytes) (seqIn seqOut : Nat)
  deriving DecidableEq, Repr

/-- A field session (R234 to R262). -/
structure FieldSession where
  /-- The tag has been activated by RATS (R234). -/
  active : Bool
  rate : Nat
  app : Option KaolinApp
  /-- The current FID, and whether a host commit voided the selection (R258). -/
  file : Option Nat
  voided : Bool
  secured : Secured
  /-- CK of the last GET CHALLENGE, not yet used (R248). -/
  challenge : Option Bytes
  /-- The unused bytes of R (R261). -/
  pool : Bytes
  /-- The staged append: FID and bytes (R253). -/
  staged : Option (Nat × Bytes)
  /-- It has reached the Kaolin application (R262). -/
  reached : Bool
  path : Nat
  readerId : Nat
  reads : Nat
  failedAuth : Nat
  appends : Nat
  liveSigns : Nat
  lowestP : Nat
  deriving DecidableEq, Repr

/-- A host write of a file that waits for its PASSPORT sessions (R257, R259). -/
structure HostFileWrite where
  fid : Nat
  content : Bytes
  since : Tick
  /-- Bytes of the inactive copy filled by sessions that have ended (R257). -/
  filled : Nat
  deriving DecidableEq, Repr

/-- Kaolin (R234 to R263). -/
structure Kaolin where
  files : List KaolinFile
  field : Option FieldSession
  /-- A live signing runs (R238, R252). -/
  signing : Bool
  /-- P in 0.1 mW and the reservoir in µJ (R238). -/
  power : Nat
  reservoir : Nat
  /-- 0x2810:03 -/
  pinTries : Nat
  /-- 0x2812, by entry 1 to 16 -/
  failures : List Nat
  /-- C and its counter; none while both copies are bad (R256, R261). -/
  carry : Option Bytes
  carryCount : Nat
  carryFrom : Tick
  hostWrite : Option HostFileWrite
  /-- FIELDLOG, oldest first (R262), and how many of its newest entries CORE has not yet copied. -/
  log : List Bytes
  fresh : Nat
  statusFrom : Tick
  /-- The last answer on the air: data and status word (R244, R245). -/
  response : Bytes × Nat
  deriving DecidableEq, Repr

/-! ## Cipher engine (chapter 10) -/

/-- The owner of a key register or of the lock (R273, R275). -/
inductive CipherOwner where
  | slot (n : Nat)
  | kaolin
  | selfTest
  deriving DecidableEq, Repr

/-- What a key register holds: a key derived under a label, or a forerunner key made by CMAC to register (R272). -/
inductive KeyUse where
  | derived (label : Label)
  | ks7
  | tk7
  deriving DecidableEq, Repr

/-- A key register (R272 to R274). -/
structure KeyRegister where
  reg : Nat
  owner : CipherOwner
  use : KeyUse
  value : Bytes
  /-- IVs of its last 64 seals (R274). -/
  ivs : List Bytes
  deriving DecidableEq, Repr

/-- A suspended operation in a saved context (R278). -/
structure SavedContext where
  slot : Nat
  cls : Nat
  since : Nat
  deriving DecidableEq, Repr

/-- An open in progress: granules of Silt and of the annex it holds, and its consumer if provisional (R289, R292). -/
structure GcmOpen where
  slot : Nat
  silt : Nat
  annex : Nat
  provisional : Option Consumer
  /-- Bytes of the payload, and whether all of them have been written to the destination. -/
  total : Nat
  complete : Bool
  deriving DecidableEq, Repr

/-- The symmetric cipher engine (R265 to R301). -/
structure Cipher where
  failed : Bool
  testing : Bool
  /-- FAILED is left only by a self-test after SEC has been off and on again (R284). -/
  cycled : Bool
  lock : Option CipherOwner
  lockFrom : Nat
  contexts : List SavedContext
  registers : List KeyRegister
  opens : List GcmOpen
  unmasked : Bool
  /-- Ticks of the comparison failures of the last second (R284). -/
  compareFails : List Tick
  /-- Roots 1 to 3 and 14 that hold a value, by slot (R267); slot 0 and 15 likewise. -/
  roots : List (Nat × Bytes)
  /-- Slots waiting for a key register, with the executed tick (R273). -/
  registerWaits : List (Nat × Nat)
  deriving DecidableEq, Repr

/-! ## Signatures, firmware and random source (chapter 11) -/

/-- The bank states 0 to 4 (0x2A32). -/
inductive BankState where | empty | writing | valid | active | invalid
  deriving DecidableEq, Repr

/-- One firmware bank: its state and what its header says (R314, R316). -/
structure Bank where
  state : BankState
  imageId : Bytes
  release : Nat
  svn : Nat
  digest : Bytes
  length : Nat
  /-- The image header in the first 1 KiB of the bank (R314, R316). -/
  header : Bytes
  deriving DecidableEq, Repr

/-- The signature and hash engine, the chain, attestation and firmware (R303 to R318). -/
structure Signature where
  failed : Bool
  testing : Bool
  cycled : Bool
  compareFails : List Tick
  /-- The certificate chain is committed (R312). -/
  certified : Bool
  chain : Bytes
  uidSigV : Bytes
  /-- The identity private key exists (R24, R312). -/
  identity : Bool
  banks : List Bank
  activeBank : Nat
  /-- 0x2A35:00 -/
  svn : Nat
  /-- The bank an installation writes, and the USDO server that carries the image (R316, R353). -/
  installing : Option (Nat × Srv)
  /-- An activation has been accepted and the reset has not yet come (R317). -/
  activating : Bool
  /-- No usable bank: boot recovery (R318). -/
  recovery : Bool
  deriving DecidableEq, Repr

/-- The source states, codes 0x00 to 0x04 (R325). -/
inductive SourceState where | off | starting | ready | restarting | latched
  deriving DecidableEq, Repr

/-- One generator instance (R322 to R326). -/
structure Generator where
  seeded : Bool
  calls : Nat
  reseedTick : Tick
  exhausted : Bool
  /-- The slots whose requests wait, in order of arrival (R323, R326). -/
  queue : List Nat
  deriving DecidableEq, Repr

/-- The random source (R319 to R330). -/
structure Random where
  source : SourceState
  instances : List Generator
  /-- 0x2A40:02 -/
  failures : Nat
  lastRestartEnd : Tick
  /-- Blocks in the pool, 0 to 16, and microseconds towards the next one (R321). -/
  pool : Nat
  conditioned : Nat
  /-- A start-up test runs (R320). -/
  testing : Bool
  /-- The test runs to clear the latch (R329). -/
  recovering : Bool
  onFrom : Tick
  deriving DecidableEq, Repr

/-! ## Field network (chapter 12) -/

/-- The NMT states (0x2B02:03; R339). -/
inductive Nmt where | initialising | stopped | operational | preOperational
  deriving DecidableEq, Repr

/-- The bus states of a port that is on (0x2B02:01; R335). -/
inductive BusState where | active | passive | busOff
  deriving DecidableEq, Repr

/-- Progress of Fastscan (R342, CiA 305). -/
structure Fastscan where
  sub : Nat
  deriving DecidableEq, Repr

/-- A queued EMCY message: error code, error register, and the manufacturer-specific bytes (R350). -/
structure Emcy where
  error : Code
  register : Nat
  code : Code
  subject : Nat
  tick : Nat
  deriving DecidableEq, Repr

/-- One CAN port (R332 to R350). -/
structure CanPort where
  nmt : Nmt
  bus : BusState
  /-- Since when it is bus-off, and whether recovery has been started by hand (R335). -/
  busOffFrom : Tick
  recovering : Bool
  /-- The rates and the node-ID in effect (R333, R342). -/
  nominal : Nat
  data : Nat
  node : Nat
  /-- The node-ID and nominal rate LSS has configured but not stored or activated (R342). -/
  lssNode : Option Nat
  lssRate : Option Nat
  /-- LSS configuration state, and how far a Fastscan has come. -/
  lssConfig : Bool
  fastscan : Fastscan
  /-- Queued EMCY messages, oldest first, and whether the overflow of this episode is logged (R350). -/
  emcy : List Emcy
  overflow : Bool
  /-- EMCY messages sent, newest first, up to the last four: what the port put on the bus; and the tick of the last one,
  from which the inhibit time counts (R350). -/
  lastSent : List Emcy
  emcyFrom : Tick
  /-- TPDOs queued for transmission: number and payload (R349). -/
  tpdos : List (Nat × Bytes)
  /-- Tick of the last heartbeat sent (R338). -/
  heartbeatFrom : Tick
  /-- Boot-up messages sent since start-up (R341). -/
  bootUps : Nat
  /-- The last LSS response: command specifier and data (R342). -/
  lssResponse : Option (Nat × Nat)
  /-- Tick of the last NODE_ID_CLASH (R346). -/
  clashAt : Option Tick
  deriving DecidableEq, Repr

/-- A USDO server (R351 to R354). -/
structure UsdoServer where
  /-- The client and port that hold it. -/
  client : Option (Port × Nat)
  segmented : Bool
  lastFrame : Tick
  /-- The DICTIONARY slot of its session (R353). -/
  slot : Option Nat
  /-- The abort code of the last failed access (R356). -/
  abortCode : Nat
  deriving DecidableEq, Repr

/-- The partner states (R344). -/
inductive PartnerState where | expected | present | lost
  deriving DecidableEq, Repr

/-- One partner entry (R344). -/
structure Partner where
  port : Port
  node : Nat
  state : PartnerState
  operational : Bool
  /-- The sub-index of 0x1016 of a configured entry (R344). -/
  configured : Option Nat
  last : Tick
  losses : Nat
  lostAt : Tick
  deriving DecidableEq, Repr

/-- The field network (R332 to R358). -/
structure Network where
  portV : CanPort
  portP : CanPort
  server1 : UsdoServer
  server2 : UsdoServer
  partners : List (Option Partner)
  tableFullAt : Option Tick
  /-- SYNCs counted since each synchronous TPDO was last sent, by number (R349). -/
  syncCounts : List (Nat × Nat)
  /-- Tick from which each TPDO's inhibit time counts, by number (R349). -/
  inhibit : List (Nat × Tick)
  /-- The set of outstanding errors at the last EMCY evaluation (R444). -/
  outstanding : Nat
  deriving DecidableEq, Repr

/-! ## Sahun bridge (chapter 13) -/

/-- The link states, codes 0x00 to 0x04 (R361). -/
inductive LinkState where | down | training | up | degraded | failed
  deriving DecidableEq, Repr

/-- A read in flight (R365). -/
structure BridgeRead where
  tag : Nat
  slot : Nat
  addr : Nat
  len : Nat
  /-- Executed tick of issue; a read is held until its step has sent it, while the link trains (R361). -/
  issued : Nat
  held : Bool
  /-- Tags of the writes sent before it, whose failure arrives before its data (R368). -/
  after : List Nat
  /-- Ticks after which it times out, and bytes clocked beyond its end, under the settings it was issued with (R365, R372, R374). -/
  limit : Nat
  depth : Nat
  deriving DecidableEq, Repr

/-- A write that waits for room: its slot, since which executed tick, and what it writes (R366). -/
structure RoomWait where
  slot : Nat
  since : Nat
  addr : Nat
  data : Bytes
  deriving DecidableEq, Repr

/-- A posted write: queued in this tick's body, or sent and not yet acknowledged (R366). -/
structure PostedWrite where
  tag : Nat
  slot : Nat
  addr : Nat
  data : Bytes
  sent : Option Tick
  /-- A later read has been answered: it has been applied without an error (R368). -/
  applied : Bool
  deriving DecidableEq, Repr

/-- A transaction on the auxiliary SPI under one chip select: mode, clock in kHz, bytes clocked out, bytes clocked in after them (R371). -/
structure AuxTransfer where
  mode : Nat
  kHz : Nat
  out : Bytes
  read : Nat
  deriving DecidableEq, Repr

/-- A stream packet in the landing buffer (R368, R369). -/
inductive Landed where
  | sample (seq lost : Nat) (record : Bytes)
  | event (seq lost : Nat) (event : Bytes)
  deriving DecidableEq, Repr

/-- The AUX prefetch line (R372). -/
structure PrefetchLine where
  slot : Nat
  addr : Nat
  bytes : Bytes
  usedAt : Nat
  deriving DecidableEq, Repr

/-- The Sahun bridge (R360 to R373). -/
structure Bridge where
  link : LinkState
  /-- A training is under way (R361, R362). -/
  training : Bool
  /-- 0x2C00:02 -/
  lanes : Nat
  /-- Consecutive failed trainings, and the tick of the last (R362). -/
  failedTrainings : Nat
  lastTraining : Tick
  reads : List BridgeRead
  writes : List PostedWrite
  roomWaits : List RoomWait
  /-- Ticks of the read timeouts of the last second (R365). -/
  timeouts : List Tick
  /-- NAKs of each packet not yet through (R363). -/
  naks : List (SahunPacket × Nat)
  /-- The last packet the main side has sent (R363), and the last transaction asked of the auxiliary SPI (R371). -/
  lastPacket : Bytes
  aux : Option AuxTransfer
  /-- 0x2C02:01, and whether a first packet has set it since EPT came on. -/
  committedSeq : Nat
  streamOn : Bool
  landed : List Landed
  line : Option PrefetchLine
  deriving DecidableEq, Repr

/-! ## Metering and lease (chapter 14) -/

/-- The HVIL state of 0x2D00:05 (R386). -/
inductive Hvil where | unknown | closed | opened | fault
  deriving DecidableEq, Repr

/-- The insulation state of 0x2D00:07 (R389). -/
inductive Insulation where | unknown | good | warning | low
  deriving DecidableEq, Repr

/-- The credit states (R391). -/
inductive CreditState where | positive | grace | exhausted
  deriving DecidableEq, Repr

/-- A journal import in progress (R400). -/
structure Import where
  iseq : Nat
  count : Nat
  source : Bytes
  /-- The USDO server that carries it (R353), and whether IMPORT_BEGIN has been written. -/
  srv : Srv
  begun : Bool
  deriving DecidableEq, Repr

/-- The latest committed sample record's values (R378). -/
structure SampleView where
  tick : Tick
  vpack : Int
  vlink : Int
  ish : Int
  freeRun : Bool
  vOver : Bool
  deriving DecidableEq, Repr

/-- The meter, the credit and the journal (R376 to R401). -/
structure Ledger where
  sample : Option SampleView
  hvil : Hvil
  insulation : Insulation
  /-- A FREE_RUN record since the last receipt (R396). -/
  freeRunSeen : Bool
  /-- The last good snapshot (R383). -/
  snapshot : Option Snapshot
  /-- The lifetime totals in µWh (R384). -/
  charge : Nat
  discharge : Nat
  /-- Discharge not yet debited, in µWh (R384). -/
  remainder : Nat
  /-- C in Wh (R391). -/
  credit : Int
  state : CreditState
  graceEnergy : Nat
  graceTime : Nat
  /-- The grace clock in ticks, and its value as last written to MRAM (R391). -/
  graceTicks : Nat
  graceSaved : Nat
  /-- 0x2D42:06 -/
  serial : Nat
  held : Int
  /-- Journal records by SEQ, newest first (R395). -/
  records : List (Nat × Bytes)
  nextSeq : Nat
  ackSeq : Nat
  /-- The state of R399 last reported: 0 NORMAL, 1 LOW, 2 RESERVE, 3 FULL. -/
  journalState : Nat
  receiptFrom : Tick
  latestReceipt : Bytes
  importing : Option Import
  importSeq : Nat
  /-- Zeroing of the offset in progress: records still to take and their sum in mA (R381). -/
  zeroing : Option (Nat × Int)
  /-- The tick of the last fold, skipped or not (R384). -/
  foldFrom : Tick
  /-- The tick of the last read-back of the Eptan constants; none where one is due since LINK_UP (R380). -/
  configFrom : Option Tick
  /-- Consecutive records with |ISH| below 0.5 % of FS (R381). -/
  quiet : Nat
  deriving DecidableEq, Repr

/-! ## Domains and wake (chapter 15) -/

/-- The domain states of 0x2E00 (R403, R407). -/
inductive DomainState where | off | retention | on | rising | falling | fault
  deriving DecidableEq, Repr

/-- Why a target was set (R410). -/
inductive RequestSource where | host | group | firstAccess | wake
  deriving DecidableEq, Repr

/-- One domain: its state, the state it moves to, its pending target and its result record (R406 to R410). -/
structure DomainCell where
  state : DomainState
  /-- The state a transition in progress began in (R407). -/
  prior : DomainState
  target : Nat
  /-- 0x2E04 -/
  pending : Option Nat
  /-- Executed tick from which the pending target is evaluated. -/
  pendingFrom : Nat
  result : Code
  reason : Nat
  source : RequestSource
  began : Nat
  deriving DecidableEq, Repr

/-- The group request in progress: the executed tick from which it is carried out, targets, and the domains still to do in
order (R409). -/
structure Group where
  from_ : Nat
  targets : List (Domain × Nat)
  todo : List Domain
  deriving DecidableEq, Repr

/-- One wake source's filter (R415). -/
structure WakeSource where
  mask : Mask
  maskedAt : Tick
  events : List Tick
  deriving DecidableEq, Repr

/-- One cap electrode (R417). -/
structure Electrode where
  /-- Baseline in 0.01 pF. -/
  baseline : Nat
  touched : Bool
  /-- Scans in a row at or above the threshold, or below half of it. -/
  run : Nat
  /-- Scans of a re-acquisition still to come. -/
  reacquire : Nat
  /-- A touch has been declared and not yet been committed as a touch event (R101, R417). -/
  fresh : Bool
  deriving DecidableEq, Repr

/-- Domains, wake, RTC, electrodes and the thermal budget (R403 to R422). -/
structure Power where
  domains : List (Domain × DomainCell)
  group : Option Group
  sources : List WakeSource
  /-- The RTC's count in ticks, and validity (R418). -/
  rtc : Nat
  rtcValid : Bool
  /-- The RTC's count when CORE last left on (R34, R418). -/
  rtcLeft : Nat
  /-- The alarm has fired (R418). -/
  alarmFired : Bool
  electrodes : List Electrode
  /-- Touches to be committed after CORE reports ready (R414). -/
  wakeTouch : Option Nat
  /-- L in units of 25 nJ: 1 mW over one tick (R419). -/
  thermal : Nat
  thermalHigh : Bool
  guard : Bool
  /-- Die temperature in 0.1 °C (0x2E51:02). -/
  die : Int
  deriving DecidableEq, Repr

/-! ## Start-up, faults and logs (chapter 16) -/

/-- Where the main die stands (R424 to R430). -/
inductive Boot where
  /-- In reset or running the sequence of a start-up kind, after `failures` failed self-tests in a row (R430); no boot-up
  message sent yet. -/
  | resetting (kind : StartKind) (failures : Nat)
  /-- Waiting 100 ms after a failed self-test, `failures` in a row (R430). -/
  | retry (kind : StartKind) (failures : Nat)
  /-- Halted after three failures (R430). -/
  | halted
  /-- CORE is off (R403, R414). -/
  | coreOff
  | running
  deriving DecidableEq, Repr

/-- The Hardpan latch (R437, R438). -/
structure Hardpan where
  /-- 0x2F10:02 -/
  causes : Nat
  set : Bool
  /-- 0x2F10:04 -/
  tick : Tick
  /-- Detectors whose condition is present now: shield, clock, temperature (R436). -/
  shield : Bool
  clock : Bool
  temperature : Bool
  /-- Key region items with both copies bad (R487). -/
  badItems : List KeyItem
  deriving DecidableEq, Repr

/-- The event log and the fault log (R441, R443). -/
structure Logs where
  /-- Event entries, newest first, with their sequence numbers. -/
  events : List (Nat × Bytes)
  nextEvent : Nat
  /-- Fault entries at 0x2F30:01 to :40, by sub-index. -/
  faults : List (Nat × Bytes)
  nextFault : Nat
  deriving DecidableEq, Repr

/-- Start-up and fault handling (R424 to R436). -/
structure Platform where
  boot : Boot
  starts : Nat
  /-- The fault records AON holds for the next start-up: class, detector, code (R430, R435). -/
  aonRecords : List Bytes
  /-- Re-executions of the current tick, and the ticks of those of the last second (R434). -/
  attempts : Nat
  reexecuted : List Tick
  /-- Ticks of the glitch excursions of the last second (R436). -/
  glitches : List Tick
  /-- The internal oscillator is in use (R436). -/
  fallbackClock : Bool
  deriving DecidableEq, Repr

/-! ## The whole -/

/-- What the tail of a tick commits, as it becomes visible two ticks later (R36, R39). -/
structure Visible where
  life : Lifecycle
  sealing : Sealing
  tilth : Tilth
  lf : LfArray
  badges : BadgeState
  radio : Radio
  lock : Lock
  latch : Latch
  vehicle : Vehicle
  inv : Inventory
  kaolin : Kaolin
  cipher : Cipher
  sig : Signature
  rng : Random
  net : Network
  bridge : Bridge
  ledger : Ledger
  power : Power
  platform : Platform
  hardpan : Hardpan
  logs : Logs
  dict : List (Nat × Bytes)
  credentials : List (Nat × Bytes)
  deriving DecidableEq, Repr

/-- The state of the BLS-9640, and the queue of commands that wait, first in, first out. -/
structure State where
  life : Lifecycle
  sealing : Sealing
  tilth : Tilth
  lf : LfArray
  badges : BadgeState
  radio : Radio
  lock : Lock
  latch : Latch
  vehicle : Vehicle
  inv : Inventory
  kaolin : Kaolin
  cipher : Cipher
  sig : Signature
  rng : Random
  net : Network
  bridge : Bridge
  ledger : Ledger
  power : Power
  platform : Platform
  hardpan : Hardpan
  logs : Logs
  /-- Dictionary values that differ from their default, keys rising. -/
  dict : List (Nat × Bytes)
  /-- Credential records that are not all zero, store indices rising (R454). -/
  credentials : List (Nat × Bytes)
  /-- What the last two tails committed: the newer one, and the older one, which dispatch and reads see (R36, R39). -/
  hist1 : Visible
  hist2 : Visible
  /-- The counter of free values (log entry 2): the model's own. -/
  free : Nat
  pending : List Instr
  deriving DecidableEq, Repr

/-! ## Reset

The machine just out of the reset of a COLD start: mode BLANK as delivered (R10, R30), no step of the start-up sequence
run yet (R427), every dictionary entry at the default its table states, FACTORY-set data from `Config` (log entry 4).
A field for which the manual states no value is zero, empty or none (log entry 7, DESIGN CHOICE). -/

/-- The first n bytes of an opaque byte source. -/
def bytesOf (f : Nat → Byte) (n : Nat) : Bytes := (List.range n).map f

/-- The UID (R235). -/
def uid : Bytes := bytesOf Config.uidByte 7

/-- An LF channel as delivered: UNCALIBRATED, ceiling 15, budget 0 (R87, R94, R96). -/
def LfChannel.reset : LfChannel :=
  { state := .uncalibrated, saved := .uncalibrated, ceiling := 15, budget := 0, high := false, trips := [] }

/-- A background calibration that has not run yet (R144). -/
def BgState.reset : BgState := { lastRun := 0, lastTemp := 0, forced := false }

/-- A feedback land with the lock withheld (R179, R181): its level is the one that means MOSFET off, which the pull on the land
gives (R478; log entry 7). -/
def FeedbackLand.reset (level : Bool) : FeedbackLand := { level := level, run := 0, disagree := none, mismatch := false }

/-- A CAN port that is off (R333, R339, R358). -/
def CanPort.reset : CanPort :=
  { nmt := .initialising, bus := .active, busOffFrom := 0, recovering := false, nominal := 2, data := 2, node := 0x20,
    lssNode := none, lssRate := none, lssConfig := false, fastscan := { sub := 0 }, emcy := [],
    overflow := false, lastSent := [], emcyFrom := 0, tpdos := [], heartbeatFrom := 0, bootUps := 0, lssResponse := none, clashAt := none }

/-- A free USDO server (R351). -/
def UsdoServer.reset : UsdoServer :=
  { client := none, segmented := false, lastFrame := 0, slot := none, abortCode := 0 }

/-- An unseeded generator instance (R326). -/
def Generator.reset : Generator := { seeded := false, calls := 0, reseedTick := 0, exhausted := false, queue := [] }

/-- A domain in a state, with the result record of R410 at its default. -/
def DomainCell.reset (st : DomainState) : DomainCell :=
  { state := st, prior := st, target := 0, pending := none, pendingFrom := 0, result := 0, reason := 0, source := .host, began := 0 }

/-- The domains in index order (R404). -/
def Domain.all : List Domain := [.aon, .fld, .core, .sec, .rns, .lfa, .rfx, .hfr, .canv, .canp, .brg, .ept]

/-- The NDEF file at delivery (R241). -/
def ndefDelivery : Bytes :=
  [0x00, 0x18, 0xD4, 0x0E, 0x07, 0x64, 0x61, 0x72, 0x69, 0x74, 0x68, 0x3A, 0x62, 0x6C, 0x73, 0x39, 0x36, 0x34, 0x30] ++ uid

/-- IDENT (R242). -/
def identFile : Bytes :=
  [0x01] ++ uid ++ [0xB0, 0x42, 0x4C, 0x53, 0x39, 0x36, 0x34, 0x30] ++ bytesOf Config.identityKeyByte 57
    ++ List.replicate 7 0

/-- The Kaolin files held in MRAM, as delivered (R240 to R242). -/
def filesDelivery : List KaolinFile :=
  [⟨0xE103, some [0x00, 0x0F, 0x20, 0x00, 0xF6, 0x00, 0xF6, 0x04, 0x06, 0xE1, 0x04, 0x10, 0x00, 0x00, 0xFF]⟩,
   ⟨0xE104, some ndefDelivery⟩, ⟨0x0101, some identFile⟩, ⟨0x0102, some (bytesOf Config.uidSigVByte 114)⟩,
   ⟨0x0103, some []⟩, ⟨0x0104, some (bytesOf Config.chainByte 422)⟩, ⟨0x0110, some []⟩, ⟨0x0130, some []⟩,
   ⟨0x0140, some []⟩, ⟨0x0141, some []⟩, ⟨0x0142, some []⟩, ⟨0x0143, some []⟩]

/-- What the machine holds right after reset. -/
def Visible.reset : Visible :=
  { life :=
      { mode := .blank, prev := .factory, changeTick := 0, changeCount := 0, dormantReturn := none,
        quarantineReturn := none, pending := none, quarantineDue := false, serviceFrom := 0, periods := 0 }
    sealing := { active := none, expired := false, nonce := none }
    tilth :=
      { tick := 0, executed := 0, highWater := 8192, highWaterCopy := 8192, slots := List.replicate 64 Slot.empty, waiting := [],
        clodLow := false, clodShut := false, cache := [], pageIns := [], uses := 0, proposals := [], aborts := [] }
    lf :=
      { channels := List.replicate 8 LfChannel.reset, run := none, commanded := [], scheduled := [],
        calibrating := none, finished := [], hostTick := none, vlfMv := 0 }
    badges :=
      { ws := 0, wake := []
        lastPacket := { type := 0, handle := 0, payload := [], rate := 1, port := 0, power := 0, frame := [] } }
    radio :=
      { raw := none, rawFrom := 0, settling := false, rawStart := 0, rawUntil := 0, rawStop := false, rawPackets := 0,
        synth := { commanded := false, due := none, overdue := false, running := false, lastTry := 0, temp := Config.factoryCalTemp },
        failed := false, gateClosed := false, bg := List.replicate 4 BgState.reset, bgUntil := 0,
        bands := (List.range 16).map Config.factoryBand, iqGain := 0, iqPhase := 0, paOffset := 0, paSetting := 0, air := none,
        lastAir := 0, cxReq := false, cxPri := false, cxMask := .armed, cxMaskedAt := 0, cxHeld := none, cxDrops := [], chainOk := true }
    lock := { released := false, changeTick := 0, cause := 0, credential := 0 }
    latch := { on := false, hold := false, since := 0 }
    vehicle :=
      { feedbackA := FeedbackLand.reset false, feedbackB := FeedbackLand.reset true, settleFrom := 0,
        panel := { open_ := false, mask := .armed, maskedAt := 0, since := 0, opens := [] },
        exid := 1, out1 := [], out2 := [], releasePort := none, hvilDue := false }
    inv := { walk := none, bindings := [], results := [], candidates := none, checkResult := 0, checkFrom := 0 }
    kaolin :=
      { files := filesDelivery, field := none, signing := false, power := 0, reservoir := 0, pinTries := 5,
        failures := List.replicate 16 0, carry := some (bytesOf Config.carryByte 48), carryCount := 0, carryFrom := 0,
        hostWrite := none, log := [], fresh := 0, statusFrom := 0, response := ([], 0) }
    cipher :=
      { failed := false, testing := false, cycled := false, lock := none, lockFrom := 0, contexts := [], registers := [],
        opens := [], unmasked := false, compareFails := [],
        roots := [(0, bytesOf (Config.rootByte 0) 32), (1, bytesOf (Config.rootByte 1) 32),
          (3, bytesOf (Config.rootByte 3) 32), (15, bytesOf (Config.rootByte 15) 32)],
        registerWaits := [] }
    sig :=
      { failed := false, testing := false, cycled := false, compareFails := [], certified := true,
        chain := bytesOf Config.chainByte 422, uidSigV := bytesOf Config.uidSigVByte 114, identity := true,
        banks :=
          [{ state := .active, imageId := bytesOf Config.factoryImageIdByte 16, release := Config.factoryRelease, svn := 0,
             digest := bytesOf Config.factoryDigestByte 64, length := 0, header := [] },
           { state := .empty, imageId := [], release := 0, svn := 0, digest := [], length := 0, header := [] }],
        activeBank := 0, svn := 0, installing := none, activating := false, recovery := false }
    rng :=
      { source := .off, instances := List.replicate 16 Generator.reset, failures := 0, lastRestartEnd := 0, pool := 0, conditioned := 0,
        testing := false, recovering := false, onFrom := 0 }
    net :=
      { portV := CanPort.reset, portP := CanPort.reset, server1 := UsdoServer.reset, server2 := UsdoServer.reset,
        partners := List.replicate 32 none, tableFullAt := none, syncCounts := [], inhibit := [], outstanding := 0 }
    bridge :=
      { link := .down, training := false, lanes := 0, failedTrainings := 0, lastTraining := 0, reads := [], writes := [], roomWaits := [],
        timeouts := [], naks := [], lastPacket := [], aux := none, committedSeq := 0, streamOn := false, landed := [], line := none }
    ledger :=
      { sample := none, hvil := .unknown, insulation := .unknown, freeRunSeen := false, snapshot := none, charge := 0,
        discharge := 0, remainder := 0, credit := 0, state := .exhausted, graceEnergy := 0, graceTime := 0,
        graceTicks := 0, graceSaved := 0, serial := 0, held := 0, records := [], nextSeq := 1, ackSeq := 0, journalState := 0,
        receiptFrom := 0, latestReceipt := [], importing := none, importSeq := 0, zeroing := none, foldFrom := 0, configFrom := none,
        quiet := 0 }
    power :=
      { domains := Domain.all.map fun d => (d, DomainCell.reset (if d = .aon then .on else .off)), group := none,
        sources := List.replicate 10 { mask := .armed, maskedAt := 0, events := [] }, rtc := 0, rtcValid := false,
        rtcLeft := 0, alarmFired := false,
        electrodes := List.replicate 4 { baseline := 0, touched := false, run := 0, reacquire := 0, fresh := false },
        wakeTouch := none, thermal := 0, thermalHigh := false, guard := false, die := 0 }
    platform :=
      { boot := .resetting .cold 0, starts := 0, aonRecords := [], attempts := 0, reexecuted := [], glitches := [],
        fallbackClock := false }
    hardpan :=
      { causes := 0, set := false, tick := 0, shield := false, clock := false, temperature := false, badItems := [] }
    logs := { events := [], nextEvent := 0, faults := [], nextFault := 1 }
    dict := []
    credentials := [] }

/-- The machine right after reset: every earlier view is what it holds, and no command waits. -/
def State.reset : State :=
  { life := Visible.reset.life, sealing := Visible.reset.sealing, tilth := Visible.reset.tilth, lf := Visible.reset.lf,
    badges := Visible.reset.badges, radio := Visible.reset.radio, lock := Visible.reset.lock, latch := Visible.reset.latch,
    vehicle := Visible.reset.vehicle, inv := Visible.reset.inv, kaolin := Visible.reset.kaolin, cipher := Visible.reset.cipher,
    sig := Visible.reset.sig, rng := Visible.reset.rng, net := Visible.reset.net, bridge := Visible.reset.bridge,
    ledger := Visible.reset.ledger, power := Visible.reset.power, platform := Visible.reset.platform,
    hardpan := Visible.reset.hardpan, logs := Visible.reset.logs, dict := Visible.reset.dict,
    credentials := Visible.reset.credentials, hist1 := Visible.reset, hist2 := Visible.reset, free := 0, pending := [] }

end Sys2Proof.Machine
end

