-- ==== Sys2Proof/Machine/Operands.lean ====
section
/-! DEFINITION. Byte strings and their numbers, the sorted association lists the state is made of, and the operand forms of
a dictionary access: which entry a key names, how long a value must be, and which values lie in its range. -/

namespace Sys2Proof.Machine

/-! ## Bytes and numbers (R6, R449) -/

/-- The n bytes of a number, least significant first (R6). -/
def leBytes : Nat → Nat → Bytes
  | 0, _ => []
  | n + 1, v => BitVec.ofNat 8 v :: leBytes n (v / 256)

/-- The number that bytes spell, least significant first (R6). -/
def leNat : Bytes → Nat
  | [] => 0
  | b :: bs => b.toNat + 256 * leNat bs

/-- The n bytes of a number, most significant first (R241, R271). -/
def beBytes (n v : Nat) : Bytes := (leBytes n v).reverse

/-- The number that bytes spell, most significant first (R241). -/
def beNat (b : Bytes) : Nat := leNat b.reverse

/-- Two's complement of a byte string (R449). -/
def leInt (b : Bytes) : Int :=
  if 2 * leNat b < 256 ^ b.length then (leNat b : Int) else (leNat b : Int) - ((256 ^ b.length : Nat) : Int)

/-- The n bytes of a two's complement number (R449). -/
def intBytes (n : Nat) (v : Int) : Bytes := leBytes n (v % ((256 ^ n : Nat) : Int)).toNat

/-- `len` bytes from an offset. -/
def slice (b : Bytes) (off len : Nat) : Bytes := (b.drop off).take len

/-- A little-endian field of a layout (R6). -/
def field (b : Bytes) (off len : Nat) : Nat := leNat (slice b off len)

/-- A byte of a layout as a number. -/
def byteAt (b : Bytes) (off : Nat) : Nat := field b off 1

/-- The two bytes of a result or event code (R8). -/
def codeBytes (c : Code) : Bytes := leBytes 2 c.toNat

/-- n zero bytes. -/
def zeros (n : Nat) : Bytes := List.replicate n 0

/-- Every byte is zero. -/
def allZero (b : Bytes) : Bool := b.all (· == 0)

/-- Fill or cut to a length with zero bytes. -/
def padTo (n : Nat) (b : Bytes) : Bytes := b.take n ++ zeros (n - b.length)

/-- The ASCII bytes of a name (labels and contexts, R272, R304). -/
def ascii (t : String) : Bytes := t.toList.map fun c => BitVec.ofNat 8 c.toNat

/-- A number added without passing a bound: a counter that saturates, where its rule says so. -/
def satAdd (bound a b : Nat) : Nat := if a + b ≤ bound then a + b else bound

/-- Bit n of a number. -/
def bit (v n : Nat) : Bool := v.testBit n

/-- A number with one bit set where a condition holds. -/
def flag (c : Bool) (n : Nat) : Nat := if c then 2 ^ n else 0

/-! ## Sorted association lists -/

/-- The value at a key. -/
def lookup {α : Type} (k : Nat) : List (Nat × α) → Option α
  | [] => none
  | (k', v) :: l => if k' = k then some v else lookup k l

/-- The list without a key. -/
def erase {α : Type} (k : Nat) (l : List (Nat × α)) : List (Nat × α) := l.filter fun e => e.1 != k

/-- The list with a key at a value, keys rising. -/
def insert {α : Type} (k : Nat) (v : α) : List (Nat × α) → List (Nat × α)
  | [] => [(k, v)]
  | (k', v') :: l => if k < k' then (k, v) :: (k', v') :: l else if k = k' then (k, v) :: l else (k', v') :: insert k v l

/-- Keys rise strictly: the canonical form of the model's stores. -/
def keysRise {α : Type} (l : List (Nat × α)) : Prop := l.Pairwise fun a b => a.1 < b.1

/-! ## Entries (R447 to R449, R453, R454, R459) -/

/-- The key of an entry: index × 256 + sub-index; a sub-index is one byte (log entry 24). -/
def entryKey (idx sub : Nat) : Nat := idx * 256 + sub % 256

/-- The sub-indices of a PDO communication record that CiA 1301 lays out (R453; log entry 8), for a TPDO or an RPDO. -/
def pdoCommRow (key sub : Nat) : Option EntryRow :=
  match sub with
  | 1 => some ⟨key, key, .uint, .rw, 4, 4, .num 0x80000000, 0, 0xFFFFFFFF, true⟩
  | 2 => some ⟨key, key, .uint, .rw, 1, 1, .num 0xFF, 0, 255, true⟩
  | 3 => some ⟨key, key, .uint, .rw, 2, 2, .zeros, 0, 65535, true⟩
  | 5 => some ⟨key, key, .uint, .rw, 2, 2, .zeros, 0, 65535, true⟩
  | 6 => if 0x180000 ≤ key then some ⟨key, key, .uint, .rw, 1, 1, .zeros, 0, 240, true⟩ else none
  | _ => none

/-- The sub-indices of a PDO mapping record (R347, R453). -/
def pdoMapRow (key sub : Nat) : Option EntryRow :=
  if sub = 0 then some ⟨key, key, .uint, .rw, 1, 1, .zeros, 0, 255, true⟩
  else if sub ≤ 16 then some ⟨key, key, .uint, .rw, 4, 4, .zeros, 0, 0xFFFFFFFF, true⟩ else none

/-- The rows that stand for whole ranges: PDO records, credential records, journal positions (R453, R454, R459). -/
def rangeRow (idx sub : Nat) : Option EntryRow :=
  let key := entryKey idx sub
  if 0x1400 ≤ idx ∧ idx ≤ 0x140F ∨ 0x1800 ≤ idx ∧ idx ≤ 0x180F then pdoCommRow key sub
  else if 0x1600 ≤ idx ∧ idx ≤ 0x160F ∨ 0x1A00 ≤ idx ∧ idx ≤ 0x1A0F then pdoMapRow key sub
  else if 0x3000 ≤ idx ∧ idx ≤ 0x301F ∧ 1 ≤ sub ∧ sub ≤ 128 then
    some ⟨key, key, .octets, .sw, 128, 128, .zeros, 0, 0, true⟩
  else if 0x3400 ≤ idx ∧ idx ≤ 0x34FF ∧ 1 ≤ sub ∧ sub ≤ 128 then
    some ⟨key, key, .octets, .ro, 64, 64, .zeros, 0, 0, false⟩
  else none

/-- The row of an entry (R447, R448). -/
def entryRow? (idx sub : Nat) : Option EntryRow :=
  match rangeRow idx sub with
  | some r => some r
  | none => entryTable.find? fun r => r.first ≤ entryKey idx sub && entryKey idx sub ≤ r.last

/-- Some chapter defines an entry at this index (R448). -/
def indexKnown (idx : Nat) : Bool :=
  (rangeRow idx 1).isSome || entryTable.any fun r => r.first / 256 ≤ idx && idx ≤ r.last / 256

/-- An index whose entries lie at sub-indices 1 and above answers sub-index 0 with a count that is never written (R448). -/
def isCountEntry (idx sub : Nat) : Bool := sub == 0 && indexKnown idx && (entryRow? idx 0).isNone

/-- What a row's entry holds at its default. -/
def EntryRow.defaultBytes (r : EntryRow) : Bytes :=
  match r.default with
  | .num n => leBytes r.minLen n
  | .zeros => zeros r.minLen
  | .empty => []
  | .bytes b => b

/-- What an entry holds at its default; nothing for an entry that does not exist. -/
def defaultAt (key : Nat) : Bytes :=
  match entryRow? (key / 256) (key % 256) with
  | some r => r.defaultBytes
  | none => []

/-- The length fits the type (R449, R450 step 3). A DOMAIN's range is a range of lengths; 0x2610:01 takes 20, 28 or 126 bytes (R210; log
entry 18). -/
def EntryRow.lengthFits (r : EntryRow) (value : Bytes) : Bool :=
  r.minLen ≤ value.length && value.length ≤ r.maxLen
    && (r.first != 0x261001 || value.length == 20 || value.length == 28 || value.length == 126)

/-- The 32 bits of a word from bit 0 to bit 31, in on-air order (R99). -/
def onAirBits (w : Nat) : List Bool := (List.range 32).map (bit w)

/-- The longest run of equal bits in a list (R99): the run so far, the longest so far. -/
def longestRun : Bool → Nat → Nat → List Bool → Nat
  | _, run, best, [] => max run best
  | b, run, best, c :: cs => if c = b then longestRun b (run + 1) best cs else longestRun c 1 (max run best) cs

/-- How many adjacent pairs of a bit list differ (R99). -/
def changes : List Bool → Nat
  | a :: b :: l => (if a = b then 0 else 1) + changes (b :: l)
  | _ => 0

/-- The two conditions a sync word meets (R99). -/
def syncWordOk (w : Nat) : Bool := longestRun false 0 0 (onAirBits w) ≤ 6 && 12 ≤ changes (onAirBits w)

/-- Ranges the tables state in words beside the bounds (R99, R338, R342, R349, R453). -/
def rangeRule (key n : Nat) : Bool :=
  match key with
  | 0x220001 => n % 5 == 0
  | 0x100500 => !bit n 30
  | 0x101700 => n == 0 || 20 ≤ n
  | 0x101900 => n != 1
  | 0x1F8000 => n == 0 || n == 4
  | 0x2B0001 => n == 0xFF || (1 ≤ n && n ≤ 127)
  | 0x2B0002 => n == 0xFF || (1 ≤ n && n ≤ 127)
  | 0x271101 => n == 0 || 60 ≤ n
  | 0x230302 => syncWordOk n
  | 0x2B0400 => n != 0
  | 0x230401 => n != 0 && n < 2 ^ 40
  | _ => (!(0x221201 ≤ key && key ≤ 0x221204)) || (n / 16 ≤ 7 && n % 16 ≤ 7)

/-- The value lies in the entry's range (R449, R450 step 4). -/
def EntryRow.inRange (r : EntryRow) (key : Nat) (value : Bytes) : Bool :=
  match r.type with
  | .bool => leNat value ≤ 1
  | .uint => r.lo ≤ (leNat value : Int) && (leNat value : Int) ≤ r.hi && rangeRule key (leNat value)
  | .int => r.lo ≤ leInt value && leInt value ≤ r.hi
  | .vstring => value.all fun c => 0x20 ≤ c.toNat && c.toNat ≤ 0x7E
  | .octets => true
  | .domain => true

/-- A write of this class is possible at all (R450 step 2). -/
def Access.writable : Access → Bool
  | .rw | .wo | .sw => true
  | .ro | .const => false

end Sys2Proof.Machine
end

