-- ==== Sys2Proof/Machine/Crypto.lean ====
section
/-! DEFINITION. The cryptographic layouts: what is hashed, derived, sealed and signed, byte for byte (R26, R98, R99, R106,
R185, R188, R251, R265, R271, R272), over the opaque functions of `Config` (log entry 3). -/

namespace Sys2Proof.Machine

/-- The first n bytes of SHAKE256 over a message (R303). -/
def shake (msg : Bytes) (n : Nat) : Bytes := bytesOf (Config.shakeByte msg) n

/-- AES-CMAC of a message, 16 bytes (R265). -/
def cmac (key msg : Bytes) : Bytes := bytesOf (Config.cmacByte key msg) 16

/-- One AES block (R265). -/
def aesBlock (key block : Bytes) : Bytes := bytesOf (Config.aesByte key block) 16

/-- Bytes XORed one by one. -/
def xorBytes (a b : Bytes) : Bytes := List.zipWith (· ^^^ ·) a b

/-- GCM's key stream applied to text: encryption and decryption alike (R265). -/
def gcmCrypt (key iv text : Bytes) : Bytes := xorBytes text (bytesOf (Config.gcmStreamByte key iv) text.length)

/-- The 16-byte GCM tag over AAD and ciphertext (R265). -/
def gcmTag (key iv aad cipher : Bytes) : Bytes := bytesOf (Config.gcmTagByte key iv aad cipher) 16

/-- A seal: ciphertext followed by the tag (R265). -/
def gcmSeal (key iv aad plain : Bytes) : Bytes :=
  gcmCrypt key iv plain ++ gcmTag key iv aad (gcmCrypt key iv plain)

/-- An open of ciphertext followed by a 16-byte tag: the plaintext, or none where the tag fails (R265, R289). -/
def gcmOpen (key iv aad sealed : Bytes) : Option Bytes :=
  let cipher := sealed.take (sealed.length - 16)
  if 16 ≤ sealed.length ∧ sealed.drop (sealed.length - 16) = gcmTag key iv aad cipher then some (gcmCrypt key iv cipher)
  else none

/-- The KDF input of R271. -/
def kdfInput (i : Nat) (label context : Bytes) (bits : Nat) : Bytes :=
  beBytes 4 i ++ label ++ [0] ++ context ++ beBytes 4 bits

/-- The KDF of R271, for 32, 128 or 256 bits. -/
def kdf (parent label context : Bytes) (bits : Nat) : Bytes :=
  (cmac parent (kdfInput 1 label context bits) ++
    (if bits ≤ 128 then [] else cmac parent (kdfInput 2 label context bits))).take (bits / 8)

/-- The label of R272, as ASCII. -/
def labelText : Label → Bytes
  | .mramKey => ascii "BLS9640-MRAMKEY"
  | .wrap => ascii "BLS9640-WRAP"
  | .fwImg => ascii "BLS9640-FWIMG"
  | .jImport => ascii "BLS9640-JIMPORT"
  | .fleet => ascii "BLS9640-FLEET"
  | .badge => ascii "BLS9640-BADGE"
  | .badge7100 => ascii "BLS7100-BADGE"
  | .sync => ascii "BLS9640-SYNC"
  | .round => ascii "BLS9640-ROUND"
  | .sess => ascii "BLS9640-SESS"
  | .tone => ascii "BLS9640-TONE"
  | .vehicle => ascii "BLS9640-VEHICLE"
  | .vex => ascii "BLS9640-VEX"
  | .reader => ascii "BLS9640-READER"
  | .ksess => ascii "BLS9640-KSESS"

/-- The output length of R272, in bits. -/
def labelBits : Label → Nat
  | .badge7100 => 128
  | .sync => 32
  | _ => 256

/-- A derivation under its label and length (R271, R272). -/
def derive (label : Label) (parent context : Bytes) : Bytes := kdf parent (labelText label) context (labelBits label)

/-- The device binding: the first 16 bytes of SHAKE256 over the device identity public key (R25). -/
def deviceBinding : Bytes := shake (bytesOf Config.identityKeyByte 57) 16

/-- A signature by the device identity key with a context (R303). -/
def identitySign (context msg : Bytes) : Bytes := bytesOf (Config.identitySignByte context msg) 114

/-- R304 holds for a signature. -/
def sigHolds (key context msg signature : Bytes) : Bool := Config.ed448Valid key context msg signature

/-- The Darith root public key, in silicon (R308). -/
def darithRoot : Bytes := bytesOf Config.darithRootByte 57

/-- The device identity public key at 0x2A01:00 (R312). -/
def identityKey : Bytes := bytesOf Config.identityKeyByte 57

/-- KEY of the device identity certificate of a chain (R309, R310). -/
def chainIdentityKey (chain : Bytes) : Bytes := slice chain 40 57

/-- KEY of the device CA certificate of a chain (R309, R310). -/
def chainCaKey (chain : Bytes) : Bytes := slice chain 250 57

end Sys2Proof.Machine
end

