-- ==== Sys2Proof/Machine/Ops.lean ====
section
/-! DEFINITION. The named operations every chapter shares: dictionary values, random draws, the journal, the event and fault
logs, EMCY, the power domains, the session slots with their clods and pins. -/

namespace Sys2Proof.Machine

/-- What a meaning answers. -/
abbrev Out := Host.Outcome State Fault Refusal

/-! ## Dictionary values (R449, R451) -/

/-- The stored bytes of an entry; its default where it has not been changed. -/
def State.bytes (s : State) (idx sub : Nat) : Bytes :=
  (lookup (entryKey idx sub) s.dict).getD (defaultAt (entryKey idx sub))

/-- A stored unsigned value. -/
def State.num (s : State) (idx sub : Nat) : Nat := leNat (s.bytes idx sub)

/-- A stored signed value. -/
def State.int (s : State) (idx sub : Nat) : Int := leInt (s.bytes idx sub)

/-- A stored Boolean. -/
def State.isTrue (s : State) (idx sub : Nat) : Bool := s.num idx sub != 0

/-- A dictionary with an entry at a value, in canonical form: no entry equal to its default. -/
def dictPut (d : List (Nat × Bytes)) (key : Nat) (value : Bytes) : List (Nat × Bytes) :=
  if value = defaultAt key then erase key d else insert key value d

/-- Store bytes in an entry. -/
def State.put (s : State) (idx sub : Nat) (value : Bytes) : State :=
  { s with dict := dictPut s.dict (entryKey idx sub) value }

/-- Store a number in an entry of its own width. -/
def State.putNum (s : State) (idx sub : Nat) (n : Nat) : State :=
  s.put idx sub (leBytes (defaultAt (entryKey idx sub)).length n)

/-- Store a signed number in an entry of its own width. -/
def State.putInt (s : State) (idx sub : Nat) (n : Int) : State :=
  s.put idx sub (intBytes (defaultAt (entryKey idx sub)).length n)

/-- Store a result code. -/
def State.putCode (s : State) (idx sub : Nat) (c : Code) : State := s.put idx sub (codeBytes c)

/-- The number a counter holds after a rise; past its largest number the manual states nothing (log entry 2). -/
def counterAfter (key len n rise : Nat) : Nat :=
  if n + rise < 256 ^ len then n + rise else Config.counterBeyond key n

/-- Raise a counter (entries whose meaning is a count). -/
def State.count (s : State) (idx sub rise : Nat) : State :=
  s.putNum idx sub (counterAfter (entryKey idx sub) (defaultAt (entryKey idx sub)).length (s.num idx sub) rise)

/-- Raise a counter by one. -/
def State.bump (s : State) (idx sub : Nat) : State := s.count idx sub 1

/-! ## Mode, tick and clock -/

/-- The committed mode (R10). -/
def State.mode (s : State) : Mode := s.life.mode

/-- The tick counter (R34). -/
def State.tick (s : State) : Tick := s.tilth.tick

/-- The clock of deadlines and waiting bounds: executed ticks (R40). -/
def State.now (s : State) : Nat := s.tilth.executed

/-- What the machine holds now, as a view of it. -/
def State.visible (s : State) : Visible :=
  { life := s.life, sealing := s.sealing, tilth := s.tilth, lf := s.lf, badges := s.badges, radio := s.radio,
    lock := s.lock, latch := s.latch, vehicle := s.vehicle, inv := s.inv, kaolin := s.kaolin, cipher := s.cipher,
    sig := s.sig, rng := s.rng, net := s.net, bridge := s.bridge, ledger := s.ledger, power := s.power,
    platform := s.platform, hardpan := s.hardpan, logs := s.logs, dict := s.dict, credentials := s.credentials }

/-- What a session step or a simple read of this tick sees: what the tail of N−2 committed (R36, R39). -/
def State.seen (s : State) : Visible := s.hist2

/-- The machine as a step or a read of this tick sees it (R36, R39). -/
def State.asSeen (s : State) : State :=
  { s with
    life := s.seen.life, sealing := s.seen.sealing, tilth := s.seen.tilth, lf := s.seen.lf, badges := s.seen.badges,
    radio := s.seen.radio, lock := s.seen.lock, latch := s.seen.latch, vehicle := s.seen.vehicle, inv := s.seen.inv,
    kaolin := s.seen.kaolin, cipher := s.seen.cipher, sig := s.seen.sig, rng := s.seen.rng, net := s.seen.net,
    bridge := s.seen.bridge, ledger := s.seen.ledger, power := s.seen.power, platform := s.seen.platform, hardpan := s.seen.hardpan,
    logs := s.seen.logs, dict := s.seen.dict, credentials := s.seen.credentials }

/-- An entry as committed two ticks ago. -/
def State.seenBytes (s : State) (idx sub : Nat) : Bytes :=
  (lookup (entryKey idx sub) s.seen.dict).getD (defaultAt (entryKey idx sub))

/-- An unsigned entry as committed two ticks ago. -/
def State.seenNum (s : State) (idx sub : Nat) : Nat := leNat (s.seenBytes idx sub)

/-- RTC seconds, 0 while invalid (R418, R441; log entry 45). -/
def State.rtcSeconds (s : State) : Nat := if s.power.rtcValid then s.power.rtc / ticksPerSecond else 0

/-- Ticks since an earlier tick of the 48-bit counter (R34). -/
def State.sinceTick (s : State) (t : Tick) : Nat := (s.tick + (tickModulus - t)) % tickModulus

/-- An instant of the 48-bit counter has been reached, for instants less than half its range away (R34). -/
def State.reached (s : State) (t : Tick) : Bool := s.sinceTick t < tickModulus / 2

/-- The instant some ticks after now (R34). -/
def State.tickIn (s : State) (n : Nat) : Tick := (s.tick + n) % tickModulus

/-- H lies 8,192 ahead of the counter, in both copies (R34). -/
def State.pushHighWater (s : State) : State :=
  { s with tilth := { s.tilth with highWater := s.tickIn 8192, highWaterCopy := s.tickIn 8192 } }

/-- The next tick would reach H, beyond which no stamp is committed (R34). -/
def State.atHighWater (s : State) : Bool := s.tickIn 1 == s.tilth.highWater % tickModulus

/-! ## Random draws (log entry 2) -/

/-- n bytes nobody fixes. -/
def State.fresh (s : State) (n : Nat) : Bytes := (List.range n).map fun i => Config.freeByte (s.free + i)

/-- The state after n free values have been used. -/
def State.used (s : State) (n : Nat) : State := { s with free := s.free + n }

/-- A number nobody fixes, below a bound that is not 0. -/
def State.freshBelow (s : State) (bound : Nat) : Nat := Config.freeNat s.free % bound

/-- Instances SK0 to SK3 are 1 to 4, ST0 to ST11 are 5 to 16 (R322). -/
def State.instance? (s : State) (inst : Nat) : Option Generator := s.rng.instances[inst - 1]?

/-- What a request to a generator instance meets (R323 to R326). -/
inductive Draw where
  | ready
  /-- It waits for the instance's first seed, or for the pool to hold 3 blocks. -/
  | wait
  | fails (code : Code)
  deriving DecidableEq, Repr

/-- A stretch instance answers RNG_FAIL from its stretch limit on (R324). -/
def Generator.spent (g : Generator) : Bool := g.exhausted || 2 ^ 20 ≤ g.calls

/-- A request to a strict instance by the source's state (R323, R325, R326); `turn` is the request whose turn has come (log entry 91). -/
def State.strictDraw (s : State) (g : Generator) (turn : Bool) : Draw :=
  match s.rng.source with
  | .latched => .fails Rc.rngFail
  | .restarting => .fails (if g.seeded then Rc.rngFail else Rc.rngNotReady)
  | _ => if g.seeded && 3 ≤ s.rng.pool && (turn || g.queue.isEmpty) then .ready else .wait

/-- A request to a stretch instance (R324 to R326). -/
def State.stretchDraw (s : State) (g : Generator) : Draw :=
  if g.spent then .fails Rc.rngFail
  else if g.seeded then .ready
  else
    match s.rng.source with
    | .restarting | .latched => .fails Rc.rngNotReady
    | _ => .wait

/-- A request to an instance. -/
def State.drawState (s : State) (inst : Nat) (turn : Bool := false) : Draw :=
  match s.instance? inst with
  | none => .fails Rc.denied
  | some g => if inst ≤ 4 then s.strictDraw g turn else s.stretchDraw g

/-- The code with which a request that cannot wait fails; none where the instance delivers at once. -/
def State.drawFails (s : State) (inst : Nat) : Option Code :=
  match s.drawState inst with
  | .ready => none
  | .wait => some Rc.rngNotReady
  | .fails c => some c

/-- A generator instance changed. -/
def State.setInstance (s : State) (inst : Nat) (f : Generator → Generator) : State :=
  { s with rng := { s.rng with instances := s.rng.instances.modify (inst - 1) f } }

/-- An instance counts a call since its last reseed (R324); a strict instance reseeds first, with 3 blocks of the pool (R323; log entry
92). -/
def State.countCall (s : State) (inst : Nat) : State :=
  let t := s.setInstance inst fun g => { g with calls := if inst ≤ 4 then 1 else g.calls + 1 }
  if inst ≤ 4 then { t with rng := { t.rng with pool := t.rng.pool - 3 } } else t

/-! ## The signature engine's counts (R306, R330) -/

/-- Signature and hash operations of SHE, counted (0x2A00:02): signatures, verifications, key checks and digest checks (log entry 134). -/
def State.she (s : State) (n : Nat) : State := s.count 0x2A00 2 n

/-- SHE signs with 64 bits of blinding from ST1, or without them, and counts it, while ST1 cannot deliver (R306; log entry 134). -/
def State.sheSigned (s : State) : State :=
  if (s.drawFails 6).isSome then (s.she 1).bump 0x2A00 4 else (s.she 1).countCall 6

/-! ## Power domains (R403 to R410) -/

/-- A domain's index (R404). -/
def domainIndex : Domain → Nat
  | .aon => 0 | .fld => 1 | .core => 2 | .sec => 3 | .rns => 4 | .lfa => 5 | .rfx => 6 | .hfr => 7 | .canv => 8
  | .canp => 9 | .brg => 10 | .ept => 11

/-- A domain's cell. -/
def State.cell (s : State) (d : Domain) : DomainCell :=
  match s.power.domains.find? fun e => e.1 == d with
  | some e => e.2
  | none => DomainCell.reset .off

/-- A domain's state (R403, R407). -/
def State.domain (s : State) (d : Domain) : DomainState := (s.cell d).state

/-- A domain is on (R403). -/
def State.isOn (s : State) (d : Domain) : Bool := s.domain d == .on

/-- A domain's cell changed. -/
def State.setCell (s : State) (d : Domain) (f : DomainCell → DomainCell) : State :=
  { s with power := { s.power with domains := s.power.domains.map fun e => if e.1 = d then (e.1, f e.2) else e } }

/-- The power domain of a CAN port (R404). -/
def canDomain : Port → Domain
  | .v => .canv
  | .p => .canp

/-- The power domain of an engine (R45); CAN is on where one of its ports is. -/
def engineDomain : Engine → Domain
  | .lf => .lfa | .rf => .rfx | .hf => .hfr | .kt => .fld | .aes => .sec | .sig => .sec | .rng => .rns
  | .can => .canv | .brg => .brg | .nvm => .core | .cpu => .core

/-! ## CAN ports and EMCY (R335, R339, R350) -/

/-- A port's state. -/
def State.port (s : State) : Port → CanPort
  | .v => s.net.portV
  | .p => s.net.portP

/-- A port's state changed. -/
def State.setPort (s : State) (pt : Port) (f : CanPort → CanPort) : State :=
  { s with net :=
      { s.net with
        portV := if pt = .v then f s.net.portV else s.net.portV
        portP := if pt = .p then f s.net.portP else s.net.portP } }

/-- The main die runs its firmware: started, and CORE on (R403, R427); dictionary access works in boot recovery as well (R318). -/
def State.running (s : State) : Bool := s.platform.boot == .running && s.isOn .core

/-- A port is on (R336). -/
def State.portOn (s : State) (pt : Port) : Bool := s.running && s.isOn (canDomain pt)

/-- A port serves USDO in pre-operational and operational, while it is on and not bus-off (R335, R339). -/
def State.portServes (s : State) (pt : Port) : Bool :=
  s.portOn pt && (s.port pt).bus != .busOff && ((s.port pt).nmt == .operational || (s.port pt).nmt == .preOperational)

/-- A message offered to a port's EMCY queue of 16 (R350). -/
def CanPort.offer (p : CanPort) (e : Emcy) : CanPort :=
  { p with emcy := if p.emcy.length < 16 then p.emcy ++ [e] else p.emcy, overflow := p.overflow || 16 ≤ p.emcy.length }

/-- An EMCY message takes the error register of the moment (R350, R444). -/
def State.emcyOf (s : State) (error code : Code) (subject : Nat) : Emcy :=
  { error := error, register := s.num 0x1001 0, code := code, subject := subject, tick := s.tick % 65536 }

/-- The ports that take an EMCY: those selected at 0x2B04:00 that are on or keep their queue in retention (R336, R350). -/
def State.emcyPort (s : State) (pt : Port) : Bool :=
  (s.isOn (canDomain pt) || s.domain (canDomain pt) == .retention) && bit (s.seenNum 0x2B04 0) (match pt with | .v => 0 | .p => 1)

/-! ## The journal ring (R395, R396, R399) -/

/-- F: the free records of the ring (R399). -/
def Ledger.free (l : Ledger) : Nat := 32768 - (l.nextSeq - 1 - l.ackSeq)

/-- The state of R399 for F and the low-space threshold. -/
def journalStateOf (f low : Nat) : Nat := if f < 4 then 3 else if f < 96 then 2 else if f < low then 1 else 0

/-- The journal accepts records: not FULL (R399), and not frozen in RETIRED (R24). -/
def State.journalOpen (s : State) : Bool := 4 ≤ s.ledger.free && s.mode != .retired

/-- PREV of the next record: the first 16 bytes of SHAKE256 over the record before it (R395). -/
def Ledger.prev (l : Ledger) : Bytes :=
  if l.nextSeq = 1 then zeros 16 else shake ((lookup (l.nextSeq - 1) l.records).getD (zeros 64)) 16

/-- The 32-byte header of a record (R395), at SEQ `seq`. -/
def State.recordHeader (s : State) (type flags seq : Nat) : Bytes :=
  leBytes 1 type ++ leBytes 1 flags ++ leBytes 4 seq ++ leBytes 6 s.tick ++ leBytes 4 s.rtcSeconds ++ s.ledger.prev

/-- The ring with one more record of 64 bytes: the oldest of 32,768 gives way (R395, R459). -/
def Ledger.append (l : Ledger) (record : Bytes) : Ledger :=
  { l with records := ((l.nextSeq, record) :: l.records).take 32768, nextSeq := l.nextSeq + 1 }

/-- Append records that are complete, where the journal accepts records. -/
def State.appendRaw (s : State) (record : Bytes) : State :=
  { s with ledger := if s.journalOpen then s.ledger.append record else s.ledger }

/-- Append a record of a type with a 32-byte body (R395, R396). -/
def State.appendRecord (s : State) (type flags : Nat) (body : Bytes) : State :=
  s.appendRaw (s.recordHeader type flags s.ledger.nextSeq ++ padTo 32 body)

/-! ## Event log, fault log, EMCY (R350, R441 to R443) -/

/-- Events that are journalled (R442). -/
def journalled (code : Code) : Bool :=
  code.toNat / 256 == 0x01 || code.toNat / 256 == 0x07 || code.toNat / 256 == 0x14
    || code == Ev.hardpanSet || code == Ev.hardpanReleased || code == Ev.resetReported

/-- The 32 bytes of an event entry (R441). -/
def State.eventEntry (s : State) (code : Code) (subject flags : Nat) (data : Bytes) : Bytes :=
  codeBytes code ++ leBytes 1 subject ++ leBytes 1 flags ++ leBytes 6 s.tick ++ leBytes 4 s.rtcSeconds ++ padTo 18 data

/-- FLAGS of an event entry: bit 2 carried, bit 1 journalled, bit 0 EMCY raised (R441). -/
def State.eventFlags (s : State) (code : Code) (carried emcy : Bool) : Nat :=
  flag carried 2 + flag (journalled code && s.journalOpen) 1 + flag emcy 0

/-- The event log with one more entry: the oldest of 1,024 gives way (R441). -/
def Logs.enter (l : Logs) (entry : Bytes) : Logs :=
  { l with events := ((l.nextEvent, entry) :: l.events).take 1024, nextEvent := l.nextEvent + 1 }

/-- Log an event: the event entry, and the EVENT record where R442 asks for one. -/
def State.logWith (s : State) (code : Code) (subject : Nat) (data : Bytes) (carried emcy : Bool) : State :=
  let entry := s.eventEntry code subject (s.eventFlags code carried emcy) data
  { s with
    logs := s.logs.enter entry
    ledger :=
      if journalled code && s.journalOpen then
        s.ledger.append (s.recordHeader 0x03 0 s.ledger.nextSeq ++ codeBytes code ++ entry.drop 2)
      else s.ledger }

/-- Log an event that raises no EMCY. -/
def State.event (s : State) (code : Code) (subject : Nat) (data : Bytes) : State := s.logWith code subject data false false

/-- Offer an EMCY to chosen ports; what finds its queue full is counted at 0x2B32:05 (R350). -/
def State.offerOn (s : State) (onV onP : Bool) (error code : Code) (subject : Nat) : State :=
  let e := s.emcyOf error code subject
  let lost := (if onV && 16 ≤ s.net.portV.emcy.length then 1 else 0) + (if onP && 16 ≤ s.net.portP.emcy.length then 1 else 0)
  ({ s with net :=
      { s.net with
        portV := if onV then s.net.portV.offer e else s.net.portV
        portP := if onP then s.net.portP.offer e else s.net.portP } }).count 0x2B32 5 lost

/-- An overflow episode begins on a port (R350). -/
def overflowBegins (s t : State) : Bool :=
  (t.net.portV.overflow && !s.net.portV.overflow) || (t.net.portP.overflow && !s.net.portP.overflow)

/-- Queue an EMCY on chosen ports; the first one lost in an episode logs EMCY_OVERFLOW with its own EMCY (R350, R359). -/
def State.raiseOn (s : State) (onV onP : Bool) (error code : Code) (subject : Nat) : State :=
  let t := s.offerOn onV onP error code subject
  if overflowBegins s t then
    (t.logWith Ev.emcyOverflow 0 [] false true).offerOn onV onP 0xFF12 Ev.emcyOverflow 0
  else t

/-- Queue an EMCY on the ports of 0x2B04:00 (R350). -/
def State.raise (s : State) (error code : Code) (subject : Nat) : State :=
  s.raiseOn (s.emcyPort .v) (s.emcyPort .p) error code subject

/-- The manufacturer-specific error code of a chapter's code (R8). -/
def blockError (code : Code) : Code := BitVec.ofNat 16 (0xFF00 + code.toNat / 256)

/-- Log an event and raise the chapter's EMCY (R8, R350). -/
def State.alarm (s : State) (code : Code) (subject : Nat) (data : Bytes) : State :=
  (s.logWith code subject data false true).raise (blockError code) code subject

/-- Log an event and raise an EMCY of its own error code (R335, R345, R348). -/
def State.alarmAs (s : State) (error code : Code) (subject : Nat) (data : Bytes) : State :=
  (s.logWith code subject data false true).raise error code subject

/-- A fault entry (R443). -/
def State.faultEntry (s : State) (cls detector : Nat) (code : Code) (slot engine : Nat) (detail : Bytes) : Bytes :=
  leBytes 1 cls ++ leBytes 1 detector ++ codeBytes code ++ leBytes 6 s.tick ++ leBytes 4 s.rtcSeconds
    ++ leBytes 4 s.platform.starts ++ leBytes 1 slot ++ leBytes 1 engine ++ padTo 12 detail

/-- The fault log, a ring of 64, with one more entry (R443). -/
def Logs.enterFault (l : Logs) (entry : Bytes) : Logs :=
  { l with faults := insert l.nextFault entry l.faults, nextFault := l.nextFault % 64 + 1 }

/-- Enter a fault in the fault log (R443). -/
def State.logFault (s : State) (cls detector : Nat) (code : Code) (slot engine : Nat) (detail : Bytes) : State :=
  { s with logs := s.logs.enterFault (s.faultEntry cls detector code slot engine detail) }

/-! ## Session kinds (R41) -/

/-- The scheduling class of a kind (R41). -/
def SessionKind.cls : SessionKind → Nat
  | .release => 0
  | .approach | .badge => 1
  | .inventory | .passport => 2
  | .receipt | .dictionary | .cipher => 3

/-- The code of a kind (R41). -/
def SessionKind.code : SessionKind → Nat
  | .approach => 1 | .badge => 2 | .release => 3 | .inventory => 4 | .passport => 5 | .receipt => 6 | .dictionary => 7
  | .cipher => 8

/-- The maximum of a kind in flight at once (R41). -/
def SessionKind.limit : SessionKind → Nat
  | .approach => 2 | .badge => 32 | .release => 4 | .inventory => 1 | .passport => 1 | .receipt => 8 | .dictionary => 2
  | .cipher => 16

/-- Initial clods (R41). -/
def SessionKind.initialClods : SessionKind → Nat
  | .approach => 4 | .badge => 2 | .release => 2 | .inventory => 8 | .passport => 4 | .receipt => 2 | .dictionary => 2
  | .cipher => 1

/-- Maximum clods (R41). -/
def SessionKind.maxClods : SessionKind → Nat
  | .approach => 16 | .badge => 8 | .release => 4 | .inventory => 48 | .passport => 16 | .receipt => 4 | .dictionary => 16
  | .cipher => 32

/-- Admission timeout in ticks; the kinds with slots of their own have none (R41). -/
def SessionKind.admission : SessionKind → Option Nat
  | .approach => some 4 | .badge => some 2 | .release => none | .inventory => some 40 | .passport => some 4
  | .receipt => some 400 | .dictionary => none | .cipher => some 400

/-- The code of a slot state (R42). -/
def SlotState.code : SlotState → Nat
  | .free => 0 | .admitted => 1 | .ready => 2 | .running => 3 | .carried => 4 | .waitingEngine => 5 | .waitingEvent => 6
  | .waitingResource => 7 | .closing => 8 | .aborting => 9

/-! ## Slots and clods (R41, R42, R52 to R55) -/

/-- The slot of a number 1 to 64. -/
def State.slot (s : State) (n : Nat) : Slot :=
  if n = 0 then Slot.empty else (s.tilth.slots[n - 1]?).getD Slot.empty

/-- A slot changed. -/
def State.setSlot (s : State) (n : Nat) (f : Slot → Slot) : State :=
  { s with tilth := { s.tilth with slots := if n = 0 then s.tilth.slots else s.tilth.slots.modify (n - 1) f } }

/-- The session of a slot is in flight: admitted and not yet ended (R41, R44). -/
def Slot.inFlight (sl : Slot) : Bool := sl.state != .free && sl.state != .closing

/-- A session in flight that no abort is ending (R42, R62). -/
def Slot.acts (sl : Slot) : Bool := sl.inFlight && sl.state != .aborting

/-- The approach a slot runs. -/
def Slot.approach? (sl : Slot) : Option Approach :=
  match sl.work with
  | .approach a => some a
  | _ => none

/-- The badge session a slot runs. -/
def Slot.badge? (sl : Slot) : Option Badge :=
  match sl.work with
  | .badge b => some b
  | _ => none

/-- The exchange a slot runs. -/
def Slot.exchange? (sl : Slot) : Option Exchange :=
  match sl.work with
  | .release x => some x
  | _ => none

/-- The slots with their numbers. -/
def Tilth.numbered (t : Tilth) : List (Nat × Slot) := t.slots.zipIdx.map fun e => (e.2 + 1, e.1)

/-- The numbers of the slots that satisfy a condition. -/
def Tilth.find (t : Tilth) (p : Slot → Bool) : List Nat := (t.numbered.filter fun e => p e.2).map (·.1)

/-- The slots of a kind in flight. -/
def State.ofKind (s : State) (k : SessionKind) : List Nat := s.tilth.find fun sl => sl.kind == some k && sl.inFlight

/-- Clods held by the sessions of a kind. -/
def Tilth.clodsOf (t : Tilth) (k : SessionKind) : Nat :=
  ((t.slots.filter fun sl => sl.kind == some k).map (·.clods)).sum

/-- Clods held by all sessions. -/
def Tilth.clodsHeld (t : Tilth) : Nat := (t.slots.map (·.clods)).sum

/-- F of R54: of the 512 clods, those neither held nor reserved for RELEASE (16) and DICTIONARY (8) (R52). -/
def Tilth.freeClods (t : Tilth) : Nat :=
  512 - (t.clodsHeld - t.clodsOf .release - t.clodsOf .dictionary) - max 16 (t.clodsOf .release) - max 8 (t.clodsOf .dictionary)

/-- Clods a kind can be granted now: the unreserved ones, and the rest of its own reservation (R52, R53). -/
def Tilth.available (t : Tilth) (k : SessionKind) : Nat :=
  t.freeClods + (match k with
    | .release => 16 - t.clodsOf .release
    | .dictionary => 8 - t.clodsOf .dictionary
    | _ => 0)

/-- The slots a kind may take, its reserved ones first (R41). -/
def slotOrder (k : SessionKind) : List Nat :=
  match k with
  | .release => [61, 62, 63, 64] ++ (List.range 58).map (· + 1)
  | .dictionary => [59, 60] ++ (List.range 58).map (· + 1)
  | _ => (List.range 58).map (· + 1)

/-- The slot a request of a kind is given, if one is free (R41, R43). -/
def State.freeSlot (s : State) (k : SessionKind) : Option Nat :=
  (slotOrder k).find? fun n => (s.slot n).state == .free

/-- A session's slot at its admission (R42, R52). -/
def admittedSlot (k : SessionKind) (work : Work) (parent : Option Nat) (now : Nat) : Slot :=
  { Slot.empty with kind := some k, state := .admitted, clods := k.initialClods, parent := parent, readyAt := now,
                    since := now, work := work }

/-- Admit a session into a slot (R42, R52). -/
def State.admitAt (s : State) (n : Nat) (k : SessionKind) (work : Work) (parent : Option Nat) : State :=
  s.setSlot n fun _ => admittedSlot k work parent s.now

/-- A slot at the end of its session: its outcome committed, its clods zeroed and freed, its pins released (R42, R55). -/
def Slot.close (sl : Slot) (result : Code) (now : Nat) : Slot :=
  { sl with state := .closing, carry := 0, clods := 0, result := result, engine := none, named := none, wants := 0,
            pins := [], staleFrom := none, endedAt := now, late := false, deferred := 0, outlives := false, through := none, work := .idle }

/-- A child in flight that ends with its parent (R44): a qualified badge outlives its own to send OUTCOME (R116). -/
def Slot.childOf (sl : Slot) (n : Nat) : Bool := sl.parent == some n && sl.inFlight && !sl.outlives

/-- The slots that end with a session: its own and those of its children (R44). -/
def State.family (s : State) (n : Nat) : List Nat := n :: s.tilth.find fun sl => sl.childOf n

/-- The holds of ended slots on the LF array, the air, the cipher engine and the bridge go with them (R42, R62, R273,
R276); a prefetch line goes with a log entry of its own (R372). -/
def State.releaseHolds (s : State) (ns : List Nat) : State :=
  { s with
    lf := { s.lf with run := s.lf.run.filter fun r => !ns.contains r.slot }
    radio := { s.radio with air := s.radio.air.filter fun a => !ns.contains a.slot }
    cipher :=
      { s.cipher with
        lock := s.cipher.lock.filter fun o => match o with | .slot n => !ns.contains n | _ => true
        contexts := s.cipher.contexts.filter fun c => !ns.contains c.slot
        registers := s.cipher.registers.filter fun r => match r.owner with | .slot n => !ns.contains n | _ => true
        opens := s.cipher.opens.filter fun o => !ns.contains o.slot
        registerWaits := s.cipher.registerWaits.filter fun w => !ns.contains w.1 }
    rng := { s.rng with instances := s.rng.instances.map fun g => { g with queue := g.queue.filter fun n => !ns.contains n } }
    bridge :=
      { s.bridge with
        reads := s.bridge.reads.filter fun r => !ns.contains r.slot
        roomWaits := s.bridge.roomWaits.filter fun w => !ns.contains w.slot } }

/-- The session of slot n ends with a result; its children end with PARENT_ENDED at the same commit (R42, R44). -/
def State.endSession (s : State) (n : Nat) (result : Code) : State :=
  let ns := s.family n
  let t := s.releaseHolds ns
  { t with tilth :=
      { t.tilth with
        slots := t.tilth.slots.zipIdx.map fun e =>
          if e.2 + 1 = n then e.1.close result s.now
          else if e.1.childOf n then e.1.close Rc.parentEnded s.now
          else e.1
        pageIns := t.tilth.pageIns.map fun p => { p with slots := p.slots.filter fun m => !ns.contains m }
        proposals := t.tilth.proposals.filter fun p =>
          match p with
          | .stop m | .service m | .release m => !ns.contains m } }

/-- A session request that waits for admission; at most 16 wait (R43). The answer tells whether it found room (log entry 35). -/
def State.requestSession (s : State) (k : SessionKind) (parent : Option Nat) (work : Work) : State × Bool :=
  ({ s with tilth :=
      { s.tilth with
        waiting :=
          if s.tilth.waiting.length < 16 then
            s.tilth.waiting ++ [{ kind := k, arrival := s.now, parent := parent, work := work }]
          else s.tilth.waiting } },
   s.tilth.waiting.length < 16)

/-- The watermark gate admits a kind (R54): no class 3 session below W, no APPROACH, INVENTORY or PASSPORT below W/2. -/
def Tilth.gateAdmits (t : Tilth) (k : SessionKind) : Bool :=
  match k with
  | .receipt | .cipher | .dictionary => !t.clodLow
  | .approach | .inventory | .passport => !t.clodShut
  | .badge | .release => true

/-- Admit a session of a kind that never waits, RELEASE or DICTIONARY (R41, R43): its slot, or BUSY where a check of R43 fails or
would make it wait (log entries 35 and 140). Both kinds are permitted in every mode (R22); an exchange's OP is checked by R193. -/
def State.admitNow (s : State) (k : SessionKind) (work : Work) : Option (Nat × State) :=
  if (s.ofKind k).length < k.limit ∧ s.tilth.gateAdmits k ∧ k.initialClods ≤ s.tilth.available k then
    (s.freeSlot k).map fun n => (n, s.admitAt n k work none)
  else none

/-! ## The credential store and its cache (R55 to R58, R454) -/

/-- The record at a store index (R454). -/
def State.credential (s : State) (i : Nat) : Bytes := (lookup i s.credentials).getD (zeros 128)

/-- A record whose check value holds (R454, R457). -/
def recordGood (r : Bytes) : Bool := allZero r || slice r 112 16 == shake (r.take 112) 16

/-- A record with its check value computed (R456). -/
def withCheck (r : Bytes) : Bytes := if allZero (r.take 112) then zeros 128 else r.take 112 ++ shake (r.take 112) 16

/-- Store a record: an empty one leaves the store (R454). -/
def State.putCredential (s : State) (i : Nat) (r : Bytes) : State :=
  { s with credentials := if allZero r then erase i s.credentials else insert i r s.credentials }

/-- The store index that holds a CREDID (R458). -/
def findCredential (store : List (Nat × Bytes)) (credId : Nat) : Option Nat :=
  (store.find? fun e => field e.2 0 4 == credId).map (·.1)

/-- A session's change of a credential, written through to the store and to the cached copy (R57). A record that has been zeroised
meanwhile stays empty (R24). -/
def State.writeThrough (s : State) (i : Nat) (r : Bytes) : State :=
  if allZero (s.credential i) then s
  else
    let t := s.putCredential i (withCheck r)
    { t with tilth := { t.tilth with cache := t.tilth.cache.map fun l => if l.index = i then { l with record := withCheck r } else l } }

/-- A layout with a field replaced. -/
def setField (r : Bytes) (off : Nat) (value : Bytes) : Bytes := r.take off ++ value ++ r.drop (off + value.length)

/-! ## What a meaning leaves alone -/

/-- A state with the start lock of another moment: only the lock's own rules write it (R38, R59, R173 to R175). -/
def State.withLock (s : State) (l : Lock) : State := { s with lock := l }

/-- A meaning outside the lock's own commands leaves the start lock as committed (R38, R59, R173, R175); no meaning touches the
queue. -/
def keepLock (s t : State) : Out := .next { t with lock := s.lock, pending := s.pending }

/-- The start lock withheld by a reset (R174, R176): the change cause is start-up. A lock already withheld keeps its record. -/
def Lock.reset (l : Lock) (tick : Tick) : Lock :=
  if l.released then { released := false, changeTick := tick, cause := 0, credential := 0 } else l

/-- A meaning that may reset the main die changes the start lock in no other way (R174). -/
def resetOnly (s t : State) : Out :=
  .next { t with lock := if t.lock.released = s.lock.released then s.lock else s.lock.reset s.tick, pending := s.pending }

end Sys2Proof.Machine
end

