-- ==== Sys2Proof/Machine/Flags.lean ====
section
/-! DEFINITION. The words whose bits the manual computes from other state: enrolment status, lock state, outstanding errors and
the error register, active Hardpan causes, slot status, domain result record, cipher lock register. -/

namespace Sys2Proof.Machine

/-! ## Enrolment (R31) -/

/-- The owner public key is installed. -/
def State.ownerKey (s : State) : Bool := !allZero (s.bytes 0x2021 0)

/-- A root slot holds a value (R267). -/
def State.hasRoot (s : State) (slot : Nat) : Bool := (lookup slot s.cipher.roots).isSome

/-- The key region item behind a root slot (R487). -/
def rootItem (slot : Nat) : Option KeyItem :=
  match slot with
  | 0 => some .deviceRoot
  | 1 => some .transportRoot
  | 2 => some .ownerRoot
  | 3 => some .imageRoot
  | _ => none

/-- Both copies of a root are bad, so that functions that need it fail with HW_FAULT (R436, R487). -/
def State.rootBad (s : State) (slot : Nat) : Bool := (rootItem slot).any fun i => s.hardpan.badItems.contains i

/-- The identity private key is bad (R436, R487). -/
def State.identityBad (s : State) : Bool := s.hardpan.badItems.contains .identityKey

/-- What a function meets that needs a root: ROOT_EMPTY, HW_FAULT, or nothing (R268, R436; log entry 119). -/
def State.rootFails (s : State) (slot : Nat) : Option Code :=
  if !s.hasRoot slot then some Rc.rootEmpty else if s.rootBad slot then some Rc.hwFault else none

/-- A credential record of kind VEHICLE in state active (R31, R454). -/
def activeVehicle (r : Bytes) : Bool := byteAt r 4 == 3 && byteAt r 5 == 0

/-- A site public key is enrolled in a slot 1 to 8 (R31, R207). -/
def State.siteKey (s : State) (n : Nat) : Bytes := s.bytes 0x2660 n

/-- Enrolment status at 0x2003:00 (R31). MODULES: at least one binding, every one confirmed (log entry 11). -/
def State.enrolment (s : State) : Nat :=
  flag s.ownerKey 0 + flag (s.hasRoot 2) 1 + flag (!allZero (s.bytes 0x2D41 0)) 2
    + flag (s.credentials.any fun e => activeVehicle e.2) 3
    + flag (!s.inv.bindings.isEmpty && s.inv.bindings.all (·.confirmed)) 4
    + flag ((List.range 8).any fun i => !allZero (s.siteKey (i + 1))) 5

/-- The enrolment bits of a list are all set. -/
def State.enrolled (s : State) (bits : List Nat) : Bool := bits.all fun b => bit s.enrolment b

/-! ## Lock, latch and panel (R204, R205, R209) -/

/-- SVPANEL counts as open while it is open or masked (R205). -/
def Panel.treatedOpen (p : Panel) : Bool := p.open_ || p.mask != .armed

/-- A feedback land shows its MOSFET on, under the polarity at 0x2641:04 (R15, R179, R181): LKFBA is high and LKFBB is low while its
MOSFET is on, each the other way round where its bit inverts it. -/
def State.feedbackOn (s : State) (land : Land) : Bool :=
  match land with
  | .lkfba => s.vehicle.feedbackA.level != bit (s.num 0x2641 4) 0
  | .lkfbb => s.vehicle.feedbackB.level == bit (s.num 0x2641 4) 1

/-- SVLATCH is energised: the isolation clamp holds it low while CORE is not on (R203). -/
def State.svlatch (s : State) : Bool := s.latch.on && s.isOn .core

/-- The lock condition (R15). -/
def State.lockCondition (s : State) : Bool :=
  !s.lock.released && !s.feedbackOn .lkfba && !s.feedbackOn .lkfbb

/-- A readback mismatch bit is set (R182, R209). -/
def State.mismatch (s : State) : Bool := s.vehicle.feedbackA.mismatch || s.vehicle.feedbackB.mismatch

/-- The lock state at 0x2600:01 (R209). -/
def State.lockState (s : State) : Nat :=
  flag s.lock.released 0 + flag s.lock.released 1 + flag (s.feedbackOn .lkfba) 2 + flag (s.feedbackOn .lkfbb) 3
    + flag s.svlatch 4 + flag s.vehicle.panel.treatedOpen 5 + flag s.vehicle.feedbackA.mismatch 6
    + flag s.vehicle.feedbackB.mismatch 7

/-! ## Hardpan causes (R438) -/

/-- The number of a cause's bit (R438). -/
inductive Cause where
  | lockReadback | panelForced | moduleMismatch | cipherFault | signatureFault | shield | glitch | clock | temperature
  | keyStore | faultRate | ownerRequest
  deriving DecidableEq, Repr

/-- The bit of a cause (R438). -/
def Cause.bit : Cause → Nat
  | .lockReadback => 0 | .panelForced => 1 | .moduleMismatch => 2 | .cipherFault => 3 | .signatureFault => 4 | .shield => 5
  | .glitch => 6 | .clock => 7 | .temperature => 8 | .keyStore => 9 | .faultRate => 10 | .ownerRequest => 11

/-- The causes whose condition holds now (R438). -/
def State.activeConditions (s : State) : Nat :=
  flag s.mismatch 0 + flag s.vehicle.panel.treatedOpen 1 + flag s.cipher.failed 3 + flag s.sig.failed 4
    + flag s.hardpan.shield 5 + flag s.hardpan.clock 7 + flag s.hardpan.temperature 8
    + flag (!s.hardpan.badItems.isEmpty) 9

/-- The set causes that are still active, at 0x2F10:03 (R438). -/
def State.activeCauses (s : State) : Nat := s.hardpan.causes &&& s.activeConditions

/-! ## Outstanding errors (R444) -/

/-- A port that is on is error passive or bus-off. -/
def State.portError (s : State) (pt : Port) : Bool := s.isOn (canDomain pt) && (s.port pt).bus != .active

/-- An LF channel is in a fault state (R94). -/
def ChannelState.isFault : ChannelState → Bool
  | .faultOpen | .faultCal | .faultOvercurrent | .faultDetune => true
  | _ => false

/-- A configured partner is LOST (R344, R444). -/
def lostConfigured (e : Option Partner) : Bool :=
  match e with
  | some p => p.configured.isSome && p.state == .lost
  | none => false

/-- The set of outstanding errors at 0x2F01:00 (R444). -/
def State.outstanding (s : State) : Nat :=
  flag s.hardpan.set 0 + flag (s.rng.source == .latched) 1 + flag s.cipher.failed 2 + flag s.sig.failed 3
    + flag (s.bridge.link != .up && s.isOn .brg && s.isOn .ept) 4 + flag (s.portError .v) 5 + flag (s.portError .p) 6
    + flag (s.net.partners.any lostConfigured) 7 + flag (s.lf.channels.any fun c => c.state.isFault) 8
    + flag s.radio.failed 9 + flag (s.power.domains.any fun e => e.2.state == .fault) 10 + flag s.power.guard 11
    + flag (2 ≤ s.ledger.journalState) 12 + flag (s.ledger.insulation == .low) 13
    + flag (s.ledger.hvil == .opened || s.ledger.hvil == .fault) 14 + flag s.mismatch 15

/-- The error register 0x1001 for a set of outstanding errors (R350, R444; log entry 46). -/
def errorRegister (outstanding : Nat) : Nat :=
  flag (outstanding != 0) 0 + flag (outstanding / 32 % 8 != 0) 4
    + flag (outstanding % 32 != 0 || outstanding / 256 != 0) 7

/-! ## Status words -/

/-- The slot status word at 0x2120 (R66). -/
def Slot.status (sl : Slot) : Nat :=
  match sl.kind with
  | none => 0xFF
  | some k =>
    k.code * 2 ^ 24 + sl.state.code * 2 ^ 20 + k.cls * 2 ^ 18 + sl.carry * 2 ^ 15 + sl.clods * 2 ^ 8 + sl.parent.getD 0xFF

/-- A domain state as 0x2E00 reads it (R422). -/
def DomainState.code : DomainState → Nat
  | .off => 0 | .retention => 1 | .on => 2 | .rising => 3 | .falling => 4 | .fault => 5

/-- The code of a state a domain has reached (R410). -/
def DomainState.reached : DomainState → Nat
  | .retention => 1 | .on => 2 | _ => 0

/-- The state a domain stood in at the last commit: in a transition, the one it began in (R410). -/
def DomainCell.stood (c : DomainCell) : DomainState :=
  match c.state with
  | .rising | .falling => c.prior
  | st => st

/-- The source of a domain request (R410). -/
def RequestSource.code : RequestSource → Nat
  | .host => 0 | .group => 1 | .firstAccess => 2 | .wake => 3

/-- The domain result record at 0x2E03 (R410). -/
def DomainCell.record (c : DomainCell) : Nat :=
  c.result.toNat * 65536 + c.reason * 256 + c.source.code * 16 + c.target * 4 + c.stood.reached

/-- The owner field of the lock register (R275). -/
def ownerCode : Option CipherOwner → Nat
  | none => 0 | some (.slot _) => 1 | some .kaolin => 2 | some .selfTest => 3

/-- The slot an owner names (R275). -/
def ownerSlot : Option CipherOwner → Nat
  | some (.slot n) => n
  | _ => 0

/-- The lock register at 0x2901:00 (R275). SUSPENDING reads 0: a suspension takes no time of its own here. -/
def State.lockRegister (s : State) : Nat :=
  ownerCode s.cipher.lock * 2 ^ 28 + ownerSlot s.cipher.lock * 2 ^ 20 + (2 ^ s.cipher.contexts.length - 1) * 2 ^ 16
    + (match (s.slot (ownerSlot s.cipher.lock)).kind with | some k => k.cls | none => 0) * 2 ^ 14
    + flag s.cipher.unmasked 12
    + (if s.cipher.lock.isSome then min 0xFFF (s.now - s.cipher.lockFrom) else 0)

end Sys2Proof.Machine
end

