-- ==== Sys2Proof/Machine/Modes.lean ====
section
/-! DEFINITION. What several chapters make happen: the device nonce and the end of an envelope, a Kaolin file's commit and the
STATUS file, a receipt's occasion, the credit state, a mode change with its zeroisation, and a Hardpan cause. -/

namespace Sys2Proof.Machine

/-! ## Device nonce and envelopes (R28, R29) -/

/-- A fresh device nonce from SK3, none while no strict instance can deliver (R29, R322; log entry 21). -/
def State.newNonce (s : State) : State :=
  if (s.drawFails 4).isNone then
    (({ s with sealing := { s.sealing with nonce := some (s.fresh 16) } }).used 16).countCall 4
  else { s with sealing := { s.sealing with nonce := none } }

/-- The active envelope ends: its items lapse and a fresh nonce is drawn (R28, R29). -/
def State.endEnvelope (s : State) (expired : Bool) : State :=
  ({ s with sealing := { s.sealing with active := none, expired := if s.sealing.active.isSome then expired else s.sealing.expired } }).newNonce

/-! ## Kaolin files (R242, R243, R258) -/

/-- The content of a file as the field reads it; none where both copies are bad or the file does not exist (R242, R256). -/
def State.file (s : State) (fid : Nat) : Option Bytes := ((s.kaolin.files.find? fun f => f.fid == fid).bind (·.content))

/-- A FID names a file held in MRAM (R242). -/
def State.fileHeld (s : State) (fid : Nat) : Bool := s.kaolin.files.any fun f => f.fid == fid

/-- A file with new content (R254, R258). -/
def State.setFile (s : State) (fid : Nat) (content : Bytes) : State :=
  { s with kaolin :=
      { s.kaolin with files := s.kaolin.files.map fun f => if f.fid = fid then { f with content := some content } else f } }

/-- A host commit flips the active copy and voids a field selection of that file (R258). -/
def State.commitFile (s : State) (fid : Nat) (content : Bytes) : State :=
  let t := s.setFile fid content
  ({ t with kaolin :=
      { t.kaolin with field := t.kaolin.field.map fun (f : FieldSession) => if f.file = some fid then { f with voided := true } else f } }).event
    Ev.fileCommitted 0 (leBytes 2 fid)

/-- Energies in 0.1 kWh from µWh. -/
def tenthKwh (microWh : Nat) : Nat := microWh / 100000000

/-- The STATUS file (R243). -/
def State.statusContent (s : State) : Bytes :=
  leBytes 1 1 ++ leBytes 1 s.mode.code ++ leBytes 2 s.enrolment ++ leBytes 4 (tenthKwh s.ledger.charge)
    ++ leBytes 4 (tenthKwh s.ledger.discharge) ++ leBytes 1 s.inv.bindings.length
    ++ leBytes 1 (s.inv.bindings.filter (·.present)).length ++ leBytes 2 s.inv.checkResult.toNat
    ++ leBytes 4 s.rtcSeconds ++ leBytes 1 (if s.hardpan.set then 1 else 0) ++ zeros 11

/-- The controller rewrites STATUS (R243); in RETIRED the passport files are frozen (R24). -/
def State.rewriteStatus (s : State) : State :=
  if s.mode = .retired then s else s.commitFile 0x0130 s.statusContent

/-! ## Receipts (R22, R397) -/

/-- The REASON bits of R396. -/
inductive Occasion where | periodic | lockChange | token | modeChange | gap | hostRequest | creditState | imported
  deriving DecidableEq, Repr

/-- The bit of an occasion in REASON (R396). -/
def Occasion.bit : Occasion → Nat
  | .periodic => 0 | .lockChange => 1 | .token => 2 | .modeChange => 3 | .gap => 4 | .hostRequest => 5 | .creditState => 6
  | .imported => 7

/-- A mode writes a receipt on an occasion (R22, column Metering and journal). -/
def receiptAllowed (m : Mode) (o : Occasion) : Bool :=
  match m with
  | .factory | .blank | .retired => false
  | .dormant => o == .modeChange || o == .gap || o == .creditState
  | _ => true

/-- REASON with one more occasion. -/
def Work.addReason (w : Work) (o : Occasion) : Work :=
  match w with
  | .receipt r folded => .receipt (r ||| 2 ^ o.bit) folded
  | w => w

/-- A RECEIPT session that is not signed yet. -/
def Slot.unsigned (sl : Slot) : Bool :=
  sl.inFlight && (match sl.work with | .receipt _ _ => true | _ => false)

/-- The newest unsigned RECEIPT session (R397). -/
def State.newestReceipt (s : State) : Option Nat :=
  (s.tilth.find Slot.unsigned).foldl
    (fun best n => match best with
      | none => some n
      | some b => if (s.slot b).since < (s.slot n).since then some n else some b) none

/-- An occasion for a receipt: occasions of one tail share one, with eight sessions in flight it joins the newest unsigned
one, else a RECEIPT session is requested (R397). -/
def State.occasion (s : State) (o : Occasion) : State :=
  if !receiptAllowed s.mode o then s
  else if s.tilth.waiting.any fun r => r.kind == .receipt && r.arrival == s.now then
    { s with tilth := { s.tilth with waiting := s.tilth.waiting.map fun r =>
        if r.kind = .receipt ∧ r.arrival = s.now then { r with work := r.work.addReason o } else r } }
  else if 8 ≤ (s.ofKind .receipt).length then
    match s.newestReceipt with
    | some n => s.setSlot n fun sl => { sl with work := sl.work.addReason o }
    | none => s
  else
    let (t, room) := s.requestSession .receipt none (.receipt (2 ^ o.bit) false)
    if room then t else t.bump 0x2102 3

/-! ## Credit state (R391) -/

/-- The encoding of the credit state (R189, R391). -/
def CreditState.code : CreditState → Nat
  | .positive => 0 | .grace => 1 | .exhausted => 2

/-- The credit state of a credit and a grace clock (R391): EXHAUSTED is left only when C rises above 0. -/
def creditStateOf (l : Ledger) : CreditState :=
  if 0 < l.credit then .positive
  else if l.state ≠ .exhausted ∧ -l.credit < l.graceEnergy ∧ l.graceTicks < l.graceTime * ticksPerSecond then .grace
  else .exhausted

/-- The credit state is set at a commit that changes C or the grace clock; a change is logged and receipted (R391). -/
def State.settleCredit (s : State) : State :=
  let new := creditStateOf s.ledger
  let ticks := if new = .positive then 0 else s.ledger.graceTicks
  let t := { s with ledger :=
      { s.ledger with
        state := new, graceTicks := ticks, graceSaved := if new = s.ledger.state then s.ledger.graceSaved else ticks } }
  if new = s.ledger.state then t
  else (t.event Ev.creditState 0 (leBytes 1 s.ledger.state.code ++ leBytes 1 new.code)).occasion .creditState

/-! ## Zeroisation (R24) -/

/-- A transition zeroises (R14, R24). -/
def zeroises (source target : Mode) : Bool :=
  (source == .factory && target == .blank) || target == .repurpose || target == .retired

/-- The dictionary with an entry zeroised. -/
def State.zeroEntry (s : State) (idx sub : Nat) : State := s.put idx sub (zeros (defaultAt (entryKey idx sub)).length)

/-- What a zeroising transition overwrites (R24, R267). -/
def State.zeroise (s : State) (source target : Mode) : State :=
  let toRetired := target == .retired
  let vehiclesGo := target == .repurpose || toRetired
  let keep := fun (r : Bytes) => !toRetired && !(vehiclesGo && byteAt r 4 == 3)
  let t := { s with
    credentials := s.credentials.filter fun e => keep e.2
    tilth := { s.tilth with cache := s.tilth.cache.filter fun l => keep l.record }
    cipher :=
      { s.cipher with roots := s.cipher.roots.filter fun e =>
          !(source == .factory && e.1 == 14) && !(toRetired && e.1 ≤ 3) }
    sig := { s.sig with identity := s.sig.identity && !toRetired }
    inv :=
      { s.inv with bindings :=
          if target = .repurpose then s.inv.bindings.map fun b => { b with confirmed := false } else s.inv.bindings }
    kaolin := { s.kaolin with carry := if toRetired then some (zeros 48) else s.kaolin.carry }
    ledger :=
      if toRetired then
        { s.ledger with credit := 0, held := 0, graceEnergy := 0, graceTime := 0, graceTicks := 0, graceSaved := 0,
                        state := .exhausted, remainder := 0 }
      else s.ledger }
  if toRetired then
    ((List.range 8).foldl (fun u i => u.zeroEntry 0x2660 (i + 1)) ((t.zeroEntry 0x2021 0).zeroEntry 0x2D41 0)).putNum 0x2022 0 100
  else if zeroises source target then t.putNum 0x2022 0 100 else t

/-! ## Mode changes (R13, R15 to R19, R33) -/

/-- The lifecycle record after a change to a mode (R10, R16). -/
def Lifecycle.enter (l : Lifecycle) (target : Mode) (tick : Tick) : Lifecycle :=
  { l with
    mode := target
    prev := l.mode
    changeTick := tick
    changeCount := counterAfter 0x200203 4 l.changeCount 1
    dormantReturn :=
      if target = .dormant ∧ l.mode ≠ .quarantine then some l.mode
      else if l.mode = .dormant ∧ target ≠ .quarantine then none
      else if l.mode = .quarantine ∧ target ≠ .dormant then none
      else l.dormantReturn
    quarantineReturn :=
      if target = .quarantine then some (if l.mode = .service then .depot else l.mode)
      else if l.mode = .quarantine then none
      else l.quarantineReturn
    pending := none
    quarantineDue := l.quarantineDue && target != .quarantine && target != .retired
    serviceFrom := if target = .service then tick else l.serviceFrom
    periods := if target = .service then 0 else l.periods }

/-- A session that QUARANTINE purges (R15). -/
def purged (sl : Slot) : Bool :=
  sl.inFlight && (sl.kind == some .approach || sl.kind == some .badge || sl.kind == some .release || sl.kind == some .inventory)

/-- A proposal names a slot. -/
def Proposal.slot : Proposal → Nat
  | .stop n | .service n | .release n => n

/-- A session whose proposal this tail still has to decide, or a badge whose verdict it proposes: the verdict stage refuses it, and it
ends by that refusal (R18, R59, R116, R199). -/
def State.undecided (s : State) (n : Nat) : Bool :=
  s.tilth.proposals.any fun p =>
    p.slot == n || ((s.slot n).parent == some p.slot && (s.slot n).badge?.any fun b => b.phase == .qualified)

/-- The secured state of the field is left (R246, R250). -/
def Kaolin.leaveSecured (k : Kaolin) : Kaolin :=
  { k with field := k.field.map fun (f : FieldSession) => { f with secured := .open_, staged := none } }

/-- What QUARANTINE forces on entry: sessions aborted, credential cache evicted, the active envelope voided, secured field state left
(R15, R28, R29, R246). -/
def State.purge (s : State) : State :=
  let t := { s with
    tilth :=
      { s.tilth with
        slots := s.tilth.slots.zipIdx.map fun (e : Slot × Nat) =>
          if purged e.1 && !s.undecided (e.2 + 1) then { e.1 with state := .aborting, endedAt := s.now } else e.1
        cache := []
        pageIns := [] }
    kaolin := s.kaolin.leaveSecured }
  if t.sealing.active.isSome then t.endEnvelope false else t

/-- The latch follows the mode: open in SERVICE, closed on leaving it (R15, R18, R19). -/
def Latch.follow (l : Latch) (source target : Mode) (tick : Tick) : Latch :=
  if target = .service then { on := true, hold := false, since := tick }
  else if source = .service then { on := false, hold := false, since := tick }
  else l

/-- A mode takes effect at a commit (R13, R15): the record, the forced entries of the table Mode transitions, the event, the STATUS file
and the receipt (log entry 23). -/
def State.enterMode (s : State) (target : Mode) : State :=
  let source := s.mode
  let a := (s.zeroise source target)
  let b := { a with life := a.life.enter target s.tick, latch := a.latch.follow source target s.tick }
  let c := if source = .depot ∨ target = .depot then b.putNum 0x2004 1 0 else b
  let d := if target = .service then c.bump 0x2004 4 else c
  let e := if target = .quarantine then d.purge else d
  let data := leBytes 1 source.code ++ leBytes 1 target.code ++ leBytes 6 s.tick
  let f := if target = .quarantine then (e.logWith Ev.modeChanged 0 data false true).raise 0xFF01 Ev.modeChanged 0
    else e.event Ev.modeChanged 0 data
  let g := if source = .quarantine ∧ target ≠ .retired then
      { f with ledger := { f.ledger with credit := f.ledger.credit + f.ledger.held, held := 0 } }.settleCredit
    else f
  (g.rewriteStatus).occasion .modeChange

/-! ## The Hardpan latch (R33, R437) -/

/-- QUARANTINE is entered from this mode when the latch sets (R15). -/
def quarantines (m : Mode) : Bool := m != .factory && m != .retired && m != .quarantine

/-- QUARANTINE is entered; where it holds already the mode stays. -/
def State.toQuarantine (s : State) : State := if quarantines s.mode then s.enterMode .quarantine else s

/-- QUARANTINE at the latch's setting, as far as a pending change has gone, an exit from QUARANTINE included (R33; log entry 23). -/
def State.quarantine (s : State) : State :=
  if s.mode = .factory ∨ s.mode = .retired then s
  else
    match s.life.pending with
    | none => s.toQuarantine
    | some p =>
      if p.firstCopy then { s with life := { s.life with quarantineDue := p.target != .retired } }
      else (({ s with life := { s.life with pending := none } }).putCode 0x2001 2 Rc.aborted).toQuarantine

/-- A Hardpan cause is committed (R437, R438). -/
def State.cause (s : State) (c : Cause) : State :=
  let causes := s.hardpan.causes ||| 2 ^ c.bit
  let data := leBytes 2 (2 ^ c.bit)
  if s.mode = .factory ∨ s.mode = .retired then
    ({ s with hardpan := { s.hardpan with causes := causes } }).event Ev.hardpanSet 0 data
  else if s.hardpan.set then
    ({ s with hardpan := { s.hardpan with causes := causes } }).event Ev.hardpanSet 0 data
  else
    ((({ s with hardpan := { s.hardpan with causes := causes, set := true, tick := s.tick } }).bump 0x2F10 5).alarm
      Ev.hardpanSet 0 data).quarantine

end Sys2Proof.Machine
end

