-- ==== Sys2Proof/Machine/Access.lean ====
section
/-! DEFINITION. A host's write to a dictionary entry: the checks of R450 in order, the envelope's part (R26 to R28, R357), the
record of the result (R356), and the DICTIONARY session that carries it (R353). -/

namespace Sys2Proof.Machine

/-! ## Step 5: the mode (R22, R23) -/

/-- The selectors every mode accepts (R23). -/
def isSelector (idx sub : Nat) : Bool :=
  [0x2F2003, 0x380001, 0x381001, 0x381002, 0x3F0001, 0x282001, 0x2C5001, 0x2C5002].contains (entryKey idx sub)

/-- Entries whose own rule says in which modes it accepts a write (R23: exchanges, attestation, firmware, host window). -/
def ownModeRule (idx sub : Nat) : Bool :=
  [0x261001, 0x261101, 0x2A2001, 0x2A3001, 0x2A3101, 0x2C5003].contains (entryKey idx sub)

/-- Credit tokens are taken in this mode (R22, column Credit tokens). -/
def tokensTaken (m : Mode) : Bool := m != .factory && m != .blank && m != .dormant && m != .retired

/-- Receipts can be requested in this mode (R22: "Yes" in the column Metering and journal). -/
def receiptsFull (m : Mode) : Bool := m != .factory && m != .blank && m != .dormant && m != .retired

/-- R27 admits a signer in this mode. -/
def envelopesTaken (m : Mode) : Bool := m != .retired

/-- A write accepted in every mode the table Writes accepted in every mode names (R23). -/
def alwaysAccepted (m : Mode) (idx sub : Nat) (a : Access) : Bool :=
  isSelector idx sub || ownModeRule idx sub
    || ((idx == 0x2020) && (sub == 1 || sub == 6) && envelopesTaken m)
    || idx == 0x2110 || idx == 0x2111
    || (entryKey idx sub == 0x2A4006 && m != .retired)
    || (entryKey idx sub == 0x2D4001 && tokensTaken m)
    || (entryKey idx sub == 0x2D5100 && receiptsFull m)
    || idx == 0x2E01 || entryKey idx sub == 0x2E0201
    || (a == .rw && ((0x1000 ≤ idx && idx ≤ 0x1FFF) || (0x2B00 ≤ idx && idx ≤ 0x2BFF)))

/-- The column Writes accepted of the table Mode permissions (R22): sealed and unsealed entries. -/
def columnAccepts (m : Mode) (idx sub : Nat) (a : Access) : Bool :=
  match m with
  | .factory => a == .sw
  | .quarantine => a == .sw
  | .dormant => a == .sw || idx == 0x2004 || (0x2E00 ≤ idx && idx ≤ 0x2EFF)
  | .retired => false
  | _ => !(entryKey idx sub == 0x2D4001 && !tokensTaken m) && !(entryKey idx sub == 0x2D5100 && !receiptsFull m)

/-- The mode accepts the write (R22, R23, R450 step 5). -/
def modeAccepts (m : Mode) (idx sub : Nat) (a : Access) : Bool := alwaysAccepted m idx sub a || columnAccepts m idx sub a

/-! ## Step 6: the envelope (R26, R28) -/

/-- An item matches a write: index, sub-index and the digest over the value as transferred (R26), and it is unused. -/
def EnvelopeItem.covers (i : EnvelopeItem) (idx sub : Nat) (value : Bytes) : Bool :=
  !i.used && i.index == idx && i.sub == sub && i.digest == shake value 32

/-- What step 6 answers for an sw entry: none where an unused item of the active envelope matches (R28). -/
def State.envelopeResult (s : State) (idx sub : Nat) (value : Bytes) : Option Code :=
  match s.sealing.active with
  | some e => if e.items.any fun i => i.covers idx sub value then none else some Rc.envelopeScope
  | none => some (if s.sealing.expired then Rc.envelopeExpired else Rc.envelopeScope)

/-- The signer of the active envelope. -/
def State.signer (s : State) : Option Signer := s.sealing.active.map (·.signer)

/-- The items with the first matching one used (R28). -/
def useItem (idx sub : Nat) (value : Bytes) : List EnvelopeItem → List EnvelopeItem
  | [] => []
  | i :: l => if i.covers idx sub value then { i with used := true } :: l else i :: useItem idx sub value l

/-- The matching item is consumed; with its last item the envelope ends (R28). -/
def State.consume (s : State) (idx sub : Nat) (value : Bytes) : State :=
  match s.sealing.active with
  | none => s
  | some e =>
    let items := useItem idx sub value e.items
    if items.all (·.used) then s.endEnvelope false
    else { s with sealing := { s.sealing with active := some { e with items := items } } }

/-! ## Result, abort code and session (R351 to R357) -/

/-- A server. -/
def State.server (s : State) : Srv → UsdoServer
  | .one => s.net.server1
  | .two => s.net.server2

/-- A server changed. -/
def State.setServer (s : State) (v : Srv) (f : UsdoServer → UsdoServer) : State :=
  { s with net :=
      { s.net with
        server1 := if v = .one then f s.net.server1 else s.net.server1
        server2 := if v = .two then f s.net.server2 else s.net.server2 } }

/-- The sub-index of a server's result at 0x2B30. -/
def srvSub : Srv → Nat
  | .one => 1
  | .two => 2

/-- The table Abort codes (R356), for an access to an index; 0 where the access has not failed. -/
def abortCodeOf (code : Code) (idx : Nat) (write : Bool) : Nat :=
  if code = Rc.ok ∨ code = Rc.pending then 0
  else if code = Rc.entryUnknown then (if indexKnown idx then 0x06090011 else 0x06020000)
  else if code = Rc.accessClass then (if write then 0x06010002 else 0x06010001)
  else if code = Rc.lengthMismatch then 0x06070010
  else if code = Rc.valueRange then 0x06090030
  else if code = Rc.transferTimeout then 0x05040000
  else if code = Rc.pdoMappingInvalid then 0x06040041
  else if code = Rc.modeForbids then 0x08000022
  else if code = Rc.aborted then 0x08000000
  else 0x08000020

/-- The access runs as a DICTIONARY session (R353). -/
def needsSession (row : Option EntryRow) : Bool :=
  match row with
  | some r => r.access == .sw || r.type == .domain
  | none => false

/-- The slot and the clods that a session of one access alone has held count towards the peak and the lowest (R65). -/
def State.markOneAccess (s : State) : State :=
  (s.putNum 0x2102 2 (max (s.num 0x2102 2) ((s.tilth.find fun sl => sl.state != .free).length + 1))).putNum 0x2103 3
    (min (s.num 0x2103 3) (512 - s.tilth.clodsHeld - SessionKind.initialClods .dictionary))

/-- A transfer ends: its result recorded, its server free, its DICTIONARY session closed (R351, R353, R356). A session that carried one
access alone leaves its result in the slot it had (log entry 15). -/
def State.endTransfer (s : State) (via : Via) (session : Bool) (code : Code) (abort : Nat) : State :=
  let srv := s.server via.srv
  let t := match srv.slot with
    | some n => s.endSession n code
    | none =>
      if session then
        match s.freeSlot .dictionary with
        | some n => s.markOneAccess.setSlot n fun _ => (admittedSlot .dictionary (.dictionary via.srv) none s.now).close code s.now
        | none => s
      else s
  (t.setServer via.srv fun v => { v with client := none, segmented := false, slot := none, abortCode := abort }).putCode
    0x2B30 (srvSub via.srv) code

/-- Room for the DICTIONARY session of an access: the server's own, or a slot to be had (R41, R353). -/
def State.sessionRoom (s : State) (via : Via) : Bool :=
  (s.server via.srv).slot.isSome || (s.admitNow .dictionary (.dictionary via.srv)).isSome

/-- An access finds no room for its DICTIONARY session: BUSY, counted as an admission refused (R41, R43, R65). -/
def State.noSession (s : State) (via : Via) (idx : Nat) (write : Bool) : State :=
  (s.bump 0x2102 3).endTransfer via false Rc.busy (abortCodeOf Rc.busy idx write)

/-! ## Provisional content that is taken back (R294, R316, R400) -/

/-- The server a DICTIONARY session serves is free again, its result recorded (R353, R356). -/
def State.freeServer (s : State) (v : Srv) (code : Code) : State :=
  (s.setServer v fun u =>
    { u with client := none, segmented := false, slot := none, abortCode := abortCodeOf code 0x2000 true }).putCode
    0x2B30 (srvSub v) code

/-- A session that waits for a bridge read or for a write's room ends: the host window's result, where it serves it (R373). -/
def State.windowEnds (s : State) (m : Nat) (code : Code) : State :=
  if (s.slot m).engine = some .brg then s.putCode 0x2C50 4 code else s

/-- The transfer a server carries ends with a result, and its session with it (R315, R353). -/
def State.dropTransfer (s : State) (v : Srv) (code : Code) : State :=
  match (s.server v).slot with
  | some m => ((s.windowEnds m code).freeServer v code).endSession m code
  | none => s.freeServer v code

/-- The transfer of content that fails ends with its result; a transfer that has ended already keeps its own (R351, R354). -/
def State.dropCarrier (s : State) (v : Srv) (code : Code) : State :=
  if (s.server v).slot.isSome then s.dropTransfer v code else s

/-- A firmware bank zeroed and EMPTY (R294, R316; log entry 87). -/
def Bank.zeroed (b : Bank) : Bank :=
  { b with state := .empty, imageId := [], release := 0, svn := 0, digest := [], length := 0, header := [] }

/-- A firmware installation ends with a failure: its bank zeroed and EMPTY, its transfer aborted (R294, R316). -/
def State.failInstall (s : State) (code : Code) : State :=
  match s.sig.installing with
  | none => s
  | some (b, v) =>
    (({ s with sig := { s.sig with installing := none, banks := s.sig.banks.modify b Bank.zeroed } }).putCode 0x2A30 2 code).dropCarrier
      v code

/-- The ring with n records of zeros, which consume their SEQ numbers (R400). -/
def Ledger.appendZeros (l : Ledger) : Nat → Ledger
  | 0 => l
  | n + 1 => (l.append (zeros 64)).appendZeros n

/-- The body of IMPORT_BEGIN and IMPORT_END (R396). -/
def importBody (i : Import) (result : Code) : Bytes :=
  leBytes 4 i.iseq ++ leBytes 4 i.count ++ i.source ++ codeBytes result ++ zeros 6

/-- A journal import ends with a failure: once begun it leaves records of zeros and an IMPORT_END with the result (R400). -/
def State.failImport (s : State) (code : Code) : State :=
  match s.ledger.importing with
  | none => s
  | some i =>
    let t := { s with ledger := { (if i.begun then s.ledger.appendZeros i.count else s.ledger) with importing := none } }
    let u := if i.begun then t.appendRecord 0x05 0 (importBody i code) else t
    (u.putCode 0x2D60 2 code).dropCarrier i.srv code

/-- The consumer of a provisional open is told of its failure (R294). -/
def State.failConsumer (s : State) (c : Consumer) (code : Code) : State :=
  match c with
  | .firmware => s.failInstall code
  | .journal => s.failImport code

/-- The consumer byte of CIPHER_RETRACT (log entry 13). -/
def consumerCode : Option Consumer → Nat
  | none => 0 | some .firmware => 1 | some .journal => 2

/-- The extent an open has written: all of it, or as much as nobody fixes (R292; log entry 2). -/
def State.extentOf (s : State) (o : GcmOpen) : Nat := if o.complete then o.total else Config.freeNat s.free % (o.total + 1)

/-- One open is taken back: its extent zeroed, RETRACT sent and logged (R294; log entry 87). -/
def State.retract (s : State) (o : GcmOpen) : State :=
  let t := ((s.bump 0x2940 3).event Ev.cipherRetract o.slot
    (leBytes 1 (consumerCode o.provisional) ++ leBytes 4 (s.extentOf o))).used 1
  match o.provisional with
  | none => t
  | some c => t.failConsumer c Rc.authFail

/-- The opens of ended slots are taken back (R294). -/
def State.retractOpens (s : State) (ns : List Nat) : State :=
  (s.cipher.opens.filter fun o => ns.contains o.slot).foldl State.retract s

/-- The consumers whose content a server carries. -/
def State.carries (s : State) (v : Srv) : List Consumer :=
  (if s.sig.installing.any fun x => x.2 == v then [Consumer.firmware] else [])
    ++ (if s.ledger.importing.any fun i => i.srv == v then [Consumer.journal] else [])

/-- The cipher job of a consumer whose transfer has ended goes with it, running or waiting (R316, R354). -/
def State.dropJob (s : State) (code : Code) (c : Consumer) : State :=
  let ms := s.tilth.find fun sl => sl.inFlight && sl.work == .cipher c
  let t := { s with tilth := { s.tilth with waiting := s.tilth.waiting.filter fun r => r.work != Work.cipher c } }
  ms.foldl (fun u m => u.endSession m code) ((t.retractOpens ms).failConsumer c code)

/-- A new access on a server supersedes the transfer it carries (R351; log entry 101). -/
def State.supersede (s : State) (v : Srv) : State :=
  if (s.carries v).isEmpty then s
  else (s.carries v).foldl (fun u c => u.dropJob Rc.aborted c) (s.dropTransfer v Rc.aborted)

/-! ## The checks in order (R450) -/

/-- Steps 1 to 5 of R450: the first failure, if any. In boot recovery only the installation of R315 is accepted (R318; log entry 16). -/
def State.writeRefused (s : State) (idx sub : Nat) (value : Bytes) : Option Code :=
  match entryRow? idx sub with
  | none => some (if isCountEntry idx sub then Rc.accessClass else Rc.entryUnknown)
  | some r =>
    if !r.access.writable then some Rc.accessClass
    else if !r.lengthFits value then some Rc.lengthMismatch
    else if !r.inRange (entryKey idx sub) value then some Rc.valueRange
    else if !modeAccepts s.mode idx sub r.access then some Rc.modeForbids
    else if s.sig.recovery && entryKey idx sub != 0x2A3001 then some Rc.modeForbids
    else none

/-- A write by its entry's own rule (R450 step 7): the state it leaves and the result it answers. -/
abbrev Own := State → State × Code

/-- The entry is of class sw. -/
def isSealed (idx sub : Nat) : Bool := (entryRow? idx sub).any fun r => r.access == .sw

/-- The write's result, and what it leaves: steps 1 to 5, step 6 for class sw, step 7; the item is consumed only where the write is
carried out, answered OK or PENDING (R28, R450; log entry 19). -/
def State.write (s : State) (idx sub : Nat) (value : Bytes) (own : Own) : State × Code :=
  match s.writeRefused idx sub value with
  | some c => (s, c)
  | none =>
    if isSealed idx sub then
      match s.envelopeResult idx sub value with
      | some c => (s.putCode 0x2020 2 c, c)
      | none =>
        let r := own s
        let t := if r.2 = Rc.ok ∨ r.2 = Rc.pending then r.1.consume idx sub value else r.1
        (t.putCode 0x2020 2 r.2, r.2)
    else own s

/-- A host's write over USDO: answered where its port serves USDO; it needs a DICTIONARY session where R353 says so, and
fails with BUSY where none is to be had (R41, R353). -/
def State.hostWrite (s : State) (via : Via) (idx sub : Nat) (value : Bytes) (own : Own) : State :=
  if !s.portServes via.port then s
  else
    let s := s.supersede via.srv
    let session := needsSession (entryRow? idx sub)
    if session && !s.sessionRoom via then s.noSession via idx true
    else
      let r := s.write idx sub value own
      r.1.endTransfer via session r.2 (abortCodeOf r.2 idx true)

/-- A host's read over USDO that has effects of its own: the same carrying (R352, R353; log entry 15). -/
def State.hostRead (s : State) (via : Via) (idx sub : Nat) (own : Own) : State :=
  if !s.portServes via.port then s
  else
    let s := s.supersede via.srv
    let session := needsSession (entryRow? idx sub)
    if session && !s.sessionRoom via then s.noSession via idx false
    else
      let r := own s
      r.1.endTransfer via session r.2 (abortCodeOf r.2 idx false)

/-- Store the value and answer OK: an entry without a rule of its own (R451). -/
def storeValue (idx sub : Nat) (value : Bytes) : Own := fun s => (s.put idx sub value, Rc.ok)

end Sys2Proof.Machine
end

