-- ==== Sys2Proof/Machine/Sessions.lean ====
section
/-! DEFINITION. What a session's step and its end do across chapters: what a step sees, first access to a domain, the thermal
gate, the draws that begin a round, and the end of a session of each kind. -/

namespace Sys2Proof.Machine

/-! ## The clod watermark (R54) -/

/-- F against the watermark: CLOD_LOW with its EMCY below W, CLOD_RECOVERED from W + 16 on; the lowest F is kept (R54, R65). -/
def State.watermark (s : State) : State :=
  let f := s.tilth.freeClods
  let w := s.seenNum 0x2103 2
  let a := s.putNum 0x2103 3 (min (s.num 0x2103 3) (512 - s.tilth.clodsHeld))
  let b := if f < w ∧ !a.tilth.clodLow then ({ a with tilth := { a.tilth with clodLow := true } }).alarm Ev.clodLow 0 [] else a
  let c := if 2 * f < w then { b with tilth := { b.tilth with clodShut := true } } else b
  if w + 16 ≤ f ∧ c.tilth.clodLow then
    ({ c with tilth := { c.tilth with clodLow := false, clodShut := false } }).event Ev.clodRecovered 0 []
  else c

/-! ## First access (R48, R411) -/

/-- The domains a domain depends on, nearest last (R404). -/
def parents : Domain → List Domain
  | .aon | .fld | .core => []
  | .ept => [.core, .brg]
  | _ => [.core]

/-- The result a newer request leaves: BUSY while the domain is going off, SUPERSEDED where it replaces a pending target, else PENDING
(R406; log entry 163). -/
def DomainCell.asked (c : DomainCell) (level : Nat) : Code :=
  if c.state = .falling ∧ c.target = 0 ∧ level = 2 then Rc.busy
  else if c.pending.any (· != level) then Rc.superseded
  else Rc.pending

/-- A transition is in progress (R406, R407). -/
def DomainCell.moving (c : DomainCell) : Bool := c.state == .rising || c.state == .falling

/-- A target set for evaluation from an executed tick on; a transition in progress completes first (R406, R411). -/
def DomainCell.request (c : DomainCell) (level when_ : Nat) (source : RequestSource) : DomainCell :=
  { c with
    pending := some level, pendingFrom := when_, source := source, reason := 0
    target := if c.moving then c.target else level
    result := c.asked level }

/-- The domain is on, or on its way there. -/
def DomainCell.comesOn (c : DomainCell) : Bool := c.state == .on || (c.state == .rising && c.target == 2)

/-- A first access sets a target of on that waits for evaluation, over any lower one (R411). -/
def DomainCell.wake (c : DomainCell) (now : Nat) : DomainCell :=
  if c.comesOn && !(c.pending.any (· < 2)) then c else c.request 2 now .firstAccess

/-- A step or operation asks for a domain that is not on: its parents and it get the target on, and the access is logged with the domain
and the slot (R48, R411; log entries 83 and 113). -/
def State.firstAccess (s : State) (d : Domain) (slot : Nat) : State :=
  if s.isOn d then s
  else
    let t := (parents d ++ [d]).foldl (fun u p => u.setCell p fun c => c.wake s.now) s
    t.event Ev.domainWokenOnAccess slot (leBytes 1 (domainIndex d) ++ leBytes 1 slot)

/-! ## The thermal gate (R419 to R421) -/

/-- Capacity C in units of 25 nJ: 1 mJ is 40,000 of them (R419; log entry 10). -/
def State.thermalCapacity (s : State) : Nat := s.seenNum 0x2E50 1 * 40000

/-- The energy of a power in µW over a time in µs, in units of 25 nJ, rounded up (R420; log entry 10). -/
def energyUnits (microWatt us : Nat) : Nat := (microWatt * us + 24999) / 25000

/-- A gated operation of energy E is refused: at the temperature guard, or where L + E exceeds C (R420, R421). -/
def State.thermalRefuses (s : State) (e : Nat) : Bool := s.power.guard || s.thermalCapacity < s.power.thermal + e

/-- A refusal by the thermal budget manager, logged with the operation's kind and E in µJ (R420). -/
def State.thermalRefused (s : State) (kind slot e : Nat) : State :=
  (s.bump 0x2E51 3).event Ev.thermalRefused slot (leBytes 1 kind ++ leBytes 4 (e / 40))

/-! ## Approaches and badges -/

/-- An approach changed. -/
def State.setApproach (s : State) (n : Nat) (f : Approach → Approach) : State :=
  s.setSlot n fun sl => match sl.work with
    | .approach a => { sl with work := .approach (f a) }
    | _ => sl

/-- A badge session changed. -/
def State.setBadge (s : State) (n : Nat) (f : Badge → Badge) : State :=
  s.setSlot n fun sl => match sl.work with
    | .badge b => { sl with work := .badge (f b) }
    | _ => sl

/-- A slot's session waits for what comes from outside (R42). -/
def State.await (s : State) (n : Nat) : State :=
  s.setSlot n fun sl => { sl with state := .waitingEvent, engine := none, named := none, carry := 0 }

/-- A session's first step needs an engine; the slot is ADMITTED until it is dispatched (R42). -/
def State.firstStep (s : State) (n : Nat) (e : Engine) (named : Option Nat) : State :=
  s.setSlot n fun sl => { sl with state := .admitted, engine := some e, named := named, readyAt := s.now, carry := 0 }

/-- A slot's next step is ready for an engine, with the tick it names (R42, R49). -/
def State.makeReady (s : State) (n : Nat) (e : Engine) (named : Option Nat) : State :=
  s.setSlot n fun sl =>
    { sl with state := .ready, engine := some e, named := named, readyAt := s.now, carry := 0 }

/-- A slot's next step follows from what came from outside the slot: it is visible to dispatch from the second tick on (R36, R37). -/
def State.makeReadyOutside (s : State) (n : Nat) (e : Engine) (named : Option Nat) : State :=
  (s.makeReady n e named).setSlot n fun sl => { sl with readyAt := s.now + 1 }

/-- A session changes a pinned credential: a step on NVM writes the change through, and what waits for it follows (R57). -/
def State.beginThrough (s : State) (n : Nat) (w : Through) : State :=
  (s.makeReady n .nvm none).setSlot n fun sl => { sl with through := some w }

/-- The badge children of an approach still in flight. -/
def State.children (s : State) (n : Nat) : List Nat := s.tilth.find fun sl => sl.childOf n

/-- The owner root (R98, R267). -/
def State.ownerRoot (s : State) : Bytes := (lookup 2 s.cipher.roots).getD []

/-- KF (R98). -/
def State.fleetKey (s : State) : Bytes := derive .fleet s.ownerRoot (leBytes 2 (s.seenNum 0x2300 1))

/-- RK of a round nonce (R98). -/
def State.roundKey (s : State) (rn : Bytes) : Bytes := derive .round s.fleetKey (leBytes 2 (s.seenNum 0x2300 2) ++ rn)

/-- The lowest of the 128 key registers that is not allocated (R273). -/
def Cipher.freeRegister (c : Cipher) : Option Nat :=
  (List.range 128).find? fun r => !(c.registers.any fun k => k.reg == r)

/-- A key takes a register for its owner, and the peak follows (R273, 0x2903:02; log entry 81). -/
def State.allocRegister (s : State) (owner : CipherOwner) (use : KeyUse) (value : Bytes) : State :=
  let regs := match s.cipher.freeRegister with
    | some r => s.cipher.registers ++ [{ reg := r, owner := owner, use := use, value := value, ivs := [] }]
    | none => s.cipher.registers
  let t := { s with cipher := { s.cipher with registers := regs } }
  t.putNum 0x2903 2 (max (t.num 0x2903 2) t.cipher.registers.length)

/-- A derivation to a register, counted (R273, 0x2940:04; log entry 81). -/
def State.deriveKey (s : State) (owner : CipherOwner) (label : Label) (value : Bytes) : State :=
  (s.allocRegister owner (.derived label) value).bump 0x2940 4

/-- GCM operations, counted (0x2940:01; log entry 134). -/
def State.gcm (s : State) (n : Nat) : State := s.count 0x2940 1 n

/-- Granules an open of a length reserves (R289). -/
def granulesOf (len : Nat) : Nat := max 1 ((len + 63) / 64)

/-- Silt granules that are free (R289). -/
def Cipher.siltFree (c : Cipher) : Nat := 128 - (c.opens.map (·.silt)).sum

/-- A GCM open of a length through Silt: counted, and the lowest number of free granules follows (R289, 0x2904:02). -/
def State.gcmOpened (s : State) (len : Nat) : State :=
  (s.gcm 1).putNum 0x2904 2 (min (s.num 0x2904 2) (s.cipher.siltFree - granulesOf len))

/-- An open or a CMAC check ends with AUTH_FAIL (0x2940:02). -/
def State.tagFailed (s : State) : State := s.bump 0x2940 2

/-- The channels of a mask, rising. -/
def maskBits (mask n : Nat) : List Nat := (List.range n).filter (bit mask)

/-- A request that must wait takes its place in the instance's queue of eight, its slot waiting on RNG; RNS is woken on first
access (R48, R323, R326). -/
def State.waitDraw (s : State) (n inst : Nat) : State :=
  ((s.firstAccess .rns n).setInstance inst fun g => { g with queue := g.queue ++ [n] }).setSlot n fun sl =>
    { sl with state := .waitingEngine, engine := some .rng, named := none, carry := 0 }

/-- The queue of an instance has room (R323). -/
def State.drawRoom (s : State) (inst : Nat) : Bool := (s.instance? inst).any fun g => g.queue.length < 8

/-- An engine operation is done: the session's next step is ready (R42, R47). -/
def State.operationDone (s : State) (n : Nat) : State := s.makeReady n ((s.slot n).engine.getD .cpu) none

/-- A round begins: RN, the round channel drawn uniformly from the mask, WS advanced, KF and RK derived (R102, R109). -/
def State.beginRound (s : State) (n : Nat) : State :=
  let rn := s.fresh 16
  let u := (s.used 16).countCall 2
  let chans := maskBits (u.seenNum 0x2304 1) 40
  let ch := (chans[u.freshBelow (max 1 chans.length)]?).getD 0
  let ws := (s.badges.ws + 1) % 16
  let v := if ((s.slot n).approach?.any fun a => a.rounds == 0) then u.deriveKey (.slot n) .fleet s.fleetKey else u
  let u := v.deriveKey (.slot n) .round (s.roundKey rn)
  ((({ (u.used 1) with badges := { s.badges with ws := ws } }).setApproach n fun a =>
      { a with rn := rn, channel := ch, ws := ws, rk := s.roundKey rn, rounds := a.rounds + 1, roundTick := none,
               roundDone := false, answers := 0, handles := [], collided := 0, vectors := .none, order := [],
               legacy := s.seenNum 0x2303 1 != 0, slotCode := s.seenNum 0x2304 2 }).countCall 8).makeReady n .lf none

/-- An approach ends: result, credential, tick and duration at 0x2311, APPROACH_ENDED, and for a credential test CREDENTIAL_TEST_DONE
(R101, R116, R123; log entry 51). -/
def State.reportApproach (s : State) (n : Nat) (a : Approach) (result : Code) : State :=
  let us := s.sinceTick a.touchTick * 25
  let t := (((s.putCode 0x2311 1 result).putNum 0x2311 2 a.lastCredential).putNum 0x2311 3 a.touchTick).putNum 0x2311 4 us
  let u := t.event Ev.approachEnded n (codeBytes result ++ leBytes 4 a.lastCredential ++ leBytes 4 us)
  if a.test then u.event Ev.credentialTestDone n (codeBytes result) else u

/-! ## The LF operation of a session that ends (R62, R93) -/

/-- Every channel changed, by its number. -/
def LfArray.mapChannels (l : LfArray) (f : Nat → LfChannel → LfChannel) : LfArray :=
  { l with channels := l.channels.zipIdx.map fun e => f e.2 e.1 }

/-- The charge of a code for a time, in units of 1/9,000,000 A²·ms: I = 2c/15 A. -/
def lfCharge (code us : Nat) : Nat := 160 * code * code * us

/-- The capacity C in the same units. -/
def State.lfCapacity (s : State) : Nat := s.seenNum 0x2230 1 * 9000000

/-- A level above 80 % of C. -/
def State.lfHigh (s : State) (budget : Nat) : Bool := s.lfCapacity * 4 < budget * 5

/-- The planned charge of a list of drives on one channel. -/
def plannedCharge (drives : List LfDrive) (ch : Nat) : Nat :=
  ((drives.filter fun d => d.ch == ch).map fun d => lfCharge d.target d.onUs).sum

/-- What was driven before an operation was cut short is not among the inputs: a free value up to the plan (log entry 2). -/
def State.drivenUpTo (s : State) (drives : List LfDrive) (ch : Nat) : Nat :=
  Config.freeNat (s.free + ch) % (plannedCharge drives ch + 1)

/-- The planned carrier-on time of a calibration in microseconds: 128 cycles at the nominal carrier (R86, R93). -/
def calOnUs (nominal : Nat) : Nat := 1280000 / max 1 nominal

/-- The charge of a calibration's on-time at 0.2 A (R73, R93). -/
def calCharge (us : Nat) : Nat := 360 * us

/-- A channel loses a charge again. -/
def LfChannel.refund (c : LfChannel) (charge : Nat) : LfChannel := { c with budget := c.budget - charge }

/-- The LF operation of an ended session is damped: its channels are charged with what was driven (R62, R93, R95). -/
def State.dropRun (s : State) (ns : List Nat) : State :=
  match s.lf.run with
  | some r =>
    if ns.contains r.slot then
      let l := s.lf.mapChannels fun i c =>
        let planned := plannedCharge r.drives i + (if r.cals.contains i then calCharge (calOnUs r.nominal) else 0)
        let b := c.budget + s.drivenUpTo r.drives i - planned
        { c with budget := b, high := c.high && s.lfHigh b }
      ({ s with lf := { l with run := none } }).used 8
    else s
  | none => s

/-! ## The end of a session -/

/-- A walk ends without completing: its result and duration, no flags changed, no candidate set (R226, R231). -/
def State.dropWalk (s : State) (n : Nat) (code : Code) : State :=
  match s.inv.walk with
  | none => s
  | some _ =>
    (({ s with inv := { s.inv with walk := none, candidates := none } }).putCode 0x2710 3 code).putNum 0x2710 4
      ((s.now - (s.slot n).since) * 25)

/-- The code of an exchange OP (R186). -/
def exchangeOpCode : ExchangeOp → Nat
  | .release => 1 | .stop => 2 | .status => 3

/-- The last exchange's result, credential and OP (R210). -/
def State.reportExchange (s : State) (cid op : Nat) (code : Code) : State :=
  ((s.putCode 0x2601 1 code).putNum 0x2601 2 cid).putNum 0x2601 3 op

/-- A PASSPORT session of a host's file write ends (R257): 2 KiB more are filled and the next session is requested, or the
write ends with the session's result. -/
def State.reportPassport (s : State) (code : Code) : State :=
  match s.kaolin.hostWrite with
  | none => s
  | some w =>
    if code = Rc.ok then
      ({ s with kaolin := { s.kaolin with hostWrite := some { w with filled := w.filled + 2048 } } }).requestSession .passport none
        .passport |>.1
    else ({ s with kaolin := { s.kaolin with hostWrite := none } }).putCode 0x2820 3 code

/-- What a kind records at its end beside the slot's result. -/
def State.reportEnd (s : State) (n : Nat) (code : Code) : State :=
  match (s.slot n).work with
  | .approach a => s.reportApproach n a code
  | .inventory _ _ => s.dropWalk n code
  | .dictionary v => (s.carries v).foldl (fun u c => u.dropJob code c) ((s.windowEnds n code).freeServer v code)
  | .attestation _ => s.putCode 0x2A20 3 code
  | .cipher c => if code = Rc.ok then s else s.failConsumer c code
  | .passport => s.reportPassport code
  | .release x => s.reportExchange x.cid (exchangeOpCode x.op) code
  | _ => s

/-- The session of slot n ends with a result (R42, R44, R93, R294): its LF operation damped, its kind's record, its opens taken back, the
slot closed. -/
def State.finish (s : State) (n : Nat) (code : Code) : State :=
  if !(s.slot n).inFlight then s
  else ((((s.dropRun (s.family n)).retractOpens (s.family n)).reportEnd n code).endSession n code)

end Sys2Proof.Machine
end

