-- ==== Sys2Proof/Machine/Lf.lean ====
section
/-! DEFINITION. The LF field array: the start and end of an operation, budgets, faults, calibration (chapter 03). -/

namespace Sys2Proof.Machine

/-! ## Channels -/

/-- A channel of the array. -/
def State.channel (s : State) (ch : Nat) : LfChannel := (s.lf.channels[ch]?).getD LfChannel.reset

/-- A channel changed. -/
def State.setChannel (s : State) (ch : Nat) (f : LfChannel → LfChannel) : State :=
  { s with lf := { s.lf with channels := s.lf.channels.modify ch f } }

/-- A channel enters a state; a disabled one keeps it for the time it is enabled again (R94). -/
def LfChannel.become (c : LfChannel) (st : ChannelState) : LfChannel :=
  if c.state = .disabled then { c with saved := st } else { c with state := st }

/-- A transmission may use the channel; an UNCALIBRATED one is calibrated inside the operation first (R87, R94). -/
def ChannelState.usable : ChannelState → Bool
  | .ready | .detuned | .uncalibrated => true
  | _ => false

/-- A channel is usable. -/
def State.usable (s : State) (ch : Nat) : Bool := (s.channel ch).state.usable

/-- A channel as an operation that starts now sees it: without what a host has written in the last two ticks (R95). -/
def State.opChannel (s : State) (ch : Nat) : LfChannel :=
  if s.lf.hostTick.any fun t => s.now ≤ t + 1 then (s.seen.lf.channels[ch]?).getD LfChannel.reset else s.channel ch

/-! ## Budgets (R93; log entry 10) -/

/-- The warnings of channels whose level has passed 80 % of C (R93): logged once per passing. -/
def State.warnBudget (s : State) (ch : Nat) : State :=
  let c := s.channel ch
  let now := s.lfHigh c.budget
  let t := s.setChannel ch fun c => { c with high := now }
  if now && !c.high then t.event Ev.lfBudgetHigh ch [] else t

/-- The warnings of all channels. -/
def State.warnBudgets (s : State) : State := (List.range 8).foldl State.warnBudget s

/-- The energy of a channel's calibration in units of 25 nJ: 15 mW for 1.5 ms (R86, R419, R420). -/
def calEnergy : Nat := energyUnits 15000 1500

/-- The energy of a list of drives in units of 25 nJ: 1.5 W × (I / 2.0 A)² (R419, R420). -/
def drivesEnergy (drives : List LfDrive) : Nat :=
  ((drives.map fun d => 4 * d.target * d.target * d.onUs).sum + 14) / 15

/-! ## The downlink (R74 to R77) -/

/-- A bit in its two halves, carrier on or off (R74). -/
def halfBits (b : Bool) : List Bool := [!b, b]

/-- The bits of a byte, the most significant first (R76). -/
def msbFirst (b : Byte) : List Bool := (List.range 8).map fun i => bit b.toNat (7 - i)

/-- One bit of the CRC-8 with the polynomial 0x2F (R76). -/
def crc8Bit (c : Nat) : Nat := if 128 ≤ c then (2 * c) % 256 ^^^ 0x2F else 2 * c

/-- The CRC-8 of header and payload (R76). -/
def crc8 (bs : Bytes) : Nat :=
  (bs.foldl (fun c b => (List.range 8).foldl (fun d _ => crc8Bit d) (c ^^^ b.toNat)) 0xFF) ^^^ 0xFF

/-- The TYPE of a frame and the LENs it may have (R77). -/
def LfOp.frameType : LfOp → Nat
  | .wake => 1 | .vector => 2 | .command => 3

/-- The LEN is one the controller sends (R77). -/
def LfOp.lenSent (op : LfOp) (len : Nat) : Bool :=
  match op with
  | .wake => 1 ≤ len && len ≤ 8
  | .vector => len == 4
  | .command => 1 ≤ len && len ≤ 15

/-- The bytes of a frame: header, payload and CRC (R76). -/
def LfOp.frame (op : LfOp) (payload : Bytes) : Bytes :=
  let body := leBytes 1 (op.frameType * 16 + payload.length) ++ payload
  body ++ leBytes 1 (crc8 body)

/-- A frame on the coils, half-bit by half-bit: carrier burst, preamble, sync, then the bytes (R74, R76). -/
def onCoils (w : Nat) (bytes : Bytes) : List Bool :=
  List.replicate (2 * w) true ++ [false, true, false, true].flatMap halfBits ++ [false, false, false, true, true, true]
    ++ (bytes.flatMap msbFirst).flatMap halfBits

/-- VECTOR's payload: K, and the coil order as one field with the most significant byte first (R76, R82). -/
def vectorPayload (order : List Nat) : Bytes :=
  let field := (order.zipIdx.map fun e => e.1 * 2 ^ (21 - 3 * e.2)).sum
  leBytes 1 order.length ++ (leBytes 3 field).reverse

/-- Carrier cycles of a frame: 16 in each half-bit (R74). -/
def LfUnit.cycles (u : LfUnit) : Nat :=
  match u.frame with
  | some (w, bytes) => 16 * (onCoils w bytes).length
  | none => 0

/-- The carrier-on time a transmission plans at the nominal carrier, in microseconds (R76, R83, R93; log entry 10). -/
def LfUnit.onUs (u : LfUnit) (nominal : Nat) : Nat :=
  match u.frame with
  | some (w, bytes) => 16 * ((onCoils w bytes).filter (·)).length * 10000 / max 1 nominal
  | none => 750

/-! ## The plan of an operation (R73, R80 to R84) -/

/-- The channels of an electrode's pair (R80). -/
def State.pair (s : State) (electrode : Nat) : List Nat :=
  let p := s.seenNum 0x2212 (electrode + 1)
  if p / 16 % 16 = p % 16 then [p % 16] else [p / 16 % 16, p % 16]

/-- The electrodes whose pairs a wake frame uses, in order: the touched one, in full wake then the others; a pair that
repeats an earlier assignment is skipped (R80; log entry 141). -/
def State.wakeOrder (s : State) (electrode : Nat) : List Nat :=
  if s.seenNum 0x2211 2 = 0 then [electrode]
  else
    (electrode :: (List.range 4).filter (· != electrode)).foldl
      (fun acc e => if acc.any fun a => s.seenNum 0x2212 (a + 1) == s.seenNum 0x2212 (e + 1) then acc else acc ++ [e]) []

/-- A frame on an electrode's pair, under the profile of its kind (R73, R76). -/
def State.frameUnit (s : State) (op : LfOp) (electrode : Nat) (payload : Bytes) : LfUnit :=
  let target := match op with | .command => s.seenNum 0x2208 3 | _ => s.seenNum 0x2208 1
  let w := match op with | .wake => s.seenNum 0x2209 1 | .vector => s.seenNum 0x2209 2 | .command => s.seenNum 0x2209 3
  { chans := s.pair electrode, target := target, frame := some (w, op.frame payload), detuned := [] }

/-- A burst on one channel (R83). -/
def State.burstUnit (s : State) (ch : Nat) : LfUnit :=
  { chans := [ch], target := s.seenNum 0x2208 2, frame := none, detuned := [] }

/-- The transmissions of an operation before any channel drops out; the coil order is drawn later (R80, R82). -/
def State.units (s : State) (op : LfOp) (electrode : Nat) (payload : Bytes) : List LfUnit :=
  match op with
  | .wake => (s.wakeOrder electrode).map fun e => s.frameUnit .wake e payload
  | .command => [s.frameUnit .command electrode payload]
  | .vector => s.frameUnit .vector electrode (zeros 4) :: (maskBits (s.seenNum 0x2211 1) 8).map s.burstUnit

/-- The transmissions that are left where only some channels are usable: the other channel of a pair alone, a pair without any skipped
(R81, R82). -/
def keepChannels (ok : Nat → Bool) (units : List LfUnit) : List LfUnit :=
  (units.map fun u => { u with chans := u.chans.filter ok }).filter fun u => !u.chans.isEmpty

/-- What is left can be transmitted: a pair, and for a vector operation three bursts at least (R81, R84). -/
def transmittable (op : LfOp) (units : List LfUnit) : Bool :=
  match op with
  | .vector => (units.head?.any fun u => u.frame.isSome) && 4 ≤ units.length
  | _ => !units.isEmpty

/-- The drives of a list of transmissions, each at the lower of profile and ceiling (R73). -/
def State.drivesOf (s : State) (nominal : Nat) (units : List LfUnit) : List LfDrive :=
  units.flatMap fun u => u.chans.map fun ch =>
    { ch := ch, target := min u.target (s.channel ch).ceiling, onUs := u.onUs nominal }

/-- An operation as it starts: its settings, its channels, and those to calibrate first (R71, R81, R87, R95). -/
def State.lfPlan (s : State) (n : Nat) (op : LfOp) (electrode : Nat) (payload : Bytes) : LfRun :=
  let units := keepChannels (fun ch => (s.opChannel ch).state.usable) (s.units op electrode payload)
  let nominal := s.seenNum 0x2200 1
  { slot := n, op := op, inPhase := s.seenNum 0x2211 3 != 0, nominal := nominal
    cals := (List.range 8).filter fun ch => units.any (fun u => u.chans.contains ch) && (s.opChannel ch).state == .uncalibrated
    units := units, ended := 0, onset := none, drives := s.drivesOf nominal units }

/-- What a run is charged on a channel at the start, its calibration included (R87, R93). -/
def LfRun.charge (r : LfRun) (ch : Nat) : Nat :=
  plannedCharge r.drives ch + (if r.cals.contains ch then calCharge (calOnUs r.nominal) else 0)

/-- The energy E of an operation, its calibrations included (R87, R420). -/
def LfRun.energy (r : LfRun) : Nat := drivesEnergy r.drives + calEnergy * r.cals.length

/-- A charge would take a channel above C (R93). -/
def State.overBudget (s : State) (r : LfRun) : Bool :=
  (List.range 8).any fun ch => r.charge ch != 0 && s.lfCapacity < (s.channel ch).budget + r.charge ch

/-! ## An operation starts (R78, R82, R87, R92, R93) -/

/-- A permutation drawn by free values (R82; log entry 2): the element each draw selects, in turn. -/
def shuffle (seed : Nat) : Nat → List Nat → List Nat
  | 0, _ => []
  | n + 1, l =>
    let i := Config.freeNat (seed + n) % max 1 l.length
    match l[i]? with
    | some x => x :: shuffle seed n (l.eraseIdx i)
    | none => []

/-- The result of a calibration that no command waits for starts at OK (R87; log entry 49). -/
def State.openCalResult (s : State) : State := if s.num 0x2221 0 = Rc.pending.toNat then s else s.putCode 0x2221 0 Rc.ok

/-- A die temperature too far from the calibration's schedules recalibration of every usable channel (R87; log entry 142). -/
def State.checkLfTemperature (s : State) (tempDeci : Int) : State :=
  if (s.seenNum 0x2223 0 : Int) * 10 < (tempDeci - s.int 0x2222 0).natAbs ∧ s.lf.scheduled.isEmpty then
    ({ s with lf := { s.lf with scheduled := (List.range 8).filter s.usable } }).openCalResult
  else s

/-- The coil order of a vector operation comes from ST2 (R82, R322); with what it fails where that instance does not deliver. -/
def State.orderFails (s : State) (op : LfOp) : Option Code :=
  match op with
  | .vector => s.drawFails 7
  | _ => none

/-- A vector operation's bursts in a drawn order, its frame with the order in it (R82). -/
def LfRun.inOrder (r : LfRun) (order : List Nat) : LfRun :=
  { r with units := (r.units.take 1).map (fun u => { u with frame := u.frame.map fun f => (f.1, LfOp.vector.frame (vectorPayload order)) })
      ++ order.filterMap fun ch => r.units.find? fun u => u.frame.isNone && u.chans == [ch] }

/-- The first carrier of an operation begins in this tick (R78, R83); the coil order of a vector operation is drawn (R82; log entry 2). -/
def State.lfTransmit (s : State) (r : LfRun) : State :=
  match r.op with
  | .vector =>
    let bursts := (r.units.drop 1).flatMap (·.chans)
    let order := shuffle s.free bursts.length bursts
    ((({ s with lf := { s.lf with run := some { r.inOrder order with onset := some s.tick } } }).used 8).setApproach r.slot
      fun a => { a with order := order }).countCall 7
  | _ => { s with lf := { s.lf with run := some { r with onset := some s.tick } } }

/-- The operation is under way: its channels charged, then its calibrations or its first carrier begun (R78, R87, R93). -/
def State.lfUnderWay (s : State) (r : LfRun) : State :=
  let t := ({ s with lf := s.lf.mapChannels fun i c => { c with budget := c.budget + r.charge i } }).warnBudgets
  let u := match r.op with
    | .vector => t.setApproach r.slot fun a => { a with vectors := .running }
    | _ => t
  if r.cals.isEmpty then u.lfTransmit r else { u.openCalResult with lf := { u.openCalResult.lf with run := some r } }

/-- Start an LF operation for a slot, or the result with which it fails (R78, R81, R82, R84, R92, R93, R420, R421). Where several checks
fail the order here decides which code it is (log entry 143). -/
def State.lfStart (s : State) (n : Nat) (op : LfOp) (electrode : Nat) (payload : Bytes) (vlfMv : Nat) (tempDeci : Int) :
    State × Option Code :=
  let t := (s.putNum 0x2240 0 vlfMv).checkLfTemperature tempDeci
  let r := t.lfPlan n op electrode payload
  if vlfMv < 8000 ∨ 32000 < vlfMv then (t, some Rc.lfSupply)
  else if !transmittable op r.units then (t, some Rc.lfNoChannel)
  else if t.overBudget r then (t, some Rc.lfBudget)
  else if t.thermalRefuses r.energy then (t.thermalRefused 1 n r.energy, some Rc.thermalBudget)
  else
    match t.orderFails op with
    | some c => (t, some c)
    | none => (t.lfUnderWay r, none)

/-! ## An operation runs (R78, R80, R83, R88) -/

/-- The transmission on the coils. -/
def LfRun.unit? (r : LfRun) : Option LfUnit := if r.onset.isSome then r.units[r.ended]? else none

/-- The channel is driven in this tick by the operation in progress: the pair of its frame, or its burst's channel (R68). -/
def State.driven (s : State) (ch : Nat) : Bool :=
  s.lf.run.any fun r => (r.unit?.any fun u => u.chans.contains ch) && r.onset.any s.reached

/-- Ticks from the onset to the tick in which so many carrier cycles at a frequency in Hz end (R74, R78). -/
def ticksOfCycles (cycles hz : Nat) : Nat := (5 + cycles * 1000000 / max 1 hz) / 25

/-- The earliest and the latest tick, counted from the onset, in which a transmission ends: a frame's cycles at the upper and the lower
edge of the window, a burst's 750 µs with at most four cycles of damping (R74, R75, R83, R88). -/
def LfRun.span (r : LfRun) (u : LfUnit) : Nat × Nat :=
  match u.frame with
  | some _ => (ticksOfCycles u.cycles (r.nominal * 100 + 2500), ticksOfCycles u.cycles (r.nominal * 100 - 2500) + 1)
  | none => (30, 31)

/-- The next transmission's onset after one that began at an onset ends in a tick: 2 ticks after a frame of a full wake, 4 after the
VECTOR frame, 36 after a burst's onset (R80, R83). -/
def LfRun.nextOnset (r : LfRun) (u : LfUnit) (onset tick : Tick) : Tick :=
  match u.frame, r.op with
  | none, _ => (onset + 36) % tickModulus
  | some _, .vector => (tick + 4) % tickModulus
  | some _, _ => (tick + 2) % tickModulus

/-- A transmission that is not the operation's last ends in this tick (R80, R83). -/
def State.lfAdvance (s : State) (frameEnd : Bool) : State :=
  match s.lf.run with
  | some r =>
    match r.unit?, r.onset with
    | some u, some t0 =>
      let el := s.sinceTick t0
      if r.ended + 1 < r.units.length ∧ s.reached t0 ∧ (r.span u).1 ≤ el ∧ ((frameEnd && u.frame.isSome) ∨ (r.span u).2 ≤ el) then
        { s with lf := { s.lf with run := some { r with ended := r.ended + 1, onset := some (r.nextOnset u t0 s.tick) } } }
      else s
    | _, _ => s
  | none => s

/-- The drive frequency of a channel after one more carrier cycle (R88): held within 2.5 kHz of the nominal, and from the ninth cycle of
a frame or burst on moved by at most 0.1 kHz. -/
def trackCycle (nominal : Nat) (f : Int × Nat) (wanted : Int) : Int × Nat :=
  let step := if f.2 < 8 then wanted else max (-100) (min 100 wanted)
  (max ((nominal : Int) * 100 - 2500) (min ((nominal : Int) * 100 + 2500) (f.1 + step)), f.2 + 1)

/-- The frequency at which a channel settles in a frame or burst (R88): the first carrier-on period starts from the calibrated frequency,
every later one where the one before it settled. -/
def settledHz (nominal calibrated : Nat) (periods : List (List Int)) : Nat :=
  (periods.foldl (fun f cycles => cycles.foldl (trackCycle nominal) f) ((calibrated : Int), 0)).1.toNat

/-- The transmissions that have begun, each with its channels, one after another. -/
def LfRun.begun (r : LfRun) : List (LfUnit × Nat) :=
  if r.onset.isNone then [] else (r.units.take (r.ended + 1)).flatMap fun u => u.chans.map fun ch => (u, ch)

/-- A report of what was driven names each channel of each transmission that has begun, in order (R73, R85). -/
def LfRun.reports (r : LfRun) (driven : List LfMeasure) : Bool := driven.map (·.ch) == r.begun.map (·.2)

/-- The result of each channel's frame or burst (R73, R85). -/
def State.burstsOf (s : State) (r : LfRun) (driven : List LfMeasure) : List LfBurst :=
  (driven.zip r.begun).map fun e =>
    { ch := e.1.ch, code := e.1.code.toNat, hz := settledHz r.nominal (s.num 0x2205 (e.1.ch + 1)) e.1.periods
      detuned := e.2.1.detuned.contains e.1.ch }

/-! ## An operation ends (R73, R83, R85, R93) -/

/-- The charge of what was driven on a channel. -/
def drivenCharge (driven : List LfMeasure) (ch : Nat) : Nat :=
  ((driven.filter fun d => d.ch == ch).map fun d => lfCharge d.code.toNat d.onUs).sum

/-- The budgets of a run's channels corrected from what they were charged to what was driven (R93). -/
def State.correctBudgets (s : State) (r : LfRun) (driven : List LfMeasure) : State :=
  ({ s with lf := s.lf.mapChannels fun i c => { c with budget := c.budget + drivenCharge driven i - r.charge i } }).warnBudgets

/-- Record what a channel did: settled frequency and current, and the count of transmissions (R73, R85, R96). -/
def State.recordBurst (s : State) (b : LfBurst) : State :=
  ((s.putNum 0x2206 (b.ch + 1) b.hz).putNum 0x2207 (b.ch + 1) b.code).bump 0x2242 (b.ch + 1)

/-- What the end of an operation does to the session that started it (R37, R107, R113, R119): a wake's end names the ROUND's
tick M + 8, a failed wake ends the approach, a vector operation's bursts are kept or its failure noted. -/
def State.lfResult (s : State) (slot : Nat) (op : LfOp) (result : Code) (bursts : List LfBurst) : State :=
  if !(s.slot slot).inFlight then s
  else
    match op with
    | .vector =>
      (s.setApproach slot fun a =>
        { a with vectors := if result = Rc.ok then .done bursts s.tick else .failed }).await slot
    | .wake =>
      if result = Rc.ok then
        (s.makeReady slot .rf (some (s.tickIn 8))).setApproach slot fun a => { a with roundTick := some (s.tickIn 8) }
      else s.finish slot result
    | .command => if result = Rc.ok then s.operationDone slot else s.finish slot result

/-- The operation in progress ends (R83, R85, R93). -/
def State.endLfRun (s : State) (r : LfRun) (result : Code) (driven : List LfMeasure) : State :=
  let t := ({ s with lf := { s.lf with run := none } }).correctBudgets r driven
  ((s.burstsOf r driven).foldl State.recordBurst t).lfResult r.slot r.op result (s.burstsOf r driven)

/-- The operation's last transmission ends in this tick (R80, R83). -/
def State.lfEnds (s : State) (r : LfRun) : Bool :=
  match r.unit?, r.onset with
  | some u, some t0 =>
    r.ended + 1 == r.units.length && s.reached t0 && (r.span u).1 ≤ s.sinceTick t0 && s.sinceTick t0 ≤ (r.span u).2
  | _, _ => false

/-- VLF lies outside its running limits (R92). -/
def vlfOutside (vlfMv : Nat) : Bool := vlfMv < 7000 || 34000 < vlfMv

/-- LF_OPERATION_END (R83, R85, R92, R93): with the VLF of its last carrier cycle, which lies within the running limits. -/
def execLfOperationEnd (vlfMv : Nat) (driven : List LfMeasure) (s : State) : Out :=
  keepLock s <|
    match s.lf.run with
    | some r => if s.lfEnds r && r.reports driven && !vlfOutside vlfMv then (s.putNum 0x2240 0 vlfMv).endLfRun r Rc.ok driven else s
    | none => s

/-! ## Detuning (R88 to R90) -/

/-- A channel enters a fault state (R86, R89, R91, R97). -/
def State.faultChannel (s : State) (ch : Nat) (st : ChannelState) : State :=
  (s.setChannel ch fun c => c.become st).alarm Ev.lfChannelFaulted ch []

/-- The code the current target has come down to: 2 lower in each cycle from the first one at the window's edge on (R89). -/
def detunedCode (target first cycle : Nat) : Int := (target : Int) - 2 * ((cycle : Int) + 1 - first)

/-- A channel's reduction is noted with the transmission on the coils (R85). -/
def LfRun.noteDetuned (r : LfRun) (ch : Nat) : LfRun :=
  { r with units := r.units.modify r.ended fun u => { u with detuned := ch :: u.detuned } }

/-- Tracking was clamped at a window edge from a cycle of the frame or burst on, and the phase came within ±20° at another (R89). -/
def State.detune (s : State) (r : LfRun) (u : LfUnit) (ch : Nat) (clamp : LfClamp) (driven : List LfMeasure) : State :=
  let code := detunedCode (min u.target (s.channel ch).ceiling) clamp.first clamp.cycle
  if clamp.cycle ≤ 8 ∧ 2 ≤ code then
    ({ s.setChannel ch fun c => { c.become .detuned with ceiling := code.toNat } with
        lf := { (s.setChannel ch fun c => { c.become .detuned with ceiling := code.toNat }).lf with run := some (r.noteDetuned ch) } }).event
      Ev.lfDetuned ch (leBytes 1 code.toNat)
  else (s.faultChannel ch .faultDetune).endLfRun r Rc.lfDetuneLimit driven

/-- LF_DETUNED (R89): from the third carrier cycle of a frame or burst on. -/
def execLfDetuned (ch : Nat) (clamp : LfClamp) (driven : List LfMeasure) (s : State) : Out :=
  keepLock s <|
    match s.lf.run with
    | some r =>
      match r.unit? with
      | some u => if s.driven ch && 3 ≤ clamp.first && clamp.first ≤ clamp.cycle && r.reports driven then s.detune r u ch clamp driven else s
      | none => s
    | none => s

/-! ## Protection (R91, R92) -/

/-- A channel leaves the lists of channels to calibrate. -/
def LfArray.dropChannel (l : LfArray) (ch : Nat) : LfArray :=
  { l with commanded := l.commanded.filter (· != ch), scheduled := l.scheduled.filter (· != ch) }

/-- The next channel to calibrate: commanded ones first (R87; log entry 49). -/
def LfArray.nextCal (l : LfArray) : Option Nat := (l.commanded ++ l.scheduled).head?

/-- The command or schedule is done: LF_CALIBRATED with the mask of the channels finished, and OK where none failed (R87). -/
def State.endCalibration (s : State) : State :=
  if s.lf.nextCal.isSome then s
  else
    let mask := (s.lf.finished.map fun ch => 2 ^ ch).sum
    let t := { s with lf := { s.lf with finished := [] } }
    let u := if t.num 0x2221 0 = Rc.pending.toNat then t.putCode 0x2221 0 Rc.ok else t
    if mask = 0 then u else u.event Ev.lfCalibrated 0 (leBytes 1 mask)

/-- A calibration that may not start, or is cut short, is dropped with its result (R91 to R93, R420). -/
def State.refuseCalibration (s : State) (ch : Nat) (code : Code) : State :=
  ({ (s.putCode 0x2221 0 code) with lf := s.lf.dropChannel ch }).endCalibration

/-- A calibration is cut short: its channel damped, charged with what was driven, a free value up to the plan, and UNCALIBRATED (R91 to
R93, R95; log entry 2). -/
def State.dropCalibration (s : State) : State :=
  match s.lf.calibrating with
  | some (ch, nominal) =>
    (({ s with lf := { s.lf with calibrating := none } }).setChannel ch fun c =>
      (c.become .uncalibrated).refund (Config.freeNat s.free % (calCharge (calOnUs nominal) + 1))).used 1
  | none => s

/-- The channel whose calibration is under way: commanded or scheduled, or the first of those inside an operation (R87). -/
def State.calibratingNow (s : State) : Option Nat :=
  match s.lf.calibrating with
  | some (ch, _) => some ch
  | none => s.lf.run.bind fun r => if r.onset.isNone then r.cals.head? else none

/-- Whatever LF operation is on the coils is cut short with a result: the operation in progress, or a calibration (R68, R91, R92). -/
def State.cutLf (s : State) (result : Code) (driven : List LfMeasure) : State :=
  match s.lf.run, s.lf.calibrating with
  | some r, _ => s.endLfRun r result driven
  | none, some (ch, _) => s.dropCalibration.refuseCalibration ch result
  | none, none => s

/-- The report of what was driven fits the operation on the coils; a calibration drives no transmission. -/
def State.reportFits (s : State) (driven : List LfMeasure) : Bool :=
  match s.lf.run with
  | some r => r.reports driven
  | none => driven.isEmpty

/-- Ticks of the trips that lie within the last 10 s (R91). -/
def State.recentTrips (s : State) (ch : Nat) : List Tick :=
  (s.channel ch).trips.filter fun t => s.sinceTick t ≤ 10 * ticksPerSecond

/-- A channel's comparator trips (R91): the third trip within 10 s is a fault; the operation ends. -/
def State.trip (s : State) (ch : Nat) (driven : List LfMeasure) : State :=
  let trips := s.tick :: s.recentTrips ch
  let t := ((s.bump 0x2241 (ch + 1)).setChannel ch fun c => { c with trips := trips }).cutLf Rc.lfOvercurrent driven
  if 3 ≤ trips.length then t.faultChannel ch .faultOvercurrent else t

/-- LF_OVERCURRENT (R91): of a channel that an operation or a calibration drives. -/
def execLfOvercurrent (trip : LfTrip) (s : State) : Out :=
  keepLock s <|
    if (s.driven trip.ch || s.calibratingNow == some trip.ch) && s.reportFits trip.driven then s.trip trip.ch trip.driven else s

/-- LF_SUPPLY_FAULT (R92). -/
def execLfSupplyFault (loss : LfSupplyLoss) (s : State) : Out :=
  keepLock s <|
    if (s.lf.run.isSome || s.lf.calibrating.isSome) && s.reportFits loss.driven then
      let t := s.putNum 0x2240 0 loss.vlfMv
      if vlfOutside loss.vlfMv then (t.cutLf Rc.lfSupply loss.driven).raise 0xFF03 Rc.lfSupply 0 else t
    else s

/-! ## Calibration (R86, R87, R90) -/

/-- A channel that a command or a schedule may calibrate: neither disabled nor in a fault state (R87, R94; log entry 49). -/
def State.calibratable (s : State) (ch : Nat) : Bool :=
  (s.channel ch).state != .disabled && !(s.channel ch).state.isFault

/-- A write to 0x2220:00 by its own rule (R87): BUSY while an earlier command is pending; a channel it names that is not usable gives the
calibration's result LF_CHANNEL_FAULT (R97; log entry 49). -/
def ownLfCalibrate (value : Bytes) : Own := fun s =>
  if !s.lf.commanded.isEmpty then (s, Rc.busy)
  else
    let named := maskBits (leNat value) 8
    let t := { s with lf := { s.lf with commanded := named.filter s.calibratable } }
    ((t.putCode 0x2221 0 (if named.all s.calibratable then Rc.pending else Rc.lfChannelFault)).firstAccess .lfa 0, Rc.ok)

/-- LF_CALIBRATE (R87). -/
def execLfCalibrate (via : Via) (value : Bytes) (s : State) : Out :=
  keepLock s (s.hostWrite via 0x2220 0 value (ownLfCalibrate value))

/-- A class 1 step waits for LF, so calibrations yield (R87). -/
def State.classOneWaits (s : State) : Bool :=
  s.tilth.slots.any fun sl =>
    sl.inFlight && sl.engine == some .lf && sl.state != .waitingEngine && (sl.kind == some .approach || sl.kind == some .badge)

/-- A calibration starts on the next channel while the engine is free (R86, R87, R92, R93, R420). -/
def State.startCalibration (s : State) : State :=
  match s.lf.nextCal with
  | none => s
  | some ch =>
    if s.lf.run.isSome || s.lf.calibrating.isSome || !s.isOn .lfa || s.classOneWaits then s
    else
      let t := s.putNum 0x2240 0 s.lf.vlfMv
      let nominal := t.seenNum 0x2200 1
      if s.lf.vlfMv < 8000 ∨ 32000 < s.lf.vlfMv then t.refuseCalibration ch Rc.lfSupply
      else if t.lfCapacity < (t.channel ch).budget + calCharge (calOnUs nominal) then t.refuseCalibration ch Rc.lfBudget
      else if t.thermalRefuses calEnergy then (t.thermalRefused 1 0 calEnergy).refuseCalibration ch Rc.thermalBudget
      else
        (({ t with lf := { t.lf with calibrating := some (ch, nominal) } }).setChannel ch fun c =>
          { c with budget := c.budget + calCharge (calOnUs nominal) }).warnBudget ch

/-- LF_CALIBRATION_START (R87, R92): VLF is the present tick's measurement (log entry 165). -/
def execLfCalibrationStart (s : State) : Out := keepLock s s.startCalibration

/-- A calibrated frequency lies within 2.5 kHz of the nominal (R86). -/
def calInWindow (nominal hz : Nat) : Bool := ((hz : Int) - (nominal : Int) * 100).natAbs ≤ 2500

/-- A channel calibrated: READY, ceiling 15, frequency and temperature stored (R86, R90). A nominal carrier written meanwhile leaves the
channel UNCALIBRATED (R95). -/
def State.calibrated (s : State) (ch nominal hz : Nat) (tempDeci : Int) : State :=
  let t := ((s.putNum 0x2205 (ch + 1) hz).putInt 0x2222 0 tempDeci).setChannel ch fun c =>
    if nominal = s.num 0x2200 1 then { c.become .ready with ceiling := 15 } else c
  { t with lf := { t.lf with finished := t.lf.finished ++ [ch] } }

/-- The outcome of a channel's calibration (R86). -/
def State.calOutcome (s : State) (ch nominal : Nat) (o : LfCal) (tempDeci : Int) : State :=
  match o with
  | .found hz =>
    if calInWindow nominal hz then s.calibrated ch nominal hz tempDeci
    else (s.putCode 0x2221 0 Rc.lfCalFail).faultChannel ch .faultCal
  | .noZeroPhase => (s.putCode 0x2221 0 Rc.lfCalFail).faultChannel ch .faultCal
  | .codeZero => (s.putCode 0x2221 0 Rc.lfCalFail).faultChannel ch .faultOpen

/-- A calibration succeeded (R86). -/
def calSucceeds (nominal : Nat) (o : LfCal) : Bool :=
  match o with
  | .found hz => calInWindow nominal hz
  | _ => false

/-- A channel that has failed drops out of the operation, and gets its charge back (R81, R93). -/
def LfRun.without (r : LfRun) (ch : Nat) : LfRun :=
  { r with units := keepChannels (· != ch) r.units, drives := r.drives.filter fun d => d.ch != ch }

/-- The calibration of an operation's channel has ended: the next one follows, then the carrier begins; where too few channels are left
the operation ends with LF_NO_CHANNEL (R81, R84, R87; log entry 144). -/
def State.goOnLf (s : State) (r : LfRun) (ch : Nat) (ok : Bool) : State :=
  let q := { (if ok then r else r.without ch) with cals := r.cals.filter (· != ch) }
  let t := if ok then s else s.setChannel ch fun c => c.refund (plannedCharge r.drives ch)
  if !transmittable q.op q.units then t.endLfRun q Rc.lfNoChannel []
  else if q.cals.isEmpty then t.lfTransmit q
  else { t with lf := { t.lf with run := some q } }

/-- The charge of a calibration corrected to its on-time (R93). -/
def State.correctCal (s : State) (ch nominal onUs : Nat) : State :=
  (s.setChannel ch fun c => { c with budget := c.budget + calCharge onUs - calCharge (calOnUs nominal) }).warnBudget ch

/-- A channel's calibration ends (R86, R87, R93). -/
def State.calEnds (s : State) (ch : Nat) (outcome : LfCal) (c : CalReading) : State :=
  match s.lf.calibrating, s.lf.run with
  | some (_, nominal), _ =>
    (({ s with lf := { s.lf.dropChannel ch with calibrating := none } }).correctCal ch nominal c.onUs).calOutcome ch nominal outcome c.tempDeci
      |>.endCalibration
  | none, some r =>
    let t := (({ s with lf := s.lf.dropChannel ch }).correctCal ch r.nominal c.onUs).calOutcome ch r.nominal outcome c.tempDeci
    t.endCalibration.goOnLf r ch (calSucceeds r.nominal outcome)
  | none, none => s

/-- LF_CALIBRATION_END (R86, R87). -/
def execLfCalibrationEnd (ch : Nat) (outcome : LfCal) (reading : CalReading) (s : State) : Out :=
  keepLock s (if s.calibratingNow = some ch then s.calEnds ch outcome reading else s)

/-! ## Host writes (R94, R95) -/

/-- A host's change of channel states: operations that start before the second tick from now do not see it (R95; log entry 139). -/
def State.hostChannels (s : State) (f : Nat → LfChannel → LfChannel) : State :=
  { s with lf := { s.lf.mapChannels f with hostTick := some s.now } }

/-- A write to 0x2203 by its own rule (R94). -/
def ownLfFaultClear (sub : Nat) : Own := fun s =>
  if (s.channel (sub - 1)).state.isFault then
    ((s.hostChannels fun i c => if i = sub - 1 then { c with state := .uncalibrated } else c).event Ev.lfFaultCleared (sub - 1) [], Rc.ok)
  else (s, Rc.ok)

/-- LF_FAULT_CLEAR (R94). -/
def execLfFaultClear (via : Via) (sub : Nat) (value : Bytes) (s : State) : Out :=
  keepLock s (s.hostWrite via 0x2203 sub value (ownLfFaultClear sub))

/-- A channel under its bit of the enable mask (R94). -/
def LfChannel.enable (c : LfChannel) (on : Bool) : LfChannel :=
  if on then (if c.state = .disabled then { c with state := c.saved } else c)
  else if c.state = .disabled then c else { c with saved := c.state, state := .disabled }

/-- A write to 0x2201:00 by its own rule (R94). -/
def ownLfEnable (value : Bytes) : Own := fun s =>
  ((s.hostChannels fun i c => c.enable (bit (leNat value) i)).put 0x2201 0 value, Rc.ok)

/-- LF_CHANNEL_ENABLE_WRITE (R94). -/
def execLfChannelEnableWrite (via : Via) (value : Bytes) (s : State) : Out :=
  keepLock s (s.hostWrite via 0x2201 0 value (ownLfEnable value))

/-- A write to 0x2200:01 by its own rule (R95): every channel that is not DISABLED returns to UNCALIBRATED, every ceiling
to 15. -/
def ownLfNominal (value : Bytes) : Own := fun s =>
  ((s.hostChannels fun _ c =>
      { c with state := if c.state = ChannelState.disabled then ChannelState.disabled else .uncalibrated, ceiling := 15 }).put 0x2200 1 value,
   Rc.ok)

/-- LF_NOMINAL_FREQUENCY_WRITE (R95). -/
def execLfNominalFrequencyWrite (via : Via) (value : Bytes) (s : State) : Out :=
  keepLock s (s.hostWrite via 0x2200 1 value (ownLfNominal value))

/-- The abort of the array (R95), its sessions ended: an operation in progress damped, a calibration abandoned with its channel back to
UNCALIBRATED; a commanded calibration ends with ABORTED. -/
def State.abortLf (s : State) : State :=
  let t := ((s.lf.run.toList.foldl (fun u r => u.dropRun [r.slot]) s).dropCalibration)
  let u := { t with lf := { t.lf with commanded := [], scheduled := [], finished := [] } }
  if u.num 0x2221 0 = Rc.pending.toNat then u.putCode 0x2221 0 Rc.aborted else u

end Sys2Proof.Machine
end

