-- ==== Sys2Proof/Machine/Badge.lean ====
section
/-! DEFINITION. Approaches and badge sessions (chapter 04): touches, rounds, the packets of both badge generations, the checks of
R111 and R118, the bar of R112, retries and limits. -/

namespace Sys2Proof.Machine

/-! ## Credentials as a session reads them (R36, R55 to R58) -/

/-- The record a session reads at a store index: the cached copy, else the store as visible to it (R36, R56; log entry 31). -/
def State.record (s : State) (i : Nat) : Bytes :=
  match s.tilth.cache.find? fun l => l.index == i && !(l.dropAt.any (· ≤ s.now)) with
  | some l => l.record
  | none => (lookup i s.seen.credentials).getD (zeros 128)

/-- A session pins a credential for as long as it lasts (R55; log entry 31). -/
def State.pin (s : State) (n i : Nat) : State :=
  s.setSlot n fun sl => { sl with pins := if sl.pins.contains i then sl.pins else sl.pins ++ [i] }

/-- A credential the session pins has been changed by a host: its next step ends it with CREDENTIAL_CHANGED (R58; log entry 31). -/
def State.changed (s : State) (n : Nat) : Bool := (s.slot n).staleFrom.any (· ≤ s.now)

/-- A moment lies in a record's validity window; while the RTC is not valid only an unbounded record passes (R111). -/
def State.inWindow (s : State) (r : Bytes) : Bool :=
  if s.power.rtcValid then
    (field r 12 4 == 0 || field r 12 4 ≤ s.rtcSeconds) && (field r 16 4 == 0 || s.rtcSeconds ≤ field r 16 4)
  else field r 12 4 == 0 && field r 16 4 == 0

/-- A record is barred now (R111, R195). -/
def State.barred (s : State) (r : Bytes) : Bool := field r 20 6 != 0 && !s.reached (field r 20 6)

/-- The record of an accepted outcome: last use and use count (R122, R197). -/
def State.usedRecord (s : State) (r : Bytes) : Bytes :=
  setField (setField r 32 (leBytes 6 s.tick)) 40 (leBytes 4 (counterAfter 0x300000 4 (field r 40 4) 1))

/-- A record barred for a number of seconds (R112, R115, R195). -/
def State.barRecord (s : State) (r : Bytes) (seconds : Nat) : Bytes :=
  setField r 20 (leBytes 6 (s.tickIn (seconds * ticksPerSecond)))

/-- FAILS and FAILTICK after one more failed proof in the window of 600 s (R112, R454). -/
def State.failRecord (s : State) (r : Bytes) : Bytes :=
  if byteAt r 44 = 0 ∨ 600 * ticksPerSecond < s.sinceTick (field r 46 6) then
    setField (setField r 44 [1]) 46 (leBytes 6 s.tick)
  else setField r 44 (leBytes 1 (counterAfter 0x30002C 1 (byteAt r 44) 1))

/-! ## A lookup inside one command (R55, R56; log entry 145) -/

/-- Store indices that some session pins. -/
def Tilth.pinned (t : Tilth) (i : Nat) : Bool := t.slots.any fun sl => sl.pins.contains i

/-- The cache without its victim, where it is full: the least recently used unpinned entry, the lowest of equals (R56). -/
def Tilth.evict (t : Tilth) : List CacheLine :=
  if t.cache.length < 256 then t.cache
  else
    let victim := t.cache.foldl
      (fun (best : Option CacheLine) l =>
        if t.pinned l.index then best
        else match best with
          | none => some l
          | some b => if l.lastUse < b.lastUse then some l else some b) none
    match victim with
    | some v => t.cache.erase v
    | none => t.cache

/-- A session pins a credential; a fifth pin ends it with NO_RESOURCE (R55). -/
def State.pinOrEnd (s : State) (n i : Nat) : State :=
  if (s.slot n).pins.contains i then s
  else if 4 ≤ (s.slot n).pins.length then s.finish n Rc.noResource
  else s.pin n i

/-- A cached copy is used (R56). -/
def State.useLine (s : State) (i : Nat) : State :=
  { s with tilth :=
    { s.tilth with
      cache := s.tilth.cache.map fun (l : CacheLine) => if l.index = i then { l with lastUse := s.tilth.uses + 1 } else l
      uses := s.tilth.uses + 1 } }

/-- A record is read from the store into the cache; one whose check fails reads as empty and is a class C fault (R56, R457). -/
def State.readRecord (s : State) (n i : Nat) : State :=
  let r := s.credential i
  let t := if recordGood r then s else s.logFault 0x03 0x03 0 n 10 (leBytes 2 i)
  let line : CacheLine :=
    { index := i, record := if recordGood r then r else zeros 128, lastUse := t.tilth.uses + 1, dropAt := none }
  { t with tilth :=
    { t.tilth with
      cache := t.tilth.evict.filter (fun l => l.index != i) ++ [line], uses := t.tilth.uses + 1 } }

/-- A session looks a credential up: a hit, or a miss with its page-in, and the pin (R55, R56; log entry 145). -/
def State.lookupNow (s : State) (n i : Nat) : State :=
  let held := s.tilth.cache.any fun l => l.index == i && !(l.dropAt.any (· ≤ s.now))
  (if held then (s.useLine i).bump 0x2104 1
   else if s.tilth.pageIns.any fun p => p.index == i then (s.readRecord n i).bump 0x2104 1
   else (s.readRecord n i).bump 0x2104 2).pinOrEnd n i

/-! ## The sync word (R99) -/

/-- The first attempt from a whose word meets the conditions, within the 256 attempts one byte numbers (R99). -/
def firstSync (kf : Bytes) (pack : Nat) : Nat → Nat → Option (Nat × Nat)
  | 0, _ => none
  | n + 1, a =>
    let w := leNat (derive .sync kf (leBytes 2 pack ++ leBytes 1 a))
    if syncWordOk w then some (w, a) else firstSync kf pack n (a + 1)

/-- The controller computes SW when the owner root, the fleet tag or the pack tag is committed (R99). -/
def State.computeSync (s : State) : State :=
  if s.hasRoot 2 && !s.rootBad 2 then
    match firstSync (derive .fleet s.ownerRoot (leBytes 2 (s.num 0x2300 1))) (s.num 0x2300 2) 256 0 with
    | some (w, a) => (s.putNum 0x2302 1 w).putNum 0x2302 2 a
    | none => s
  else s

/-- The sync word of an approach: the legacy one where its wake carried LEG = 1 (R104). -/
def State.syncWord (s : State) (a : Approach) : Bytes :=
  leBytes 4 (if a.legacy then s.seenNum 0x2303 2 else s.seenNum 0x2302 1)

/-! ## Packets (R103, R104, R106) -/

/-- S, the number of slots of a round (R103). -/
def Approach.slots (a : Approach) : Nat := 8 * 2 ^ a.slotCode

/-- The WAKE payload (R103). -/
def State.wakePayload (s : State) (a : Approach) : Bytes :=
  leBytes 1 (a.slotCode * 64 + flag a.legacy 5 + flag (s.seenNum 0x2211 2 != 0) 4 + a.ws)
    ++ leBytes 1 a.channel ++ leBytes 2 (s.seenNum 0x2300 1) ++ leBytes 2 (s.seenNum 0x2300 2)

/-- The ROUND payload (R107). -/
def State.roundPayload (s : State) (a : Approach) : Bytes :=
  a.rn ++ leBytes 1 a.slotCode ++ leBytes 1 (s.seenNum 0x2304 3)

/-- A packet's header: TYPE, LEN, HANDLE (R104). -/
def packetHeader (type len handle : Nat) : Bytes := leBytes 1 type ++ leBytes 1 len ++ leBytes 4 handle

/-- The IV of R106: direction 1 controller to badge, 2 badge to controller. -/
def badgeIv (direction type handle seq : Nat) : Bytes :=
  leBytes 1 direction ++ leBytes 1 type ++ leBytes 4 handle ++ leBytes 2 seq ++ zeros 4

/-- A sealed payload of a type in the controller's direction (R106, R110; log entry 53). -/
def State.sealPacket (s : State) (a : Approach) (key : Bytes) (type handle seq : Nat) (plain : Bytes) : Bytes :=
  gcmSeal key (badgeIv 1 type handle seq) (packetHeader type (plain.length + 16) handle ++ s.syncWord a) plain

/-- The 8-byte MAC of a forerunner packet (R118). -/
def legacyMac (ks : Bytes) (type handle : Nat) (payload : Bytes) : Bytes :=
  (cmac ks (packetHeader type (payload.length + 8) handle ++ payload)).take 8

/-- A forerunner payload followed by its MAC (R118). -/
def legacyPacket (ks : Bytes) (type handle : Nat) (payload : Bytes) : Bytes := payload ++ legacyMac ks type handle payload

/-- A badge's handle H from slot s and BR (R108). -/
def answerHandle (rk : Bytes) (slot : Nat) (br : Bytes) : Nat :=
  leNat ((aesBlock rk ([0x48] ++ leBytes 1 slot ++ br ++ zeros 10)).take 4)

/-- One bit of CRC-24 with the polynomial 0x5D6DCB (R104). -/
def crc24Bit (c : Nat) : Nat := if 2 ^ 23 ≤ c then (2 * c) % 2 ^ 24 ^^^ 0x5D6DCB else 2 * c

/-- CRC-24 over header and payload, without reflection and without a final XOR (R104). -/
def crc24 (bs : Bytes) : Nat :=
  bs.foldl (fun c b => (List.range 8).foldl (fun d _ => crc24Bit d) (c ^^^ (b.toNat * 65536))) 0xFEDCBA

/-- A packet on the air (R104): preamble, sync word, header, payload, CRC. -/
def packetFrame (sync : Bytes) (type handle : Nat) (payload : Bytes) : Bytes :=
  let body := packetHeader type payload.length handle ++ payload
  List.replicate 8 0x55 ++ sync ++ body ++ beBytes 3 (crc24 body)

/-! ## Air time (R104, R105, R107) -/

/-- A packet lasts (21 + LEN) × 8 µs (R104). -/
def packetUs (len : Nat) : Nat := (21 + len) * 8

/-- The reply a packet draws: its delay in µs and its LEN, for the K of the VECTOR frame (table Packet types). -/
def replyOf (type k : Nat) : Option (Nat × Nat) :=
  match type with
  | 0x03 => some (400, 48)
  | 0x13 => some (400, 20)
  | 0x06 => some (150, 18 + 6 * k)
  | 0x16 => some (150, 10 + 6 * k)
  | _ => none

/-- The end of a reply of a LEN, in µs from T(n) of the packet's tick (R105). -/
def replyEndUs (len delay replyLen : Nat) : Nat := 10 + packetUs len + delay + packetUs replyLen

/-- The ticks from a packet's own tick to the one in which its last air time or receive window ends (R105, R107, R139). -/
def packetTicks (type len k : Nat) : Nat :=
  match replyOf type k with
  | some (delay, replyLen) => (replyEndUs len delay replyLen + 10) / 25
  | none => (14 + packetUs len) / 25

/-- The same of a ROUND: the close of slot S − 1 (R107). -/
def State.roundTicks (s : State) (a : Approach) : Nat :=
  (10 + packetUs 18 + 150 + a.slots * s.seenNum 0x2304 3 * 25) / 25

/-! ## Booking RF (R105, R110, R119, R158) -/

/-- K of the round's VECTOR frame, for a badge session. -/
def State.vectorCount (s : State) (sl : Slot) : Nat := ((sl.parent.bind fun p => (s.slot p).approach?).map (·.order.length)).getD 8

/-- The ticks the next RF step of a slot occupies after its own (R105, R107, R158). -/
def State.rfTicks (s : State) (sl : Slot) : Nat :=
  match sl.work with
  | .approach a => s.roundTicks a
  | .badge b =>
    match b.next with
    | .packet => packetTicks b.sent.1 b.sent.2.length (s.vectorCount sl)
    | .sweep => 246
    | .fusion => 0
  | _ => 0

/-- The executed tick that a tick stamp not yet passed stands for; this one, if it has been reached. -/
def State.executedAt (s : State) (t : Tick) : Nat := if s.reached t then s.now else s.now + (tickModulus - s.sinceTick t)

/-- The RF ticks booked, first and last, in executed ticks: the operation in progress, the named steps of other slots, and the sweeps
and probes of confirmed badges (R158; log entry 146). -/
def State.bookings (s : State) (n : Nat) : List (Nat × Nat) :=
  (s.radio.air.map fun a => (a.from_, a.close)).toList
    ++ (s.tilth.numbered.filterMap fun (m, sl) =>
      if m != n && sl.acts && sl.engine == some .rf && sl.state != .waitingEngine then
        sl.named.map fun t => (s.executedAt t, s.executedAt t + s.rfTicks sl)
      else none)
    ++ (s.tilth.numbered.filterMap fun (m, sl) =>
      match sl.badge? with
      | some b =>
        if m != n && sl.acts && b.phase == .confirmed && b.probes.isNone then some (b.confirmTick + b.start, b.confirmTick + b.start + 246)
        else none
      | none => none)

/-- The smallest tick from t on from which so many further ticks meet no booking; fuel bounds the bookings passed (R119, R158). -/
def firstFree (booked : List (Nat × Nat)) (ticks : Nat) : Nat → Nat → Nat
  | 0, t => t
  | fuel + 1, t =>
    match booked.find? fun b => b.1 ≤ t + ticks && t ≤ b.2 with
    | some b => firstFree booked ticks fuel (b.2 + 1)
    | none => t

/-- The earliest executed tick from t on in which RF is free for the next step of a slot (R119; log entry 146). -/
def State.rfFree (s : State) (n t : Nat) : Nat :=
  firstFree (s.bookings n) (s.rfTicks (s.slot n)) ((s.bookings n).length + 1) t

/-- A slot's next RF step is named for the earliest tick from an executed one on in which RF is free (R49, R119; log entry 146). -/
def State.nameRf (s : State) (n t : Nat) : State := s.makeReady n .rf (some (s.tickIn (s.rfFree n t - s.now)))

/-! ## Reception (R130 to R132, R145) -/

/-- The port that a fixed diversity mode names (R131, R132). -/
def State.fixedPort (s : State) : Option Nat :=
  match s.seenNum 0x2402 1 with
  | 1 => some 0
  | 2 => some 1
  | _ => none

/-- The port a packet is received on (R131): the higher correlation quality, on a tie the higher RSSI, on a further tie ANTA. -/
def State.choosePort (s : State) (rx : Reception) : Nat :=
  s.fixedPort.getD
    (if rx.qualityA < rx.qualityB ∨ (rx.qualityA = rx.qualityB ∧ rx.rssiA < rx.rssiB) then 1 else 0)

/-- An RSSI as it reads at 0x2440:01: −100 to −20 dBm (R130, R152). -/
def clampRssi (deciDbm : Int) : Int := max (-1000) (min (-200) deciDbm)

/-- The radio has been active in this tick (R145). -/
def State.airNow (s : State) : State := { s with radio := { s.radio with lastAir := s.tick } }

/-- A valid packet has been received: counted, and its RSSI kept (R130, 0x2460:02). -/
def State.hears (s : State) (deciDbm : Int) : State := (s.airNow.putInt 0x2440 1 (clampRssi deciDbm)).bump 0x2460 2

/-- A valid packet received with diversity (R130, R131). -/
def State.heard (s : State) (rx : Reception) : State := s.hears (if s.choosePort rx = 1 then rx.rssiB else rx.rssiA)

/-- RF is free again: the operation of a slot leaves the air. -/
def State.leaveAir (s : State) : State := { s.airNow with radio := { s.airNow.radio with air := none } }

/-- A badge session prepares a packet, which a retry repeats bit for bit, and names the tick that sends it (R49, R105, R106; log entry
57). -/
def State.prepare (s : State) (n : Nat) (a : Approach) (type handle : Nat) (payload : Bytes) : State :=
  (s.setBadge n fun b =>
    { b with sent := (type, payload), next := .packet, frame := packetFrame (s.syncWord a) type handle payload }).nameRf n (s.now + 2)

/-! ## Touches (R100, R101) -/

/-- An approach is in flight (R101). -/
def State.approaching (s : State) : Bool := !(s.ofKind .approach).isEmpty

/-- A request for an approach waits for admission. -/
def State.approachWaits (s : State) : Bool := s.tilth.waiting.any fun r => r.kind == .approach

/-- Owner root, fleet tag and pack tag are set (R100). -/
def State.fleetReady (s : State) : Bool := s.hasRoot 2 && s.seenNum 0x2300 1 != 0 && s.seenNum 0x2300 2 != 0

/-- A touch acts in this mode: armed in DEPOT, or a credential test (R101); the table gives FACTORY no approach of its own (R22; log entry
147). -/
def State.touchActs (s : State) : Bool :=
  (s.mode == .depot && s.isTrue 0x2004 1) || s.mode == .enrol || s.mode == .repurpose

/-- A new approach on an electrode (R101). -/
def State.newApproach (s : State) (electrode : Nat) : Approach :=
  { electrode := electrode, touchTick := s.tick, test := s.mode != .depot, legacy := false, slotCode := 0, rn := [], channel := 0, ws := 0,
    rk := [], rounds := 0, roundTick := none, roundDone := false, answers := 0, handles := [], collided := 0,
    vectors := .none, order := [], accepted := [], retries := 0, qualified := none, decided := none,
    lastCredential := 0 }

/-- A touch that starts nothing (R101). -/
def State.touchIgnored (s : State) (electrode : Nat) : State := s.event Ev.touchIgnored electrode []

/-- A committed touch or a host request (R100, R101, R436): what it leaves, and what a host request answers (log entries 51 and 58). -/
def State.touch (s : State) (electrode : Nat) : State × Code :=
  if s.approaching || s.approachWaits then (s.touchIgnored electrode, Rc.ok)
  else if s.touchActs then
    if !s.fleetReady then (s.reportApproach 0 (s.newApproach electrode) Rc.notEnrolled, Rc.notEnrolled)
    else if s.rootBad 2 then (s.reportApproach 0 (s.newApproach electrode) Rc.hwFault, Rc.hwFault)
    else
      let r := s.requestSession .approach none (.approach (s.newApproach electrode))
      if r.2 then (r.1, Rc.ok) else (r.1.bump 0x2102 3, Rc.noResource)
  else
    (s.touchIgnored electrode,
      if s.mode = .depot ∨ s.mode = .bound ∨ s.mode = .service then Rc.ok else Rc.modeForbids)

/-- A touch of an enabled electrode is declared and not yet committed (R101, R417). -/
def State.touchDeclared (s : State) (e : Nat) : Bool :=
  e < 4 && bit (s.seenNum 0x2E40 3) e && (s.power.electrodes[e]?).any (·.fresh)

/-- A declared touch is committed once. -/
def State.spendTouch (s : State) (e : Nat) : State :=
  { s with power := { s.power with electrodes := s.power.electrodes.modify e fun (x : Electrode) => { x with fresh := false } } }

/-- TOUCH_EVENT (R101, R417): a declared touch is committed. -/
def execTouchEvent (electrode : Nat) (s : State) : Out :=
  keepLock s (if s.running && s.touchDeclared electrode then ((s.spendTouch electrode).touch electrode).1 else s)

/-- The touch that woke the controller is committed as CORE reports ready (R414). -/
def State.wakingTouch (s : State) : State :=
  match s.power.wakeTouch with
  | some e => (({ s with power := { s.power with wakeTouch := none } }).touch e).1
  | none => s

/-- A write to 0x2310:00 by its own rule (R101; log entry 58). -/
def ownHostApproach : Own := fun s => s.touch (s.seenNum 0x2310 1)

/-- HOST_APPROACH_REQUEST (R101). -/
def execHostApproachRequest (via : Via) (value : Bytes) (s : State) : Out :=
  keepLock s (s.hostWrite via 0x2310 0 value ownHostApproach)

/-! ## The first steps of an approach and of a badge session (R102, R110) -/

/-- A session's request to an instance waits; a ninth fails at once (R323). -/
def State.queueDraw (s : State) (n inst : Nat) : State :=
  if s.drawRoom inst then s.waitDraw n inst else s.finish n Rc.noResource

/-- An approach's round begins, where the generators deliver and the cipher engine works (R102, R109, R284). -/
def State.startRound (s : State) (n : Nat) (turn : Bool := false) : State :=
  match s.drawState 2 turn with
  | .fails c => s.finish n c
  | .wait => s.queueDraw n 2
  | .ready =>
    match s.drawState 8 with
    | .fails c => s.finish n c
    | .wait => s.queueDraw n 8
    | .ready => if s.cipher.failed then s.finish n Rc.cipherFailed else s.beginRound n

/-- An approach starts at its admission (R102). -/
def State.startApproach (s : State) (n : Nat) : State :=
  let e := ((s.slot n).approach?.map (·.electrode)).getD 0
  ((s.bump 0x2312 1).event Ev.approachStarted n (leBytes 1 e)).startRound n

/-- A badge session draws CC and TS and prepares its CHALLENGE or LCHALLENGE (R110, R118). -/
def State.challengeBadge (s : State) (n : Nat) (a : Approach) (b : Badge) : State :=
  let cc := s.fresh 16
  let ts := (s.used 16).fresh 16
  let payload := if b.legacy then cc else s.sealPacket a a.rk 0x03 b.handle 0 (cc ++ ts)
  ((((s.used 32).countCall 2).gcm (if b.legacy then 0 else 1)).setBadge n fun b => { b with cc := cc, ts := ts, challenge := payload, phase := .challenged }).prepare n
    a (if b.legacy then 0x13 else 0x03) b.handle payload

/-- A badge session starts at its admission (R110, R323). -/
def State.startBadge (s : State) (n : Nat) (turn : Bool := false) : State :=
  match s.drawState 2 turn with
  | .fails c => s.finish n c
  | .wait => s.queueDraw n 2
  | .ready =>
    if s.cipher.failed then s.finish n Rc.cipherFailed
    else
      match (s.slot n).badge?, ((s.slot n).parent.bind fun p => (s.slot p).approach?) with
      | some b, some a => s.challengeBadge n a b
      | _, _ => s.finish n Rc.parentEnded

/-! ## Rounds (R108, R109) -/

/-- A new badge session for an answer received on a port (R108, R118, R132). -/
def newBadge (roundSlot : Nat) (legacy : Bool) (handle port : Nat) : Badge :=
  { roundSlot := roundSlot, legacy := legacy, handle := handle, cc := [], ts := [], bn := [], ks := [], challenge := [],
    phase := .challenged, retries := 0, credIndex := none, credId := if legacy then handle else 0, confirmTick := 0,
    start := 0, toneMask := [], toneOrder := [], port := port, sweepPort := 0, gain := 0, tonePower := 0, threshold := 0, phaseOffset := 0,
    turnOffset := 0, next := .packet, sent := (0, []), frame := [], sweep := none, probes := none, report := none }

/-- An answer that is dropped (R108). -/
def State.dropAnswer (s : State) (answer : Answer) : State :=
  s.event Ev.answerDropped answer.slot (leBytes 1 answer.slot)

/-- An answer's handle (R108, R118). -/
def handleOf (answer : Answer) (rk : Bytes) : Nat :=
  if answer.legacy then leNat answer.payload else answerHandle rk answer.slot answer.payload

/-- The badge children an approach's round already holds: in flight or waiting (R108). -/
def Approach.holds (a : Approach) : Nat := a.handles.length

/-- One decoded answer: its handle noted, a child requested or the answer dropped (R108). -/
def State.takeHandle (s : State) (n : Nat) (answer : Answer) (seen : List Nat) (h : Nat) : State :=
  let held := ((s.slot n).approach?.map Approach.holds).getD 0
  if h = 0 ∨ h = 0xFFFFFFFF ∨ h ∈ seen ∨ s.seenNum 0x2306 0 ≤ held then s.dropAnswer answer
  else
    let r := s.requestSession .badge (some n) (.badge (newBadge answer.slot answer.legacy h (s.choosePort answer.rx)))
    if r.2 then r.1.setApproach n fun a => { a with handles := a.handles ++ [h] }
    else (r.1.bump 0x2102 3).dropAnswer answer

/-- The answers of a round in slot order (R108, R118); `seen` holds the handles of the earlier slots. -/
def State.takeAnswers (s : State) (n : Nat) (a : Approach) (seen : List Nat) : List Answer → State
  | [] => s
  | answer :: rest =>
    if answer.payload.length ≠ 4 then s.takeAnswers n a seen rest
    else if answer.legacy && s.seenNum 0x2303 1 == 0 then
      (s.event Rc.legacyRefused answer.slot (leBytes 1 answer.slot)).takeAnswers n a seen rest
    else if answer.legacy && !a.legacy then s.takeAnswers n a seen rest
    else
      let h := handleOf answer a.rk
      ((s.takeHandle n answer seen h).setApproach n fun a => { a with answers := a.answers + 1 }).takeAnswers n a
        (h :: seen) rest

/-- No badge child of an approach is in flight or waits (R109, R116). -/
def State.childless (s : State) (n : Nat) : Bool :=
  (s.children n).isEmpty && !s.tilth.waiting.any fun r => r.parent == some n

/-- What follows a round whose children have all ended without a qualifying verdict (R109, R124). -/
def State.afterRound (s : State) (n : Nat) (a : Approach) : State :=
  if (a.answers = 0 ∨ 0 < a.collided) ∧ a.rounds < s.seenNum 0x2305 1 then s.startRound n
  else if a.answers = 0 then s.finish n Rc.noAnswer
  else s.finish n Rc.noQualifyingBadge

/-- An approach whose round has closed and whose children have all ended goes on or ends (R109, R116). A credential test that
a badge has passed ends with OK, an approach whose proposal was refused with what the verdict stage decided (R18, R117); one whose
proposal is still to be decided waits for that. -/
def State.settleApproach (s : State) (n : Nat) : State :=
  match (s.slot n).approach? with
  | some a =>
    if a.roundDone && s.childless n && (s.slot n).inFlight then
      match a.decided with
      | some c => s.finish n c
      | none =>
        if a.qualified.isNone then s.afterRound n a
        else if a.test then s.finish n Rc.ok
        else s
    else s
  | none => s

/-- Answers ordered by slot (R108). -/
def insertAnswer (x : Answer) : List Answer → List Answer
  | [] => [x]
  | y :: l => if x.slot ≤ y.slot then x :: y :: l else y :: insertAnswer x l

/-- A round closes (R108). -/
def State.closeRound (s : State) (n : Nat) (a : Approach) (answers : List Answer) (noise : RoundNoise) : State :=
  let valid := (answers.filter fun x => x.slot < a.slots).foldr insertAnswer []
  let t := (((valid.map (·.rx)).foldl State.heard s.leaveAir).count 0x2460 3 noise.crcFailures).await n
  ((t.takeAnswers n a [] valid).setApproach n fun a => { a with roundDone := true, collided := noise.collided }).settleApproach n

/-- ROUND_END (R107, R108): from the tick in which the last slot closes on. -/
def execRoundEnd (slot : Nat) (answers : List Answer) (noise : RoundNoise) (s : State) : Out :=
  keepLock s <|
    match (s.slot slot).approach? with
    | some a =>
      if (s.slot slot).acts && !a.roundDone && s.radio.air.any (fun x => x.slot == slot && x.close ≤ s.now) then
        s.closeRound slot a answers noise
      else s
    | none => s

/-! ## The tone order and START (R157, R158) -/

/-- The tone key (R157). -/
def toneKey (b : Badge) : Bytes :=
  if b.legacy then cmac b.ks ([0x54, 0x37] ++ b.ts ++ leBytes 4 b.handle)
  else derive .tone b.ks (b.ts ++ leBytes 4 b.handle)

/-- The 16-bit words of a byte string, little-endian (R157). -/
def words : Bytes → List Nat
  | a :: b :: l => leNat [a, b] :: words l
  | _ => []

/-- The shuffle stream as words: the blocks E(TK, 0x53 ∥ j ∥ zeros) for j of one byte (R157). -/
def shuffleWords (tk : Bytes) : List Nat :=
  words ((List.range 256).flatMap fun j => aesBlock tk ([0x53] ++ leBytes 1 j ++ zeros 14))

/-- The next word below a limit, and the words after it (R157). -/
def nextWord (limit : Nat) : List Nat → Option (Nat × List Nat)
  | [] => none
  | w :: ws => if w < limit then some (w, ws) else nextWord limit ws

/-- Two places of a list swapped. -/
def swapAt (l : List Nat) (i j : Nat) : List Nat :=
  match l[i]?, l[j]? with
  | some x, some y => (l.set i y).set j x
  | _, _ => l

/-- The procedure of R157 from place i down to 1. -/
def permute : Nat → List Nat → List Nat → List Nat
  | 0, l, _ => l
  | i + 1, l, ws =>
    match nextWord (65536 - 65536 % (i + 2)) ws with
    | some (w, rest) => permute i (swapAt l (i + 1) (w % (i + 2))) rest
    | none => l

/-- The tone order: the first 72 entries of the permutation (R157). -/
def toneOrder (tk : Bytes) : List Nat := (permute 78 (List.range 79) (shuffleWords tk)).take 72

/-- START for a CONFIRM of slot n in executed tick c (R158; log entry 52). -/
def State.chooseStart (s : State) (n c : Nat) : Nat :=
  firstFree (s.bookings n) 246 ((s.bookings n).length + 1) (c + s.seenNum 0x2502 3) - c

/-! ## Refusal, bar, acceptance (R111, R112, R115, R118) -/

/-- A badge's refusal is counted, and it is the approach's last credential (R123; log entry 55). -/
def State.noteRefusal (s : State) (n : Nat) : State :=
  let c := ((s.slot n).badge?.map (·.credId)).getD 0
  let t := s.bump 0x2312 3
  match (s.slot n).parent with
  | some p => t.setApproach p fun a => { a with lastCredential := if c = 0 then a.lastCredential else c }
  | none => t

/-- A badge is refused and its session ended (R111). -/
def State.refuseBadge (s : State) (n : Nat) (code : Code) : State := (s.noteRefusal n).finish n code

/-- BADGE_SUSPECT, with its count and EMCY (R112, R115). -/
def State.suspect (s : State) (n credId : Nat) : State := (s.bump 0x2312 4).alarm Ev.badgeSuspect n (leBytes 4 credId)

/-- A proof fails at step 6 (R111, R112): counted in the record, and the third within 600 s bars the credential; the session ends once the
record is written through (R57). -/
def State.proofFails (s : State) (n index credId : Nat) : State :=
  let r := s.failRecord (s.credential index)
  let third := decide (3 ≤ byteAt r 44)
  let t := if third then s.suspect n credId else s
  (t.noteRefusal n).beginThrough n
    { index := index, record := if third then s.barRecord r (s.seenNum 0x2307 0) else r, outcome := some Rc.authFail }

/-- Steps 2 to 4 of R111 for a record of a kind, where one is found. -/
def State.badgeRefusal (s : State) (a : Approach) (kind : Nat) (record : Bytes) : Option Code :=
  if allZero record ∨ byteAt record 4 ≠ kind ∨ byteAt record 5 ≠ 0 then some Rc.badgeUnknown
  else if !bit (field record 6 2) (if a.test then 1 else 0) || !s.inWindow record then some Rc.badgeNoRight
  else if s.barred record then some Rc.credentialBarred
  else none

/-- The CONFIRM or LCONFIRM payload (R110, R111, R118; log entry 53). -/
def State.confirmPayload (s : State) (a : Approach) (b : Badge) (start : Nat) : Bytes :=
  let plain := leBytes 2 start ++ [8, 0]
  if b.legacy then
    legacyPacket b.ks 0x15 b.handle (xorBytes b.ts (aesBlock b.ks ([0x01] ++ zeros 15)) ++ plain)
  else s.sealPacket a b.ks 0x05 b.handle 1 plain

/-- The tone key's register, and the CONFIRM's seal (R157, R273). -/
def State.toneRegister (s : State) (n : Nat) (b : Badge) (tk : Bytes) : State :=
  if b.legacy then s.allocRegister (.slot n) .tk7 tk else (s.deriveKey (.slot n) .tone tk).gcm 1

/-- A badge is confirmed: the CONFIRM's tick and START chosen, the tone order computed and the mask latched (R111, R158, R170; log entries
50 and 52). -/
def State.confirm (s : State) (n : Nat) (a : Approach) (b : Badge) : State :=
  let type := if b.legacy then 0x15 else 0x05
  let t := s.setBadge n fun _ => { b with next := .packet, sent := (type, zeros (if b.legacy then 28 else 20)) }
  let c := t.rfFree n (s.now + 2)
  let start := s.chooseStart n c
  if (s.slot n).since + s.seenNum 0x2305 4 * ticksPerMs < c + start then s.finish n Rc.timeout
  else
    let tk := toneKey b
    ((s.setBadge n fun _ =>
      { b with phase := .confirmed, retries := 0, confirmTick := c, start := start, toneMask := s.seenBytes 0x2501 0,
               toneOrder := toneOrder tk }).toneRegister n b tk).prepare n a type b.handle (s.confirmPayload a b start)

/-- A badge has passed every check (R111). -/
def State.acceptBadge (s : State) (n p : Nat) (a : Approach) (b : Badge) : State :=
  (((s.setApproach p fun a => { a with accepted := b.credId :: a.accepted }).event Ev.badgeAccepted n
    (leBytes 4 b.credId)).confirm n a b)

/-- A badge session of an approach in a phase. -/
def State.badgeIn (s : State) (n : Nat) (ok : BadgePhase → Bool) : Option (Nat × Approach × Badge) :=
  match (s.slot n).badge?, (s.slot n).parent with
  | some b, some p =>
    if (s.slot n).acts && ok b.phase then (s.slot p).approach?.map fun a => (p, a, b) else none
  | _, _ => none

/-- The phase in which a RESPONSE is due. -/
def BadgePhase.challenged? (p : BadgePhase) : Bool := p == .challenged

/-- The IDBOX part of a RESPONSE opened under RK (R110). -/
def State.openIdBox (s : State) (a : Approach) (b : Badge) (payload : Bytes) : Option Bytes :=
  gcmOpen a.rk (badgeIv 2 0x04 b.handle 0) (packetHeader 0x04 48 b.handle ++ s.syncWord a) (payload.take 32)

/-- The PROOF part of a RESPONSE holds under KS (R110). -/
def State.proofHolds (s : State) (a : Approach) (b : Badge) (payload : Bytes) : Bool :=
  payload.drop 32 == gcmTag b.ks (badgeIv 2 0x04 b.handle 0)
    (packetHeader 0x04 48 b.handle ++ s.syncWord a ++ b.challenge ++ payload.take 32) []

/-- Steps 2 to 6 of R111 for a BLB-200 badge whose IDBOX opened. -/
def State.checkResponse (s : State) (n p : Nat) (a : Approach) (b : Badge) (payload : Bytes) : State :=
  match findCredential s.seen.credentials b.credId with
  | none => s.refuseBadge n Rc.badgeUnknown
  | some i =>
    let t := (s.lookupNow n i).setBadge n fun b => { b with credIndex := some i }
    match t.badgeRefusal a 1 (t.record i) with
    | some c => t.refuseBadge n c
    | none =>
      if !(t.slot n).inFlight then t
      else if b.credId ∈ a.accepted then t.refuseBadge n Rc.duplicateBadge
      else
        let u := (t.deriveKey (.slot n) .sess b.ks).gcm 1
        if s.proofHolds a b payload then u.acceptBadge n p a { b with credIndex := some i }
        else u.tagFailed.proofFails n i b.credId

/-- A RESPONSE of the right length is checked (R111). -/
def State.response (s : State) (n p : Nat) (a : Approach) (b : Badge) (payload : Bytes) : State :=
  match s.openIdBox a b payload with
  | none => (s.gcmOpened 16).tagFailed.refuseBadge n Rc.authFail
  | some idBox =>
    let credId := field idBox 0 4
    let bn := idBox.drop 4
    let kb := derive .badge s.ownerRoot (leBytes 4 credId)
    let ks := derive .sess kb (a.rn ++ leBytes 4 b.handle ++ b.cc ++ bn)
    let b := { b with credId := credId, bn := bn, ks := ks }
    (((s.gcmOpened 16).setBadge n fun _ => b).deriveKey (.slot n) .badge kb).checkResponse n p a b payload

/-- A reply with a LEN to the packet that slot n has sent ends in this tick, within 5 µs of its expected time (R105). -/
def State.replyDue (s : State) (n len : Nat) : Bool :=
  match s.radio.air, (s.slot n).badge? with
  | some a, some b =>
    match replyOf b.sent.1 0 with
    | some (delay, _) =>
      let e := replyEndUs b.sent.2.length delay len
      a.slot == n && a.reply && a.from_ + (e - 5) / 25 ≤ s.now && s.now ≤ a.from_ + (e + 5) / 25
    | none => false
  | _, _ => false

/-- A badge that has answered: the port and the gain that its RESPONSE was received with (R132, R159). -/
def State.answered (s : State) (b : Badge) (rx : Reception) : Badge :=
  { b with port := s.choosePort rx, sweepPort := s.choosePort rx, gain := rx.gain }

/-- BADGE_RESPONSE (R111). A RESPONSE of another length, or at another time, does not fit the exchange and counts as missing (R105). -/
def execBadgeResponse (slot : Nat) (rx : Reception) (payload : Bytes) (s : State) : Out :=
  keepLock s <|
    match s.badgeIn slot BadgePhase.challenged? with
    | some (p, a, b) =>
      if b.legacy || payload.length ≠ 48 || !s.replyDue slot 48 then s
      else (s.leaveAir.heard rx).response slot p a (s.answered b rx) payload
    | none => s

/-- The MAC of an LRESPONSE (R118). -/
def State.legacyProof (s : State) (a : Approach) (b : Badge) (kb7 cnt : Bytes) : Bytes :=
  cmac kb7 ([0x4C, 0x37] ++ leBytes 2 (s.seenNum 0x2300 2) ++ a.rn ++ b.cc ++ cnt ++ packetHeader 0x14 20 b.handle)

/-- A forerunner badge has passed its checks: the new count is written through before it is accepted (R57, R118). -/
def State.acceptLegacy (s : State) (n i : Nat) (b : Badge) (cnt : Bytes) : State :=
  (s.setBadge n fun _ => { b with phase := .counted }).beginThrough n
    { index := i, record := setField (s.credential i) 28 cnt, outcome := none }

/-- An LRESPONSE is checked: the MAC in place of both tags, and the count between steps 4 and 5 (R118; log entry 54). -/
def State.legacyResponse (s : State) (n : Nat) (a : Approach) (b : Badge) (payload : Bytes) : State :=
  let cnt := payload.take 4
  let kb7 := derive .badge7100 s.ownerRoot (leBytes 4 b.handle)
  let b := { b with ks := cmac kb7 ([0x53, 0x37] ++ a.rn ++ b.cc ++ cnt) }
  let t := ((s.setBadge n fun _ => b).deriveKey (.slot n) .badge7100 kb7).allocRegister (.slot n) .ks7 b.ks
  if payload.drop 4 ≠ s.legacyProof a b kb7 cnt then t.tagFailed.refuseBadge n Rc.authFail
  else
    match findCredential s.seen.credentials b.credId with
    | none => t.refuseBadge n Rc.badgeUnknown
    | some i =>
      let u := (t.lookupNow n i).setBadge n fun b => { b with credIndex := some i }
      match u.badgeRefusal a 2 (u.record i) with
      | some c => u.refuseBadge n c
      | none =>
        if !(u.slot n).inFlight then u
        else if leNat cnt ≤ field (u.record i) 28 4 then u.refuseBadge n Rc.counterReplay
        else if b.credId ∈ a.accepted then u.refuseBadge n Rc.duplicateBadge
        else u.acceptLegacy n i { b with credIndex := some i } cnt

/-- LRESPONSE (R118). -/
def execLresponse (slot : Nat) (rx : Reception) (payload : Bytes) (s : State) : Out :=
  keepLock s <|
    match s.badgeIn slot BadgePhase.challenged? with
    | some (_, a, b) =>
      if !b.legacy || payload.length ≠ 20 || !s.replyDue slot 20 then s
      else (s.leaveAir.heard rx).legacyResponse slot a (s.answered b rx) payload
    | none => s

/-! ## Vectors (R113, R114) -/

/-- A confirmed badge whose probes are done goes on: a POLL at least 4 ticks after the vector operation's end, or, where it failed,
straight to fusion (R114, R165; log entry 53). -/
def State.advanceBadge (s : State) (n : Nat) : State :=
  match s.badgeIn n (· == .confirmed) with
  | none => s
  | some (_, a, b) =>
    if b.probes.isNone then s
    else
      match a.vectors with
      | .done _ ended =>
        let type := if b.legacy then 0x16 else 0x06
        let payload := if b.legacy then legacyPacket b.ks 0x16 b.handle [] else s.sealPacket a b.ks 0x06 b.handle 2 []
        let t := ((s.gcm (if b.legacy then 0 else 1)).setBadge n fun b => { b with phase := .polled, retries := 0 }).prepare n a type b.handle payload
        t.nameRf n (max (s.now + 1) (s.executedAt ((ended + 4) % tickModulus)))
      | .failed => (s.setBadge n fun b => { b with phase := .reported, next := .fusion }).makeReadyOutside n .rf none
      | _ => s

/-- The K vectors of a VREPORT (R114). -/
def reportVectors : Nat → Bytes → List (Int × Int × Int)
  | 0, _ => []
  | k + 1, b => (leInt (slice b 0 2), leInt (slice b 2 2), leInt (slice b 4 2)) :: reportVectors k (b.drop 6)

/-- The plaintext of a VREPORT or LVREPORT; none where its tag or MAC fails (R110, R118). -/
def State.openReport (s : State) (a : Approach) (b : Badge) (payload : Bytes) : Option Bytes :=
  if b.legacy then
    let body := payload.take (payload.length - 8)
    if payload = legacyPacket b.ks 0x17 b.handle body then some body else none
  else
    gcmOpen b.ks (badgeIv 2 0x07 b.handle 1) (packetHeader 0x07 payload.length b.handle ++ s.syncWord a) payload

/-- A LEN that some VREPORT or LVREPORT has (R105, R114). -/
def reportLen (legacy : Bool) (len : Nat) : Bool := (List.range 9).any fun k => len == 2 + 6 * k + (if legacy then 8 else 16)

/-- An opened VREPORT with the VECTOR frame's K is kept for fusion; another K fails the badge, and a LEN that does not fit its own K does
not fit the exchange (R105, R114; log entry 148). -/
def State.takeReport (s t : State) (n : Nat) (a : Approach) (body : Bytes) : State :=
  let k := byteAt body 0
  if k ≠ a.order.length then t.refuseBadge n Rc.authFail
  else if body.length ≠ 2 + 6 * k then s
  else
    (t.setBadge n fun b =>
      { b with phase := .reported, next := .fusion
               report := some { k := k, sat := byteAt body 1, vectors := reportVectors k (body.drop 2) } }).makeReady n .rf none

/-- VREPORT (R58, R114, R132). -/
def execVreport (slot : Nat) (report : ReportPacket) (s : State) : Out :=
  keepLock s <|
    let payload := report.payload
    match s.badgeIn slot (· == .polled) with
    | some (_, a, b) =>
      if !reportLen b.legacy payload.length || !s.replyDue slot payload.length then s
      else if s.changed slot then s.leaveAir.finish slot Rc.credentialChanged
      else
        let h := (s.leaveAir.heard report.rx).setBadge slot fun b => { b with port := s.choosePort report.rx }
        let t := if b.legacy then h else h.gcmOpened (payload.length - 16)
        match s.openReport a b payload with
        | some body => s.takeReport t slot a body
        | none => t.tagFailed.refuseBadge slot Rc.authFail
    | none => s

/-! ## Missing replies and limits (R119) -/

/-- A reply of a badge is awaited. -/
def BadgePhase.awaits (p : BadgePhase) : Bool := p == .challenged || p == .polled

/-- A badge session sends its packet again at the earliest tick at least 4 ticks on while RF is free, or ends with TIMEOUT once the retries
are used (R119). -/
def State.retryBadge (s : State) (n : Nat) (b : Badge) : State :=
  if b.retries < s.seenNum 0x2305 2 then
    ((s.setBadge n fun b => { b with retries := b.retries + 1 }).setSlot n fun sl => { sl with deferred := 0 }).nameRf n (s.now + 4)
  else s.finish n Rc.timeout

/-- A step of the approach itself is tried again, or ends the approach with TIMEOUT (R119; log entry 56). -/
def State.retryApproach (s : State) (n : Nat) (a : Approach) (engine : Engine) : State :=
  if a.retries < s.seenNum 0x2305 2 then
    let t := (s.setApproach n fun a => { a with retries := a.retries + 1 }).setSlot n fun sl => { sl with deferred := 0 }
    if engine = .rf then t.nameRf n (s.now + 4) else t.makeReady n engine (some (s.tickIn 4))
  else s.finish n Rc.timeout

/-- A class 1 step that was not sent or not dispatched is retried as for a missing reply (R49, R119, R138, R147); a sweep or fusion has no
retry: a sweep that does not begin in its tick ends its session with TIMEOUT (R158; log entry 149). -/
def State.retryStep (s : State) (n : Nat) : State :=
  match (s.slot n).work with
  | .badge b => if b.next = .packet then s.retryBadge n b else s.finish n Rc.timeout
  | .approach a => s.retryApproach n a ((s.slot n).engine.getD .rf)
  | _ => s

/-- BADGE_REPLY_MISSING (R119): from the close of the reply window on. -/
def execBadgeReplyMissing (missed : MissedReply) (s : State) : Out :=
  keepLock s <|
    match s.badgeIn missed.slot BadgePhase.awaits with
    | some (_, _, b) =>
      if s.radio.air.any fun a => a.slot == missed.slot && a.reply && a.close ≤ s.now then
        (s.leaveAir.count 0x2460 3 (if missed.crcFailed then 1 else 0)).retryBadge missed.slot b
      else s
    | none => s

/-- A slot's session has lasted a number of milliseconds (R119). -/
def State.lasted (s : State) (n ms : Nat) : Bool := ms * ticksPerMs ≤ s.now - (s.slot n).since

/-- BADGE_SESSION_TIMEOUT (R119). -/
def execBadgeSessionTimeout (slot : Nat) (s : State) : Out :=
  keepLock s <|
    if (s.slot slot).kind = some .badge ∧ s.lasted slot (s.seenNum 0x2305 4) then s.finish slot Rc.timeout else s

/-- APPROACH_TIMEOUT (R119). -/
def execApproachTimeout (slot : Nat) (s : State) : Out :=
  keepLock s <|
    if (s.slot slot).kind = some .approach ∧ s.lasted slot (s.seenNum 0x2305 3) then s.finish slot Rc.approachTimeout else s

/-! ## OUTCOME (R116) -/

/-- The badge session prepares OUTCOME with a code; once it is sent the session ends with a result, after an accepted outcome with the
credential's use written through (R57, R116, R118, R122). -/
def State.sendOutcome (s : State) (n : Nat) (a : Approach) (b : Badge) (code : Byte) (result : Code) (uses : Bool) : State :=
  let payload := if b.legacy then legacyPacket b.ks 0x18 b.handle [code] else s.sealPacket a b.ks 0x08 b.handle 3 [code]
  ((s.gcm (if b.legacy then 0 else 1)).setBadge n fun b => { b with phase := .outcome result uses }).prepare n a
    (if b.legacy then 0x18 else 0x08) b.handle payload

/-- A badge session whose OUTCOME has been sent ends: with the use of its credential written through first (R57, R116, R122). -/
def State.afterOutcome (s : State) (n : Nat) (b : Badge) (result : Code) (uses : Bool) : State :=
  match uses, b.credIndex with
  | true, some i => s.beginThrough n { index := i, record := s.usedRecord (s.credential i), outcome := some result }
  | _, _ => s.finish n result

/-- A packet without a reply has left the air: the sweep follows a CONFIRM in the tick START says, the end of the session an OUTCOME (R116,
R158). -/
def State.packetDone (s : State) (n : Nat) : State :=
  match (s.slot n).badge? with
  | some b =>
    match b.phase with
    | .confirmed =>
      (s.setBadge n fun b => { b with next := .sweep }).makeReady n .rf (some (s.tickIn (b.confirmTick + b.start - s.now)))
    | .outcome result uses => s.afterOutcome n b result uses
    | _ => s.await n
  | none => s.await n

end Sys2Proof.Machine
end

