-- ==== Sys2Proof/Machine/Radio.lean ====
section
/-! DEFINITION. The 2.4 GHz transceiver (chapter 05): synthesiser and background calibrations, deferral, coexistence, raw
commands. -/

namespace Sys2Proof.Machine

/-! ## Radio state (R135, R151) -/

/-- An APPROACH or BADGE session is in flight (R135). -/
def State.radioSessions (s : State) : Bool := !(s.ofKind .approach).isEmpty || !(s.ofKind .badge).isEmpty

/-- The radio is in use (R135). -/
def State.radioInUse (s : State) : Bool := s.radioSessions || s.radio.raw.isSome

/-- The radio admission gate is closed: overdue calibration, FAILED, or an active raw command (R43, R135, R137, R149). -/
def State.gateShut (s : State) : Bool := s.radio.gateClosed || s.radio.failed || s.radio.raw.isSome

/-- The code of an active raw command's state (R151). -/
def RawCommand.state : RawCommand → Nat
  | .txCw => 0x04 | .txPrbs => 0x05 | .txPacket => 0x06 | .rx => 0x07 | .scan => 0x08 | .capture => 0x09

/-- A background calibration is in progress (R144). -/
def State.bgRuns (s : State) : Bool := s.now < s.radio.bgUntil

/-- The radio state at 0x2400:01 (R151). -/
def State.radioState (s : State) : Nat :=
  if !s.isOn .rfx then 0x00
  else if s.radio.synth.running then 0x0A
  else if s.bgRuns then 0x0B
  else if s.radio.failed then 0x0C
  else
    match s.radio.raw with
    | some c => if s.radio.settling then 0x02 else c.state
    | none => if s.radioSessions then 0x03 else 0x01

/-- The calibration status at 0x2421:04 (R135, R137). -/
def State.synthStatus (s : State) : Nat :=
  if s.radio.synth.running then 3
  else if s.radio.failed then 4
  else if s.radio.synth.overdue then 2
  else if s.radio.synth.due.isSome then 1
  else 0

/-- The code of a filter state (R148, R415). -/
def Mask.code : Mask → Nat
  | .armed => 0 | .stuck => 1 | .rate => 2

/-- The synthesiser calibration changed. -/
def State.setSynth (s : State) (f : SynthCal → SynthCal) : State :=
  { s with radio := { s.radio with synth := f s.radio.synth } }

/-! ## Synthesiser calibration (R134 to R137) -/

/-- A calibration begins. -/
def State.beginSynthCal (s : State) : State := s.setSynth fun c => { c with running := true, lastTry := s.tick }

/-- An RF operation of a session is in progress: on the air, or in its receive window (R47, R136). -/
def State.rfBusy (s : State) : Bool :=
  s.radio.air.isSome || s.tilth.slots.any fun sl => sl.state == .waitingEngine && sl.engine == some .rf

/-- The calibration may begin at once: RFX on, no RF operation, no raw command, no calibration in progress (R136, R151). -/
def State.synthFree (s : State) : Bool :=
  s.isOn .rfx && !s.radio.synth.running && !s.rfBusy && s.radio.raw.isNone && !s.bgRuns

/-- A write to 0x2420:00 by its own rule (R136, R151); a postponed calibration counts as pending (log entry 150). -/
def ownSynthCalibrate (value : Bytes) : Own := fun s =>
  if leNat value = 0 then (s, Rc.valueRange)
  else if s.radio.synth.running ∨ s.radio.synth.commanded ∨ s.radio.synth.due.isSome then (s, Rc.ok)
  else
    let t := s.setSynth fun c => { c with commanded := true }
    (if t.synthFree && !t.radioSessions then t.beginSynthCal else t, Rc.ok)

/-- SYNTH_CALIBRATE (R136). -/
def execSynthCalibrate (via : Via) (value : Bytes) (s : State) : Out :=
  keepLock s (s.hostWrite via 0x2420 0 value (ownSynthCalibrate value))

/-- The die temperature has moved more than 10 °C since the last calibration (R134). -/
def State.synthMoved (s : State) (tempDeci : Int) : Bool := 100 < (tempDeci - s.radio.synth.temp).natAbs

/-- A temperature-triggered calibration: postponed while the radio is in use, else begun (R134, R135). -/
def State.synthDue (s : State) : State :=
  if s.radio.synth.due.isSome || s.radio.synth.running || s.radio.synth.commanded || s.radio.failed then s
  else if s.radioInUse then
    ((s.setSynth fun c => { c with due := some s.tick }).putNum 0x2421 5 s.tick).event Ev.rfSynthCalPostponed 0
      (leBytes 6 s.tick)
  else s.beginSynthCal

/-- A reading of the die temperature: within −55 °C to 160 °C the temperature detector's condition has ended (R436, R438; log entry 130).
-/
def State.dieReads (s : State) (tempDeci : Int) : State :=
  { s with
    power := { s.power with die := tempDeci }
    hardpan := { s.hardpan with temperature := s.hardpan.temperature && !(-550 ≤ tempDeci && tempDeci ≤ 1600) } }

/-- A reading of the die temperature for the radio (R134). -/
def State.radioTemp (s : State) (tempDeci : Int) : State :=
  let t := (s.dieReads tempDeci).putInt 0x2400 3 tempDeci
  if t.synthMoved tempDeci then t.synthDue else t

/-- RF_TEMPERATURE_CHECK (R134). -/
def execRfTemperatureCheck (tempDeci : Int) (s : State) : Out :=
  keepLock s (if s.running && s.isOn .rfx then s.radioTemp tempDeci else s)

/-- SYNTH_CAL_START (R135, R136): a postponed calibration in the first tick whose head sees the radio not in use, a commanded one once no RF
operation is in progress. -/
def execSynthCalStart (s : State) : Out :=
  keepLock s <|
    if s.synthFree && (s.radio.synth.commanded || (s.radio.synth.due.isSome && !s.asSeen.radioInUse && !s.radioInUse)) then s.beginSynthCal
    else s

/-- RF_SYNTH_CAL_OVERDUE (R135). -/
def execRfSynthCalOverdue (s : State) : Out :=
  keepLock s <|
    match s.radio.synth.due with
    | some t =>
      if s.radioInUse && !s.radio.synth.overdue && 20000 ≤ s.sinceTick t then
        ({ s with radio := { s.radio with synth := { s.radio.synth with overdue := true }, gateClosed := true } }).event
          Ev.rfSynthCalOverdue 0 (leBytes 6 t)
      else s
    | none => s

/-- A calibration that succeeded (R134, R135, R137): the band table with every sub-band's code and gain. -/
def State.synthOk (s : State) (bands : List (Nat × Nat)) (tempDeci : Int) : State :=
  let t := { s with radio :=
      { s.radio with failed := false, gateClosed := false, bands := bands
                     synth := { s.radio.synth with temp := tempDeci } } }
  (((t.putCode 0x2421 1 Rc.ok).putNum 0x2421 2 s.tick).putNum 0x2404 2 (s.num 0x2404 2 ||| 16)).event Ev.rfSynthCalibrated 0
    (intBytes 2 tempDeci)

/-- A calibration that failed: the previous band table stays in use (R137). -/
def State.synthFail (s : State) : State :=
  (({ s with radio := { s.radio with failed := true } }).putCode 0x2421 1 Rc.rfCalFail).raise 0xFF05 Rc.rfCalFail 0

/-- SYNTH_CAL_END (R133, R135, R137): 180 µs after the start, which is 7 ticks on; a sub-band in which no code locks fails it. -/
def execSynthCalEnd (subBands : List (Option (Nat × Nat))) (tempDeci : Int) (s : State) : Out :=
  keepLock s <|
    if s.radio.synth.running && 7 ≤ s.sinceTick s.radio.synth.lastTry then
      let t := (s.setSynth fun c => { c with running := false, commanded := false, due := none, overdue := false }).putNum 0x2421 5 0
      if subBands.length = 16 ∧ subBands.all (·.isSome) then t.synthOk (subBands.filterMap id) tempDeci else t.synthFail
    else s

/-- RF_CAL_RETRY (R137). -/
def execRfCalRetry (s : State) : Out :=
  keepLock s <|
    if s.radio.failed && s.isOn .rfx && !s.radio.synth.running
        && 10 * ticksPerSecond ≤ s.sinceTick s.radio.synth.lastTry then s.beginSynthCal
    else s

/-! ## Deferral (R138) -/

/-- A slot has an RF step that names this tick. -/
def State.transmits (s : State) (n : Nat) : Bool :=
  (s.slot n).acts && (s.slot n).engine == some .rf && (s.slot n).state == .ready && (s.slot n).named == some s.tick

/-- The step is a tone sweep, whose tick is fixed by the CONFIRM (R158). -/
def Slot.sweepsNext (sl : Slot) : Bool := sl.badge?.any fun b => b.next == .sweep

/-- A transmission without lock in its tick: deferred to the next one, or after 8 deferred ticks failed as for a missing reply (R138). A
sweep is not deferred: it ends its session with RF_LOCK_FAIL (R166). -/
def State.noLock (s : State) (n : Nat) : State :=
  if (s.slot n).sweepsNext then s.finish n Rc.rfLockFail
  else if (s.slot n).deferred < 8 then
    (((s.setSlot n fun sl => { sl with deferred := sl.deferred + 1 }).bump 0x2460 4).event Ev.rfTxDeferred n []).makeReady n .rf
      (some (s.tickIn 1))
  else (s.setSlot n fun sl => { sl with deferred := 0 }).retryStep n

/-- RF_TX_DEFERRED (R138): to the first later tick. -/
def execRfTxDeferred (slot : Nat) (s : State) : Out :=
  keepLock s (if s.transmits slot && !(s.slot slot).sweepsNext && (s.slot slot).deferred < 8 then s.noLock slot else s)

/-- RF_LOCK_FAIL (R138, R166): treated as a missing reply; on the hop into a sweep the session ends with it. -/
def execRfLockFail (slot : Nat) (s : State) : Out :=
  keepLock s (if s.transmits slot && ((s.slot slot).sweepsNext || 8 ≤ (s.slot slot).deferred) then s.noLock slot else s)

/-! ## Background calibrations (R144, R145) -/

/-- A calibration's place in the table Background calibrations. -/
def bgPlace : BgCal → Nat
  | .dcOffset => 0 | .iqImage => 1 | .rssiOffset => 2 | .paDetector => 3

/-- The calibrations in table order (R144). -/
def bgOrder : List BgCal := [.dcOffset, .iqImage, .rssiOffset, .paDetector]

/-- The sub-index of a calibration's period at 0x2422 (R144). -/
def bgPeriodSub : BgCal → Nat
  | .dcOffset => 1 | .iqImage => 2 | .rssiOffset => 4 | .paDetector => 3

/-- The bit of a calibration's values at 0x2404:02 (R152). -/
def bgValidBit : BgCal → Nat
  | .dcOffset => 0 | .iqImage => 1 | .rssiOffset => 2 | .paDetector => 3

/-- A background calibration's record. -/
def State.bg (s : State) (b : BgCal) : BgState := (s.radio.bg[(bgPlace b)]?).getD BgState.reset

/-- A background calibration is due (R144). -/
def State.bgDue (s : State) (b : BgCal) (tempDeci : Int) : Bool :=
  (s.bg b).forced || s.seenNum 0x2422 (bgPeriodSub b) * ticksPerSecond ≤ s.sinceTick (s.bg b).lastRun
    || ((b == .iqImage || b == .paDetector) && s.seenNum 0x2422 5 * 10 < (tempDeci - (s.bg b).lastTemp).natAbs)

/-- Ticks a calibration takes, begun 3 µs into its tick (R144). -/
def bgTicks : BgCal → Nat
  | .dcOffset => 2 | .iqImage => 5 | .rssiOffset => 2 | .paDetector => 4

/-- No RF step is named within the next 160 µs (R145). -/
def State.rfQuiet (s : State) : Bool :=
  !s.tilth.slots.any fun sl => sl.acts && sl.engine == some .rf && sl.named.any fun t => s.executedAt t < s.now + 8

/-- The gap of R145: no session and no raw command, as the head of the tick sees it, the radio silent for 40 µs, nothing named for the
next 160 µs. -/
def State.bgGap (s : State) : Bool :=
  s.isOn .rfx && !s.asSeen.radioInUse && !s.radioInUse && s.radio.air.isNone && !s.radio.synth.running && !s.bgRuns
    && 2 ≤ s.sinceTick s.radio.lastAir && s.rfQuiet

/-- The values a background calibration found are kept (R128, R141, R152). -/
def State.bgKeep (s : State) (b : BgCal) (f : BgFound) : State :=
  let u := s.putNum 0x2404 2 (s.num 0x2404 2 ||| 2 ^ bgValidBit b)
  match b with
  | .iqImage => { u.putNum 0x2404 1 (min 80 f.imageDb) with radio := { u.radio with iqGain := f.gain, iqPhase := f.phase } }
  | .paDetector => { u with radio := { u.radio with paOffset := f.paOffset } }
  | _ => u

/-- A background calibration runs: it ends the gap it runs in, so that the next one that is due waits for another (R144, R145; log entry
59). -/
def State.bgRun (s : State) (b : BgCal) (passed : Bool) (tempDeci : Int) (f : BgFound) : State :=
  let t := ({ s with radio :=
    { s.radio with
      bg := s.radio.bg.modify (bgPlace b) fun _ => { lastRun := s.tick, lastTemp := tempDeci, forced := false }
      bgUntil := s.now + bgTicks b
      lastAir := s.tickIn (bgTicks b) } }).bump 0x2423 0
  if passed then t.bgKeep b f else t.event Ev.rfBgCalFail (bgPlace b) []

/-- BACKGROUND_CAL (R145): the first one due in table order (log entry 59). -/
def execBackgroundCal (which : BgCal) (passed : Bool) (tempDeci : Int) (found : BgFound) (s : State) : Out :=
  keepLock s <|
    if s.bgGap && (bgOrder.find? fun b => s.bgDue b tempDeci) == some which then s.bgRun which passed tempDeci found else s

/-! ## Coexistence (R146 to R148) -/

/-- CXGNT is heeded: coexistence enabled and the wire not masked (R146, R148). -/
def State.cxHeeded (s : State) : Bool := s.seenNum 0x2430 1 != 0 && s.radio.cxMask == .armed

/-- CXGNT grants the medium, by its polarity (R146). -/
def State.cxGrants (s : State) (level : Bool) : Bool := level != bit (s.seenNum 0x2430 3) 2

/-- A raw command ends with a result (R149; log entry 60). -/
def State.endRaw (s : State) (result : Code) : State :=
  ({ s.airNow with radio := { s.airNow.radio with raw := none, settling := false, rawStop := false } }).putCode 0x2451 1 result

/-- A raw command that transmits. -/
def RawCommand.sends : RawCommand → Bool
  | .txCw | .txPrbs | .txPacket => true
  | _ => false

/-- The RF operation on the air loses its grant: a sweep or its probes end the session, a packet ends as a missing reply, a reception goes
on and is counted (R147, R166). -/
def State.loseAir (s : State) (a : Air) : State :=
  if !a.needsGrant then s
  else
    match a.kind with
    | .packet => if s.now ≤ a.txEnd then s.leaveAir.retryStep a.slot else s.bump 0x2460 5
    | _ => s.leaveAir.finish a.slot Rc.rfCoexDenied

/-- What is on the air when the grant is withdrawn (R147): a raw transmission ends with RF_COEX_DENIED; where nothing is, nothing does. -/
def State.loseGrant (s : State) : State :=
  match s.radio.raw, s.radio.air with
  | some c, _ => if s.radio.settling then s else if c.sends then s.endRaw Rc.rfCoexDenied else s.bump 0x2460 5
  | none, some a => s.loseAir a
  | none, none => s

/-- The withdrawals of the last second, this one included (R148). -/
def State.recentDrops (s : State) : List Tick :=
  s.tick :: s.radio.cxDrops.filter fun t => s.sinceTick t < ticksPerSecond

/-- Eight withdrawals within 1 s mask the wire (R148). -/
def State.maskRate (s : State) : State :=
  if 8 ≤ s.recentDrops.length then
    ({ s with radio := { s.radio with cxMask := .rate, cxMaskedAt := s.tick, cxDrops := [], cxHeld := none } }).event Ev.rfCoexRate 0 []
  else { s with radio := { s.radio with cxDrops := s.recentDrops, cxHeld := some s.tick } }

/-- CXGNT_WITHDRAWN (R147, R148). -/
def execCxgntWithdrawn (s : State) : Out := keepLock s (if s.cxHeeded then s.loseGrant.maskRate else s)

/-- RF_COEX_STUCK (R148). -/
def execRfCoexStuck (s : State) : Out :=
  keepLock s <|
    match s.radio.cxHeld with
    | some t =>
      if s.cxHeeded && 2 * ticksPerSecond < s.sinceTick t then
        ({ s with radio := { s.radio with cxMask := .stuck, cxMaskedAt := s.tick } }).alarm Ev.rfCoexStuck 0 []
      else s
    | none => s

/-- A mask ends: for stuck when the wire is seen inactive, which the event reports; for rate after 10 s (R148, R415). -/
def maskEnds (m : Mask) (since : Nat) : Bool :=
  match m with
  | .armed => false
  | .stuck => true
  | .rate => 10 * ticksPerSecond ≤ since

/-- RF_COEX_REARMED (R148). -/
def execRfCoexRearmed (s : State) : Out :=
  keepLock s <|
    if maskEnds s.radio.cxMask (s.sinceTick s.radio.cxMaskedAt) then
      ({ s with radio := { s.radio with cxMask := .armed, cxHeld := none } }).event Ev.rfCoexRearmed 0 []
    else s

/-! ## Raw commands (R149 to R151) -/

/-- The modes that accept raw commands (R149). -/
def rawAllowed (m : Mode) : Bool :=
  m == .factory || m == .blank || m == .enrol || m == .depot || m == .repurpose

/-- The executed tick in which the packet on the air or the current dwell of a raw command ends (R149, R151). -/
def State.rawPieceEnds (s : State) (pieceUs airUs : Nat) : Nat :=
  let el := (s.now - s.radio.rawStart) * 25
  let into := el % max 1 pieceUs
  if airUs ≤ into then s.now else s.now + (airUs - into + 24) / 25

/-- The air time of one raw packet in µs at its rate (R104, R126). -/
def State.rawPacketUs (s : State) : Nat :=
  let us := packetUs (s.seenBytes 0x2450 7).length
  match s.seenNum 0x2450 3 with
  | 0 => us * 4
  | 2 => us / 2
  | _ => us

/-- STOP meets the active raw command: TX_PACKET goes on to the end of the packet on the air, SCAN to that of the current dwell, every other
one ends at once (R151; log entry 60). -/
def State.stopRaw (s : State) (c : RawCommand) : State :=
  let until_ := fun k => { s with radio := { s.radio with rawStop := true, rawUntil := k } }
  if s.radio.settling then s.endRaw Rc.ok
  else
    match c with
    | .txPacket => until_ (s.rawPieceEnds (s.seenNum 0x2450 9) s.rawPacketUs)
    | .scan => until_ (s.rawPieceEnds (s.seenNum 0x2450 0x0B) (s.seenNum 0x2450 0x0B))
    | _ => s.endRaw Rc.ok

/-- STOP (R151; log entry 60). -/
def ownRawStop : Own := fun s =>
  if !rawAllowed s.mode then (s.putCode 0x2451 1 Rc.modeForbids, Rc.modeForbids)
  else
    match s.radio.raw with
    | some c => (s.stopRaw c, Rc.ok)
    | none => (s.putCode 0x2451 1 Rc.ok, Rc.ok)

/-- A new raw command meets the radio's state (R149 to R151; log entry 61). -/
def State.rawRefused (s : State) : Option Code :=
  if !rawAllowed s.mode then some Rc.modeForbids
  else if s.radio.failed then some Rc.rfCalFail
  else if s.radioSessions || s.radio.gateClosed || s.radio.synth.running || s.bgRuns || (s.radio.raw.isSome && !s.radio.settling) then
    some Rc.busy
  else none

/-- A raw command with an activity on the air (R149; log entry 61). A refused one is no outcome of the command that runs: it reads at
0x2451:01 only where none is (log entry 151). -/
def ownRaw (c : RawCommand) : Own := fun s =>
  match s.rawRefused with
  | some code => (if s.radio.raw.isSome then s else s.putCode 0x2451 1 code, code)
  | none =>
    ((({ s with radio := { s.radio with raw := some c, rawFrom := s.tick, settling := true, rawStop := false } }).firstAccess .rfx 0).putCode
      0x2451 1 Rc.pending, Rc.ok)

/-- RAW_STOP (R151). -/
def execRawStop (via : Via) (s : State) : Out := keepLock s (s.hostWrite via 0x2450 1 [0x00] ownRawStop)

/-- RAW_TX_CW (R149). -/
def execRawTxCw (via : Via) (s : State) : Out := keepLock s (s.hostWrite via 0x2450 1 [0x01] (ownRaw .txCw))

/-- RAW_TX_PRBS (R149). -/
def execRawTxPrbs (via : Via) (s : State) : Out := keepLock s (s.hostWrite via 0x2450 1 [0x02] (ownRaw .txPrbs))

/-- RAW_TX_PACKET (R149). -/
def execRawTxPacket (via : Via) (s : State) : Out := keepLock s (s.hostWrite via 0x2450 1 [0x03] (ownRaw .txPacket))

/-- RAW_RX (R149). -/
def execRawRx (via : Via) (s : State) : Out := keepLock s (s.hostWrite via 0x2450 1 [0x04] (ownRaw .rx))

/-- RAW_SCAN (R149). -/
def execRawScan (via : Via) (s : State) : Out := keepLock s (s.hostWrite via 0x2450 1 [0x05] (ownRaw .scan))

/-- RAW_CAPTURE (R149). -/
def execRawCapture (via : Via) (s : State) : Out := keepLock s (s.hostWrite via 0x2450 1 [0x06] (ownRaw .capture))

/-- What a raw command leaves at its end (R130, R149). -/
def State.rawResult (s : State) (c : RawCommand) (o : RawEnd) : State :=
  match c, o with
  | .rx, .received packets crcFailures last rssi =>
    let t := (((s.endRaw Rc.ok).putNum 0x2451 3 (counterAfter 0x245103 2 0 packets)).putNum 0x2451 4 (counterAfter 0x245104 2 0 crcFailures)).put
      0x2451 5 (last.take 255)
    let u := (t.count 0x2460 2 packets).count 0x2460 3 crcFailures
    if packets = 0 then u else u.putInt 0x2440 1 (clampRssi rssi)
  | .scan, .scanned rssi => (s.endRaw Rc.ok).put 0x2452 0 (padTo 79 rssi)
  | .capture, .captured samples => (s.endRaw Rc.ok).put 0x2441 0 (padTo 4096 samples)
  | .txPacket, .done => (s.endRaw Rc.ok).count 0x2460 1 s.radio.rawPackets
  | .txCw, .done => s.endRaw Rc.ok
  | .txPrbs, .done => s.endRaw Rc.ok
  | _, _ => s

/-- RAW_COMMAND_END (R149, R150): without lock in the tick after its start, else once its duration, its packets, its dwells or its samples
are through. -/
def execRawCommandEnd (outcome : RawEnd) (s : State) : Out :=
  keepLock s <|
    match s.radio.raw with
    | some c =>
      if s.radio.settling || s.radio.rawStop then s
      else if outcome = .noLock then (if s.now = s.radio.rawStart + 1 then s.endRaw Rc.rfLockFail else s)
      else if s.radio.rawUntil ≤ s.now then s.rawResult c outcome
      else s
    | none => s

/-! ## Power (R141 to R143, R419, R420, R436; log entry 10) -/

/-- Three times the charged power in µW at a power in steps of 0.5 dBm: 0.10 W to 0 dBm, 0.14 W at +8, 0.30 W at +14, linear in
dB between (R419). -/
def rfPower3 (halfDb : Int) : Nat :=
  if halfDb ≤ 0 then 300000
  else if halfDb ≤ 16 then 300000 + 7500 * halfDb.toNat
  else 420000 + 40000 * (halfDb - 16).toNat

/-- The planned energy of a transmission in units of 25 nJ, rounded up. -/
def rfEnergy (halfDb : Int) (us : Nat) : Nat := (rfPower3 halfDb * us + 74999) / 75000

/-- A requested power under the cap at 0x2401:02 (R142). -/
def State.clampPower (s : State) (halfDb : Int) : Int := min halfDb (leInt (s.seenBytes 0x2401 2))

/-- A transmission the manager sees before it starts, +8 dBm or above, is refused (R420). -/
def State.rfRefuses (s : State) (halfDb : Int) (us : Nat) : Bool :=
  16 ≤ s.clampPower halfDb && s.thermalRefuses (rfEnergy (s.clampPower halfDb) us)

/-- An entry of a compensation table in 0.1 dB: VDD3 point 1 to 3, temperature point 0 to 16 (R141, 0x2405). -/
def compensation (vdd temp : Nat) : Int := (Config.factoryEntryByte (entryKey 0x2405 vdd) temp).toInt

/-- A value between two others, at a part of the way. -/
def between (a b part : Rat) : Rat := a + (b - a) * part

/-- A table row at a temperature in 0.1 °C, linear between its points; beyond its ends the end point holds (R141; log entry 152). -/
def compensationAt (vdd : Nat) (tempDeci : Int) : Rat :=
  let t := max (-400) (min 1520 tempDeci) + 400
  let i := min 15 (t / 120).toNat
  between (compensation vdd i) (compensation vdd (i + 1)) (((t : Rat) - 120 * i) / 120)

/-- The compensation at a supply and a temperature, linear in both (R141). -/
def compensated (vdd3Mv : Nat) (tempDeci : Int) : Rat :=
  if vdd3Mv < 3300 then between (compensationAt 1 tempDeci) (compensationAt 2 tempDeci) (((vdd3Mv : Rat) - 3000) / 300)
  else between (compensationAt 2 tempDeci) (compensationAt 3 tempDeci) (((vdd3Mv : Rat) - 3300) / 300)

/-- The PA is set for a power: the table's setting corrected by the detector's offset (R141; log entry 152). -/
def State.setPa (s : State) (halfDb vdd3Mv tempDeci : Int) : State :=
  { s with radio := { s.radio with
      paSetting := 5 * (s.clampPower halfDb : Rat) + compensated vdd3Mv.toNat tempDeci + s.radio.paOffset } }

/-- The start of a radio operation reads the die temperature and VDD3 (R134, R141). -/
def State.readRadio (s : State) (i : TickIn) : State := (s.radioTemp i.tempDeci).putNum 0x2400 2 i.vdd3Mv

/-- The supply allows a transmission (R143). -/
def supplyOk (i : TickIn) : Bool := 3000 ≤ i.vdd3Mv && i.vdd3Mv ≤ 3600

/-- Why a transmission of a session is refused with a result that ends it (R143, R420, R436), with what the refusal leaves. -/
def State.txRefused (s : State) (n : Nat) (i : TickIn) (halfDb : Int) (us : Nat) : State × Option Code :=
  if s.platform.fallbackClock then (s, some Rc.hwFault)
  else if !supplyOk i then (s.raise 0xFF05 Rc.rfSupply n, some Rc.rfSupply)
  else if s.rfRefuses halfDb us then (s.thermalRefused 2 n (rfEnergy (s.clampPower halfDb) us), some Rc.thermalBudget)
  else (s, none)

/-! ## The grant (R146, R147) -/

/-- A grant is withheld from a session's activity, which policy 1 lets proceed (R147). -/
def State.coexDenies (s : State) (level : Bool) : Bool := s.cxHeeded && !s.cxGrants level && s.seenNum 0x2430 2 == 0

/-- An activity that proceeds without a grant under policy 1, or that is denied, is counted (R147, 0x2460:05). -/
def State.countGrant (s : State) (level : Bool) : State :=
  if s.cxHeeded && !s.cxGrants level then s.bump 0x2460 5 else s

/-- CXGNT as it stands in this tick: since when it withholds the grant without a break (R148). -/
def State.followGrant (s : State) (level : Bool) : State :=
  { s with radio := { s.radio with
      cxHeld := if s.cxHeeded && !s.cxGrants level then some (s.radio.cxHeld.getD s.tick) else none } }

/-- Ticks until an RF step that is named, or an activity on the air now (R146). -/
def State.rfAhead (s : State) : Option Nat :=
  if s.radio.air.isSome || (s.radio.raw.isSome && (!s.radio.settling || 1 ≤ s.sinceTick s.radio.rawFrom)) then some 0
  else
    (s.tilth.slots.filterMap fun sl =>
      if sl.acts && sl.engine == some .rf && sl.state == .ready then sl.named.map fun t => s.executedAt t - s.now else none).min?

/-- CXREQ is asserted in this tick: from the lead on before an activity, and across gaps of less than 50 µs (R146; log entry 153). -/
def State.cxAsserted (s : State) : Bool :=
  match s.rfAhead with
  | some k => k = 0 ∨ (k - 1) * 25 < s.seenNum 0x2430 4 ∨ (s.sinceTick s.radio.lastAir ≤ 1 ∧ k ≤ 2)
  | none => false

/-- The wires CXREQ and CXPRI are driven: inactive while coexistence is disabled, CXPRI high for approach and badge activity (R146). -/
def State.driveCoex (s : State) : State :=
  let req := s.seenNum 0x2430 1 != 0 && s.cxAsserted
  let pol := s.seenNum 0x2430 3
  { s with radio := { s.radio with cxReq := req != bit pol 0, cxPri := (req && s.radio.raw.isNone) != bit pol 1 } }

/-! ## A packet goes out (R104 to R107, R113, R132, R138 to R143) -/

/-- The power of approach packets (R142). -/
def State.packetPower (s : State) : Int := leInt (s.seenBytes 0x2401 1)

/-- The RF operation of a slot is on the air (R47, R105). -/
def State.onAir (s : State) (n : Nat) (kind : AirKind) (txTicks ticks : Nat) (reply : Bool) : State :=
  let a : Air :=
    { slot := n, kind := kind, needsGrant := s.cxHeeded && s.seenNum 0x2430 2 == 0, from_ := s.now, txEnd := s.now + txTicks,
      close := s.now + ticks, reply := reply }
  ({ s.airNow with radio := { s.airNow.radio with air := some a } }).setSlot n fun sl =>
    { sl with state := .waitingEngine, engine := some .rf, named := none, carry := 0, deferred := 0 }

/-- A packet has been sent: counted and kept (R104, R152). -/
def State.sendPacket (s : State) (type handle : Nat) (payload frame : Bytes) (port : Nat) (power : Int) : State :=
  ({ s with badges := { s.badges with
      lastPacket := { type := type, handle := handle, payload := payload, rate := 1, port := s.fixedPort.getD port,
                      power := s.clampPower power, frame := frame } } }).bump 0x2460 1

/-- The ROUND of an approach goes out; its answers are awaited (R107). -/
def State.sendRound (s : State) (n : Nat) (a : Approach) : State :=
  let t := (s.setApproach n fun a => { a with roundTick := some s.tick }).onAir n .packet ((10 + packetUs 18) / 25) (s.roundTicks a) true
  t.sendPacket 0x01 0 (s.roundPayload a) (packetFrame (s.syncWord a) 0x01 0 (s.roundPayload a)) (s.seenNum 0x2402 2) s.packetPower

/-- The first CONFIRM of a round starts its vector operation in the next tick; a CONFIRM's own tick counts for START (R113, R158; log
entry 50). -/
def State.confirmed (s : State) (n : Nat) : State :=
  let t := s.setBadge n fun b => { b with confirmTick := s.now }
  match s.badgeIn n (· == .confirmed) with
  | some (p, a, _) =>
    if a.vectors = .none then (t.setApproach p fun a => { a with vectors := .running }).makeReady p .lf (some (s.tickIn 1)) else t
  | none => t

/-- A badge session's packet goes out on the port of the handle's last valid packet (R105, R132). -/
def State.sendBadge (s : State) (n : Nat) (b : Badge) : State :=
  let len := b.sent.2.length
  let t := s.onAir n .packet ((10 + packetUs len) / 25) (s.rfTicks (s.slot n)) (replyOf b.sent.1 0).isSome
  let u := t.sendPacket b.sent.1 b.handle b.sent.2 b.frame b.port s.packetPower
  if b.phase = .confirmed then u.confirmed n else u

/-- A packet's step in the tick it names: deferred, refused, denied, or sent (R138, R143, R147, R420). -/
def State.beginPacket (s : State) (n : Nat) (i : TickIn) (len : Nat) (send : State → State) : State :=
  let t := s.readRadio i
  if t.radio.synth.running then t.noLock n
  else
    match t.txRefused n i s.packetPower (packetUs len) with
    | (u, some code) => u.finish n code
    | (u, none) =>
      if u.coexDenies i.cxgnt then (u.countGrant i.cxgnt).retryStep n
      else send ((u.countGrant i.cxgnt).setPa s.packetPower i.vdd3Mv i.tempDeci)

/-- A transmission that awaits no reply leaves the air with its end (R138, R145). -/
def State.clearAir (s : State) : State :=
  match s.radio.air with
  | some a => if a.kind = .packet ∧ !a.reply ∧ a.close ≤ s.now then s.leaveAir.packetDone a.slot else s.airNow
  | none => s

/-! ## A raw command runs (R147, R149 to R151) -/

/-- The air time in µs a raw command plans to transmit (R104, R126, R149). -/
def State.rawAirUs (s : State) (c : RawCommand) : Nat :=
  match c with
  | .txCw | .txPrbs => s.seenNum 0x2450 6 * 1000
  | .txPacket => s.seenNum 0x2450 8 * s.rawPacketUs
  | _ => 0

/-- How long a raw command lasts in µs, the time to lock included (R149, R150). -/
def State.rawUs (s : State) (c : RawCommand) : Nat :=
  8 + match c with
    | .txCw | .txPrbs | .rx => s.seenNum 0x2450 6 * 1000
    | .txPacket => (s.seenNum 0x2450 8 - 1) * s.seenNum 0x2450 9 + s.rawPacketUs
    | .scan => 79 * s.seenNum 0x2450 0x0B
    | .capture => 256

/-- The raw packet a TX_PACKET sends (R149). -/
def State.rawPacket (s : State) (port : Nat) (power : Int) : SentPacket :=
  let payload := s.seenBytes 0x2450 7
  { type := 0x7E, handle := 0, payload := payload, rate := s.seenNum 0x2450 3, port := port, power := s.clampPower power
    frame := packetFrame (s.seenBytes 0x2450 0x0A) 0x7E 0 payload }

/-- A raw command is under way in this tick (R149). -/
def State.rawBegins (s : State) (c : RawCommand) (power : Int) : State :=
  { s.airNow with
    radio :=
      { s.airNow.radio with
        settling := false, rawStart := s.now, rawUntil := s.now + (s.rawUs c + 24) / 25, rawPackets := s.seenNum 0x2450 8 }
    badges :=
      { s.badges with
        lastPacket := if c = .txPacket then s.rawPacket (s.seenNum 0x2450 5 % 2) power else s.badges.lastPacket } }

/-- A raw command accepted in tick N starts in the body of N+2 once RFX is on: refused by the fallback clock, the supply, the thermal budget
or the grant, which its low priority needs under either policy, or under way (R143, R147, R149, R420, R436). -/
def State.startRaw (s : State) (i : TickIn) : State :=
  match s.radio.raw with
  | some c =>
    if s.radio.settling && 2 ≤ s.sinceTick s.radio.rawFrom && s.isOn .rfx then
      let p := leInt (s.seenBytes 0x2450 4)
      let t := s.readRadio i
      match if c.sends then t.txRefused 0 i p (s.rawAirUs c) else (t, none) with
      | (u, some code) => u.endRaw code
      | (u, none) =>
        if u.cxHeeded && !u.cxGrants i.cxgnt then (u.countGrant i.cxgnt).endRaw Rc.rfCoexDenied
        else ((if c.sends then u.setPa p i.vdd3Mv i.tempDeci else u).rawBegins c p)
    else if s.radio.rawStop && s.radio.rawUntil ≤ s.now then s.endRaw Rc.ok
    else s
  | none => s

end Sys2Proof.Machine
end

