-- ==== Sys2Proof/Machine/Ranging.lean ====
section
/-! DEFINITION. Ranging and the proximity verdict (chapter 06): the tone mask, the sweep and probe results, the LF position, and
the fusion rule of R165 in exact arithmetic. -/

namespace Sys2Proof.Machine

/-! ## The tone mask (R156) -/

/-- How many of the 80 bits of a mask are set. -/
def maskCount (m : Bytes) : Nat := ((List.range 80).filter (bit (leNat m))).length

/-- A write to 0x2501:00 by its own rule (R156). -/
def ownToneMask (value : Bytes) : Own := fun s =>
  if maskCount value < 70 ∨ 2 ^ 79 ≤ leNat value then (s, Rc.toneMaskInvalid) else (s.put 0x2501 0 value, Rc.ok)

/-- TONE_MASK_WRITE (R156). -/
def execToneMaskWrite (via : Via) (value : Bytes) (s : State) : Out :=
  keepLock s (s.hostWrite via 0x2501 0 value (ownToneMask value))

/-! ## Phasors (R160) -/

/-- A complex number: real and imaginary part. -/
abbrev Phasor := Rat × Rat

/-- Sine and cosine of an angle in turns (R160; log entry 6). -/
def turn (a : Rat) : Phasor := (Config.cosTurn a, Config.cosTurn (a - 1 / 4))

/-- Product, sum and squared magnitude of phasors. -/
def times (z w : Phasor) : Phasor := (z.1 * w.1 - z.2 * w.2, z.1 * w.2 + z.2 * w.1)
def plus (z w : Phasor) : Phasor := (z.1 + w.1, z.2 + w.2)
def sizeSq (z : Phasor) : Rat := z.1 * z.1 + z.2 * z.2

/-- Samples with I or Q at −8 or +7 (R160). -/
def clippedSamples (l : List (Int × Int)) : Nat :=
  (l.filter fun x => x.1 == -8 || x.1 == 7 || x.2 == -8 || x.2 == 7).length

/-- z_i from the 96 native samples, on an injection side, turned back by the chain phase ψ in turns (R127, R160). -/
def phasor (high : Bool) (psi : Rat) (samples : List (Int × Int)) : Phasor :=
  let s : Rat := if high then -1 else 1
  times ((samples.zipIdx.map fun e => times (e.1.1, e.1.2) (turn (-s * e.2 / 16))).foldl plus (0, 0)) (turn (-psi))

/-- The chain table of a port at 0x2504 (R160, R167; log entry 4). -/
def chainTable (port : Nat) : Bytes := bytesOf (Config.factoryEntryByte (entryKey 0x2504 (port + 1))) Config.chainLength

/-- A position of a sweep: its channel, whether it is valid, and its phasor (R160). -/
structure Position where
  channel : Nat
  valid : Bool
  z : Phasor

/-- A position is valid (R160): not masked, locked, not clipped, strong enough. -/
def validTone (mask channel : Nat) (t : Tone) (z : Phasor) : Bool :=
  bit mask channel && t.locked && clippedSamples t.samples ≤ 8 && decide (9216 ≤ sizeSq z)

/-- The positions of a sweep, each at its channel of the tone order (R157, R160). -/
def State.positions (s : State) (b : Badge) (tones : List Tone) : List Position :=
  (b.toneOrder.zip tones).map fun (c, t) =>
    let z := phasor (s.seenNum 0x2403 0 = 1) (Config.chainPhase (chainTable b.sweepPort) c b.gain) (t.samples.take 96)
    { channel := c, valid := validTone (leNat b.toneMask) c t z, z := z }

/-! ## Phase distance (R161) -/

/-- z · exp(+j4πfd/c) at a distance in mm: 2·f·d/c turns, f = 2402 + c MHz (R161). -/
def Position.at_ (p : Position) (mm : Rat) : Phasor := times p.z (turn (2 * (2402 + p.channel) * 1000 * mm / 299792458))

/-- The sum over the valid positions of a half, for a candidate distance in steps of 100 mm (R161). -/
def halfSum (ps : List Position) (k : Nat) : Phasor := ((ps.filter (·.valid)).map fun p => p.at_ (100 * k)).foldl plus (0, 0)

/-- A delay profile over d = 0.0 to 149.9 m, as squared magnitudes (R161). -/
def profile (f : Nat → Phasor) : List Rat := (List.range 1500).map fun k => sizeSq (f k)

/-- The largest number of a list. -/
def maxOf (l : List Rat) : Rat := l.foldl max 0

/-- A value is at least its neighbours (R161; log entry 62). -/
def isPeak (p : List Rat) (i : Nat) : Bool :=
  decide ((if i = 0 then 0 else (p[i - 1]?).getD 0) ≤ (p[i]?).getD 0 ∧ (p[i + 1]?).getD 0 ≤ (p[i]?).getD 0)

/-- d0: the smallest candidate that is a local maximum at t % of the profile's maximum or above; the profile is given as squares (R161; log
entry 62). -/
def earliestPeak (p : List Rat) (threshold : Nat) : Nat :=
  ((List.range p.length).find? fun i => isPeak p i && decide ((threshold : Rat) ^ 2 * maxOf p ≤ 10000 * (p[i]?).getD 0)).getD 0

/-- The vertex of the parabola through a candidate's magnitude and its neighbours', in mm; where the three lie on a line, the candidate (R161;
log entries 6 and 62). -/
def parabolaMm (i : Nat) (before at_ after : Rat) : Rat :=
  let bend := before - 2 * at_ + after
  100 * i + (if bend = 0 then 0 else 50 * (before - after) / bend)

/-- d_raw: the refined distance of a profile in mm (R161). -/
def refinedMm (p : List Rat) (threshold : Nat) : Rat :=
  let i := earliestPeak p threshold
  let m := fun k => Config.root ((p[k]?).getD 0)
  parabolaMm i (if i = 0 then m 0 else m (i - 1)) (m i) (m (i + 1))

/-- A refined distance less the phase offset of the badge kind, not below 0 (R161). -/
def lessOffset (b : Badge) (raw : Rat) : Rat := max 0 (raw - b.phaseOffset)

/-- The mean of a list. -/
def mean (l : List Rat) : Rat := if l.isEmpty then 0 else l.sum / l.length

/-- The square of resid: the mean square of the angles about their mean, in degrees (R161). -/
def residualSq (ps : List Position) (raw : Rat) : Rat :=
  let angles := (ps.filter (·.valid)).map fun p => Config.degrees (p.at_ raw).1 (p.at_ raw).2
  mean (angles.map fun a => (a - mean angles) ^ 2)

/-- What a sweep leaves (R161). -/
def State.sweepResult (s : State) (b : Badge) (tones : List Tone) : SweepResult :=
  let ps := s.positions b tones
  let a := halfSum (ps.take 36)
  let c := halfSum (ps.drop 36)
  let raw := refinedMm (profile fun k => plus (a k) (c k)) b.threshold
  { dPhase := lessOffset b raw, dA := lessOffset b (refinedMm (profile a) b.threshold)
    dB := lessOffset b (refinedMm (profile c) b.threshold), residSq := residualSq ps raw, valid := (ps.filter (·.valid)).length }

/-! ## The sweep and the probes on the air (R159, R162, R166) -/

/-- The sweep's step in tick S: refused, without lock or grant its session ends, else RF is held from S to S + 71 with the settings that
stand now (R159, R166, R170; log entry 154). -/
def State.beginSweep (s : State) (n : Nat) (i : TickIn) : State :=
  let t := s.readRadio i
  let power := leInt (s.seenBytes 0x2502 1)
  if t.radio.synth.running then t.noLock n
  else
    match t.txRefused n i power (72 * 8) with
    | (u, some code) => u.finish n code
    | (u, none) =>
      if u.coexDenies i.cxgnt then (u.countGrant i.cxgnt).finish n Rc.rfCoexDenied
      else
        (((u.countGrant i.cxgnt).setPa power i.vdd3Mv i.tempDeci).setBadge n fun b =>
          { b with
            tonePower := power, threshold := s.seenNum 0x2502 2
            phaseOffset := leInt (s.seenBytes 0x2503 (if b.legacy then 2 else 1))
            turnOffset := leInt (s.seenBytes 0x2503 (if b.legacy then 4 else 3))
            confirmTick := s.now - b.start }).onAir n .sweep 71 71 true

/-- SWEEP_END (R161): in the tail of S + 71; the probe exchange follows on the same port. -/
def execSweepEnd (slot : Nat) (tones : List Tone) (s : State) : Out :=
  keepLock s <|
    match s.badgeIn slot (· == .confirmed), s.radio.air with
    | some (_, _, b), some a =>
      if a.slot = slot ∧ a.kind = .sweep ∧ s.now = a.close then
        ({ s.airNow with radio := { s.airNow.radio with air := some { a with kind := .probes, txEnd := a.from_ + 246, close := a.from_ + 246 } } }).setBadge
          slot fun b' => { b' with sweep := some (s.sweepResult b tones) }
      else s
    | _, _ => s

/-- PC_p and PE_p (R162). -/
def probeChallenge (tk : Bytes) (p : Nat) : Bytes := (aesBlock tk ([0x50] ++ leBytes 1 p ++ zeros 14)).take 8
def probeEcho (tk : Bytes) (p : Nat) : Bytes :=
  (aesBlock tk ([0x45] ++ leBytes 1 p ++ probeChallenge tk p ++ zeros 6)).take 8

/-- A PROBE's payload: the index and PC_p (R162). -/
def probePayload (tk : Bytes) (p : Nat) : Bytes := leBytes 1 p ++ probeChallenge tk p

/-- PROBE p goes out on the sweep port (R162). -/
def State.sendProbe (s : State) (n : Nat) (b : Badge) (p : Nat) : State :=
  match s.badgeIn n (· == .confirmed) with
  | some (_, a, _) =>
    let payload := probePayload (toneKey b) p
    s.airNow.sendPacket 0x09 b.handle payload (packetFrame (s.syncWord a) 0x09 b.handle payload) b.sweepPort b.tonePower
  | none => s

/-- The probe exchange in this tick: probe p is named for S + 72 + 22p; the operation's start is gated as every transmission is (R143, R162,
R166, R420). -/
def State.probeTick (s : State) (i : TickIn) : State :=
  match s.radio.air with
  | some a =>
    match (s.slot a.slot).badge? with
    | some b =>
      let d := s.now - (a.from_ + 72)
      if a.kind ≠ .probes ∨ s.now < a.from_ + 72 ∨ d % 22 ≠ 0 ∨ 8 ≤ d / 22 then s
      else if d = 0 then
        match (s.readRadio i).txRefused a.slot i b.tonePower (8 * packetUs 9) with
        | (u, some code) => u.leaveAir.finish a.slot code
        | (u, none) =>
          if u.coexDenies i.cxgnt then (u.countGrant i.cxgnt).leaveAir.finish a.slot Rc.rfCoexDenied
          else ((u.countGrant i.cxgnt).setPa b.tonePower i.vdd3Mv i.tempDeci).sendProbe a.slot b 0
      else s.sendProbe a.slot b (d / 22)
    | none => s
  | none => s

/-- A probe is valid (R163; log entry 63): `gap` is t_B − t_A in units of 0.1 ns. -/
def validProbe (tk : Bytes) (handle p : Nat) (e : ProbeEcho) (gap : Nat) : Bool :=
  e.crcOk && e.handle == handle && e.payload == probeEcho tk p && 1358000 ≤ gap && gap ≤ 1460000

/-- A number put into a rising list. -/
def insertInt (x : Int) : List Int → List Int
  | [] => [x]
  | y :: l => if x ≤ y then x :: y :: l else y :: insertInt x l

/-- Twice the median (R163). -/
def median2 (l : List Int) : Int :=
  let r := l.foldr insertInt []
  let n := r.length
  if n % 2 = 1 then 2 * (r[n / 2]?).getD 0 else (r[n / 2 - 1]?).getD 0 + (r[n / 2]?).getD 0

/-- The result of the probe exchange: the echoes in probe order, none where none came, and the time measured for each probe (R163). -/
def probeResult (b : Badge) (echoes : List (Option ProbeEcho)) (gaps : List Nat) : ProbeResult :=
  let tk := toneKey b
  let gap := fun p => (gaps[p]?).getD 0
  let valid := (List.range 8).filter fun p => ((echoes[p]?).join).any fun e => validProbe tk b.handle p e (gap p)
  { rt2 := median2 (valid.map fun p => (gap p : Int) - 1360000 - b.turnOffset), valid := valid.length }

/-- The echoes received: valid packets with their RSSI, and CRC failures (R130, R152). -/
def State.hearEchoes (s : State) (echoes : List (Option ProbeEcho)) : State :=
  (echoes.take 8).foldl
    (fun u e => match e with
      | some x => if x.crcOk then u.hears x.rssi else u.bump 0x2460 3
      | none => u) s

/-- PROBE_EXCHANGE_END (R162, R163): in the tail of S + 246. -/
def execProbeExchangeEnd (slot : Nat) (echoes : List (Option ProbeEcho)) (gaps : List Nat) (s : State) : Out :=
  keepLock s <|
    match s.badgeIn slot (· == .confirmed), s.radio.air with
    | some (_, _, b), some a =>
      if a.slot = slot ∧ a.kind = .probes ∧ s.now = a.close then
        ((((s.hearEchoes echoes).leaveAir).setBadge slot fun b' => { b' with probes := some (probeResult b echoes gaps) }).await slot).advanceBadge
          slot
      else s
    | _, _ => s

/-! ## The LF position (R154, R164) -/

/-- A point of the geometry (R154). -/
def point (b : Bytes) : Int × Int × Int := (leInt (slice b 0 2), leInt (slice b 2 2), leInt (slice b 4 2))

/-- The dot product, and the square of a length. -/
def dot (a b : Int × Int × Int) : Int := a.1 * b.1 + a.2.1 * b.2.1 + a.2.2 * b.2.2
def minus (a b : Int × Int × Int) : Int × Int × Int := (a.1 - b.1, a.2.1 - b.2.1, a.2.2 - b.2.2)
def norm2 (a : Int × Int × Int) : Int := dot a a

/-- The settled code of a coil's burst: the last one measured on its channel (R85). -/
def burstCode (bursts : List LfBurst) (ch : Nat) : Nat := ((bursts.reverse.find? fun b => b.ch == ch).map (·.code)).getD 0

/-- A burst is usable: not saturated, its coil has NA above 0, and |B| is at least 16 nT in units of 2 nT (R164; log entry 63). -/
def usableBurst (sat i : Nat) (coil : Bytes) (v : Int × Int × Int) : Bool :=
  !bit sat i && field coil 12 2 != 0 && 64 ≤ norm2 v

/-- The usable bursts of a report: coil record, settled code, vector (R164). -/
def State.usableBursts (s : State) (order : List Nat) (bursts : List LfBurst) (r : Report) :
    List (Bytes × Nat × (Int × Int × Int)) :=
  ((order.zip r.vectors).zipIdx.filter fun e => usableBurst r.sat e.2 (s.seenBytes 0x2510 (e.1.1 + 1)) e.1.2).map fun e =>
    (s.seenBytes 0x2510 (e.1.1 + 1), burstCode bursts e.1.1, e.1.2)

/-- A point or vector in exact numbers. -/
abbrev Vec := Rat × Rat × Rat
def ratVec (a : Int × Int × Int) : Vec := (a.1, a.2.1, a.2.2)
def vdot (a b : Vec) : Rat := a.1 * b.1 + a.2.1 * b.2.1 + a.2.2 * b.2.2
def vsub (a b : Vec) : Vec := (a.1 - b.1, a.2.1 - b.2.1, a.2.2 - b.2.2)
def vadd (a b : Vec) : Vec := (a.1 + b.1, a.2.1 + b.2.1, a.2.2 + b.2.2)
def vscale (k : Rat) (a : Vec) : Vec := (k * a.1, k * a.2.1, k * a.2.2)

/-- A usable burst in numbers: coil position in mm, axis, ln|B| measured, and ln of the factor before the geometry in the model
magnitude (R154, R164). -/
structure Reading where
  coil : Vec
  axis : Vec
  measured : Rat
  factor : Rat

/-- A usable burst's reading (R154, R164): |B| = 2 nT · √(X² + Y² + Z²), 10⁻⁷ · NA · I with NA in 0.001 m² and I = 2c/15 A; the axis is
normalised where it is used, and distances count in mm. -/
def readingOf (e : Bytes × Nat × (Int × Int × Int)) : Reading :=
  { coil := ratVec (point e.1), axis := ratVec (point (e.1.drop 6)),
    measured := Config.ln (2 / 1000000000) + Config.ln (norm2 e.2.2) / 2,
    factor := Config.ln ((field e.1 12 2 : Rat) * (2 * e.2.1) / 15 / 10) }

/-- 1 + 3·cos²θ times |axis|²·r², for the vector d from the coil (R164). -/
def Reading.lobe (m : Reading) (d : Vec) : Rat := vdot m.axis m.axis * vdot d d + 3 * vdot m.axis d ^ 2

/-- ln of the model magnitude at a point (R164). -/
def Reading.model (m : Reading) (q : Vec) : Rat :=
  let d := vsub q m.coil
  m.factor + (Config.ln (m.lobe d) - Config.ln (vdot m.axis m.axis)) / 2 - 2 * Config.ln (vdot d d)

/-- The gradient of that logarithm at a point (R164). -/
def Reading.gradient (m : Reading) (q : Vec) : Vec :=
  let d := vsub q m.coil
  vsub (vscale (1 / m.lobe d) (vadd (vscale (vdot m.axis m.axis) d) (vscale (3 * vdot m.axis d) m.axis))) (vscale (4 / vdot d d) d)

/-- The cross product, and the determinant of three rows. -/
def cross (a b : Vec) : Vec := (a.2.1 * b.2.2 - a.2.2 * b.2.1, a.2.2 * b.1 - a.1 * b.2.2, a.1 * b.2.1 - a.2.1 * b.1)
def det (a b c : Vec) : Rat := vdot a (cross b c)

/-- One Gauss–Newton iteration on the mean square of ln|B_meas| − ln|B_model|; none where it has no step to take (R164). -/
def iterate (ms : List Reading) (q : Vec) : Option Vec :=
  let rows := ms.map fun m => (m.gradient q, m.measured - m.model q)
  let col := fun (f : Vec → Rat) => (rows.map fun r => vscale (f r.1) r.1).foldl vadd (0, 0, 0)
  let rhs := (rows.map fun r => vscale r.2 r.1).foldl vadd (0, 0, 0)
  let a := col (·.1)
  let b := col (·.2.1)
  let c := col (·.2.2)
  let dt := det a b c
  if dt = 0 ∨ ms.any (fun m => vdot (vsub q m.coil) (vsub q m.coil) == 0 || vdot m.axis m.axis == 0) then none
  else some (vadd q (det rhs b c / dt, det a rhs c / dt, det a b rhs / dt))

/-- So many iterations in a row. -/
def iterations (ms : List Reading) : Nat → Vec → Option Vec
  | 0, q => some q
  | n + 1, q => (iterate ms q).bind (iterations ms n)

/-- The mean square residual in dB² at a point: 20/ln 10 for each unit of the logarithm (R164). -/
def residualDbSq (ms : List Reading) (q : Vec) : Rat := (20 / Config.ln 10) ^ 2 * mean (ms.map fun m => (m.measured - m.model q) ^ 2)

/-- The solution of usable bursts from a starting point: six iterations (R164; log entry 6). -/
def solveLf (start : Vec) (usable : List (Bytes × Nat × (Int × Int × Int))) : Vec × Rat :=
  let ms := usable.map readingOf
  match iterations ms 6 start with
  | some q => (q, residualDbSq ms q)
  | none => Config.lfOpen start usable

/-- The LF position in mm and its mean square residual in dB², if there is one (R164). -/
def State.lfPosition (s : State) (a : Approach) (b : Badge) : Option (Vec × Rat) :=
  match a.vectors, b.report with
  | .done bursts _, some r =>
    let usable := s.usableBursts a.order bursts r
    if usable.length < 3 then none else some (solveLf (ratVec (point (s.seenBytes 0x2512 1))) usable)
  | _, _ => none

/-! ## Fusion (R165) -/

/-- What fusion judges. -/
structure Measured where
  sweep : SweepResult
  probes : ProbeResult
  lf : Option (Vec × Rat)
  port : Int × Int × Int

/-- c in m/s (R161). -/
def lightSpeed : Rat := 299792458

/-- d_time in mm is timing / 40,000,000 (R163), and X in 0.1 ns is excess / (2 c) (R163). -/
def Measured.timing (m : Measured) : Rat := lightSpeed * m.probes.rt2
def Measured.excess (m : Measured) : Rat := lightSpeed * m.probes.rt2 - m.sweep.dPhase * 40000000

/-- The checks against an LF position (R165; log entry 63). -/
def State.zoneVerdict (s : State) (m : Measured) (p : Vec) (residSq : Rat) : Code :=
  let d := vdot (vsub p (ratVec m.port)) (vsub p (ratVec m.port))
  let tol : Rat := s.seenNum 0x2521 1
  let rel := vsub p (ratVec (point (s.seenBytes 0x2512 1)))
  let radius : Rat := s.seenNum 0x2512 3
  if ((s.seenNum 0x2521 2 : Rat) / 10) ^ 2 < residSq then Rc.lfRfInconsistent
  else if (m.sweep.dPhase + tol) ^ 2 < d ∨ (0 < m.sweep.dPhase - tol ∧ d < (m.sweep.dPhase - tol) ^ 2) then Rc.lfRfInconsistent
  else if radius ^ 2 < vdot rel rel ∨ vdot rel (ratVec (point (s.seenBytes 0x2512 2))) < -((s.seenNum 0x2512 4 : Rat) * 16384)
      ∨ (s.seenNum 0x2513 0 : Rat) < m.sweep.dPhase then Rc.outOfZone
  else Rc.ok

/-- The rule of R165 in its order; every verdict is RANGING_INCONCLUSIVE while the chain tables do not hold (R167). -/
def State.fuse (s : State) (m : Measured) : Code :=
  if !s.radio.chainOk then Rc.rangingInconclusive
  else if s.seenNum 0x2512 3 = 0 then Rc.geometryUnset
  else if m.sweep.valid < s.seenNum 0x2520 1 then Rc.rangingInconclusive
  else if m.probes.valid < s.seenNum 0x2520 2 then Rc.rangingInconclusive
  else if m.timing < (m.sweep.dPhase - s.seenNum 0x2520 3) * 40000000 then Rc.distanceReductionSuspect
  else if 2 * s.seenNum 0x2520 5 * lightSpeed < m.excess then Rc.relaySuspect
  else if (s.seenNum 0x2520 6 : Rat) ^ 2 < m.sweep.residSq then Rc.rangingInconclusive
  else if (s.seenNum 0x2520 4 : Rat) ^ 2 < (m.sweep.dA - m.sweep.dB) ^ 2 then Rc.distanceReductionSuspect
  else
    match m.lf with
    | some (p, residSq) => s.zoneVerdict m p residSq
    | none =>
      if s.seenNum 0x2522 1 = 0 then Rc.rangingInconclusive
      else if (s.seenNum 0x2522 2 : Rat) < m.sweep.dPhase then Rc.outOfZone
      else Rc.ok

/-- The place of a verdict in the table Verdicts, from 1 (R165, 0x2530). -/
def verdictSub (c : Code) : Nat :=
  if c = Rc.ok then 1 else if c = Rc.outOfZone then 2 else if c = Rc.relaySuspect then 3
  else if c = Rc.distanceReductionSuspect then 4 else if c = Rc.rangingInconclusive then 5
  else if c = Rc.lfRfInconsistent then 6 else 7

/-- A suspicion (R165). -/
def isSuspicion (c : Code) : Bool := c == Rc.relaySuspect || c == Rc.distanceReductionSuspect

/-- A number that must fit below a bound; where the manual states no value for it, a free one (log entry 2). -/
def State.fitNat (s : State) (v : Int) (bound : Nat) : Nat :=
  if 0 ≤ v ∧ v < bound then v.toNat else Config.freeNat s.free % bound

/-- A position as three I16 (0x2500:07). -/
def pointBytes (p : Vec) : Bytes := intBytes 2 p.1.floor ++ intBytes 2 p.2.1.floor ++ intBytes 2 p.2.2.floor

/-- The residual in 0.1 dB at 0x2500:08, whole tenths (R164; log entry 155). -/
def residTenths (residSq : Rat) : Nat := Nat.sqrt (residSq * 100).floor.toNat

/-- The entries of 0x2500 after a verdict, in whole units (R166; log entry 155). -/
def State.writeVerdict (s : State) (m : Measured) (verdict : Code) (credId : Nat) : State :=
  let dTime := (m.timing / 40000000).floor
  let x := (m.excess / (2 * lightSpeed)).floor
  let t := (((s.putCode 0x2500 1 verdict).putNum 0x2500 2 (s.fitNat m.sweep.dPhase.floor (2 ^ 32))).putNum 0x2500 3
    (s.fitNat dTime (2 ^ 32))).putInt 0x2500 4 x
  let u := (t.putNum 0x2500 5 m.sweep.valid).putNum 0x2500 6 m.probes.valid
  let v := match m.lf with
    | some (p, residSq) => (u.put 0x2500 7 (pointBytes p)).putNum 0x2500 8 (s.fitNat (residTenths residSq) 255)
    | none => (u.put 0x2500 7 (zeros 6)).putNum 0x2500 8 0xFF
  ((v.putNum 0x2500 9 credId).used 1).bump 0x2530 (verdictSub verdict)

/-- The data of VERDICT_COMMITTED: credential, verdict, d_phase, d_time, X (R166; log entry 155). -/
def verdictData (m : Measured) (verdict : Code) (credId : Nat) : Bytes :=
  leBytes 4 credId ++ codeBytes verdict ++ intBytes 4 m.sweep.dPhase.floor ++ intBytes 4 (m.timing / 40000000).floor
    ++ intBytes 4 (m.excess / (2 * lightSpeed)).floor

/-- The qualifying badge of an approach: of two in one tick, the one with the lower round slot (R116). -/
def State.betterBadge (s : State) (n : Nat) (held : Option Nat) : Nat :=
  match held with
  | some m =>
    if ((s.slot m).badge?.map (·.roundSlot)).getD 0 ≤ ((s.slot n).badge?.map (·.roundSlot)).getD 0 then m else n
  | none => n

/-- A qualifying verdict: in a credential test OUTCOME 0x04 follows, else the parent proposes SERVICE entry at its next step, which sees the
verdict two ticks on (R36, R115, R116). -/
def State.qualify (s : State) (n p : Nat) (a : Approach) (b : Badge) : State :=
  let best := s.betterBadge n a.qualified
  let t := s.setApproach p fun a =>
    { a with qualified := some best, lastCredential := if best = n then b.credId else a.lastCredential }
  if a.test then t.sendOutcome n a b 0x04 Rc.ok true
  else ((t.setBadge n fun b => { b with phase := .qualified }).await n).makeReadyOutside p .cpu none

/-- A refusing verdict: OUTCOME 0x03 follows; a suspicion bars the credential first, and that is written through (R57, R115, R116). -/
def State.disqualify (s : State) (n p : Nat) (a : Approach) (b : Badge) (verdict : Code) : State :=
  let t := (s.bump 0x2312 3).setApproach p fun a => { a with lastCredential := b.credId }
  match isSuspicion verdict, b.credIndex with
  | true, some i =>
    ((t.suspect n b.credId).setBadge n fun b => { b with phase := .suspected verdict }).beginThrough n
      { index := i, record := s.barRecord (s.credential i) (s.seenNum 0x2307 0), outcome := none }
  | _, _ => t.sendOutcome n a b 0x03 verdict false

/-- The verdict of a badge session is committed (R115, R165, R166). -/
def State.commitVerdict (s : State) (n p : Nat) (a : Approach) (b : Badge) (m : Measured) : State :=
  let verdict := s.fuse m
  let t := (s.writeVerdict m verdict b.credId).event Ev.verdictCommitted n (verdictData m verdict b.credId)
  if verdict = Rc.ok then t.qualify n p a b else t.disqualify n p a b verdict

/-- The fusion step of a slot has been dispatched on RF (R47, R165). -/
def Slot.fuses (sl : Slot) : Bool :=
  sl.state == .waitingEngine && sl.engine == some .rf && sl.badge?.any fun b => b.next == .fusion

/-- FUSION (R165): the step dispatched on RF reaches its verdict. -/
def execFusion (slot : Nat) (s : State) : Out :=
  keepLock s <|
    match s.badgeIn slot (· == .reported) with
    | some (p, a, b) =>
      if !(s.slot slot).fuses then s
      else
        match b.sweep, b.probes with
        | some w, some q =>
          s.commitVerdict slot p a b
            { sweep := w, probes := q, lf := s.lfPosition a b, port := point (s.seenBytes 0x2511 (b.sweepPort + 1)) }
        | _, _ => s
    | none => s

/-! ## RF steps (R45, R47, R104, R158, R165) -/

/-- What the next RF step of a slot begins in its tick. -/
def State.beginRf (s : State) (n : Nat) (i : TickIn) : State :=
  match (s.slot n).work with
  | .approach a => s.beginPacket n i 18 fun t => t.sendRound n a
  | .badge b =>
    match b.next with
    | .packet => s.beginPacket n i b.sent.2.length fun t => t.sendBadge n b
    | .sweep => s.beginSweep n i
    | .fusion => s.setSlot n fun sl => { sl with state := .waitingEngine, engine := some .rf, named := none, carry := 0 }
  | _ => s

end Sys2Proof.Machine
end

