-- ==== Sys2Proof/Machine/Vehicle.lean ====
section
/-! DEFINITION. Vehicle binding and the start lock (chapter 07): exchanges with a vehicle or a site, the release conditions, the
lock's own changes, feedback, latch and panel. -/

namespace Sys2Proof.Machine

/-! ## Messages (R186 to R189) -/

/-- The OP a code names (R186). -/
def exchangeOp? : Nat → Option ExchangeOp
  | 1 => some .release
  | 2 => some .stop
  | 3 => some .status
  | _ => none

/-- The 8-byte header (R186). -/
def exchangeHeader (type op cid exid : Nat) : Bytes := leBytes 1 type ++ leBytes 1 op ++ leBytes 4 cid ++ leBytes 2 exid

/-- The header of an open exchange's message of a type. -/
def Exchange.header (x : Exchange) (type : Nat) : Bytes := exchangeHeader type (exchangeOpCode x.op) x.cid x.exid

/-- The IV of R188: direction 2 from the vehicle, 1 from the controller. -/
def exchangeIv (direction type exid : Nat) : Bytes := leBytes 1 direction ++ leBytes 1 type ++ leBytes 2 exid ++ zeros 8

/-- A REFUSAL with a result (R187). -/
def refusal (op cid exid : Nat) (code : Code) : Bytes := exchangeHeader 0x05 op cid exid ++ codeBytes code

/-- The outbound entry of a carrier (R191, R192). -/
def State.setOutbound (s : State) (c : Carrier) (msg : Bytes) : State :=
  match c with
  | .usdo .one => { s with vehicle := { s.vehicle with out1 := msg } }
  | .usdo .two => { s with vehicle := { s.vehicle with out2 := msg } }
  | .pdo => s.put 0x2611 2 (padTo 32 msg)

/-- What a USDO server presents as outbound message (R191): the last one committed; PENDING before the next one of an open exchange,
EXCHANGE_UNKNOWN without one (log entry 156). -/
def State.presented (s : State) (v : Srv) (stored : Bytes) : Bytes :=
  if !stored.isEmpty then stored
  else
    match (s.tilth.slots.filterMap fun sl => if sl.inFlight then sl.exchange? else none).find? fun x => x.carrier == .usdo v with
    | some x => refusal (exchangeOpCode x.op) x.cid x.exid Rc.pending
    | none => refusal 0 0 0 Rc.exchangeUnknown

/-- The slot of the exchange open on a carrier (R191, R196); one whose closing write is under way is over (R183). -/
def State.exchangeOn (s : State) (c : Carrier) : Option Nat :=
  (s.tilth.find fun sl => sl.inFlight && sl.through.isNone && sl.exchange?.any fun x => x.carrier == c).head?

/-- An exchange ends with a REFUSAL (R193, R195). -/
def State.refuseExchange (s : State) (n : Nat) (x : Exchange) (code : Code) : State :=
  (s.setOutbound x.carrier (refusal (exchangeOpCode x.op) x.cid x.exid code)).finish n code

/-- The exchange of a slot changed. -/
def State.setExchange (s : State) (n : Nat) (x : Exchange) : State := s.setSlot n fun sl => { sl with work := .release x }

/-! ## REQUEST (R193, R196, R197) -/

/-- An OP is allowed in a mode (R193 step 2). -/
def opAllowed (m : Mode) (op : ExchangeOp) : Bool :=
  match op with
  | .release => m == .bound || m == .depot || m == .stationary
  | _ => 3 ≤ m.code && m.code ≤ 0x0B

/-- The bit of an OP in a vehicle's rights (R183). -/
def opRight : ExchangeOp → Nat
  | .release => 0 | .stop => 1 | .status => 2

/-- Steps 3 to 5 of R193 for a vehicle's record. -/
def State.vehicleRefusal (s : State) (op : ExchangeOp) (r : Bytes) : Option Code :=
  if byteAt r 4 ≠ 3 ∨ ¬(byteAt r 5 = 0 ∨ (op = .stop ∧ byteAt r 5 = 1)) then some Rc.vehicleUnknown
  else if !bit (field r 6 2) (opRight op) || (op != .stop && !s.inWindow r) then some Rc.vehicleNoRight
  else if op != .stop && s.barred r then some Rc.vehicleBarred
  else none

/-- Steps 3 to 5 of R193: the store index of the vehicle, none for a site. A vehicle's keys need the owner root (R185, R268, R436; log
entries 66 and 119). -/
def State.counterpart (s : State) (op : ExchangeOp) (cid : Nat) : Except Code (Option Nat) :=
  if s.mode = .stationary then
    if !allZero (s.seenBytes 0x2660 cid) then .ok none else .error Rc.vehicleUnknown
  else
    match findCredential s.seen.credentials cid with
    | none => .error Rc.vehicleUnknown
    | some i =>
      match s.vehicleRefusal op (s.record i) with
      | some c => .error c
      | none => match s.rootFails 2 with | some c => .error c | none => .ok (some i)

/-- The fallback CV: tick, advanced stop counter, 0xFF (R197; log entry 68). -/
def State.fallbackCv (s : State) : Bytes :=
  leBytes 6 s.tick ++ leBytes 4 (s.num 0x2630 4) ++ List.replicate 6 0xFF

/-- A CV that is not drawn: RELEASE fails or waits with the instance, STOP and STATUS take the fallback (R193 step 6, R197,
R323). -/
inductive CvDraw where
  | drawn
  | fallback
  | wait
  | fails (code : Code)
  deriving DecidableEq, Repr

/-- How CV comes about (R193, R197, R323): STOP and STATUS wait only for the pool of a source that is READY (log entry 68). -/
def State.cvDraw (s : State) (op : ExchangeOp) (turn : Bool) : CvDraw :=
  match s.drawState 3 turn with
  | .ready => .drawn
  | .fails c => if op = .release then .fails c else .fallback
  | .wait => if op = .release ∨ s.rng.source = .ready then .wait else .fallback

/-- The EXID after one (R186). -/
def nextExid (e : Nat) : Nat := if e = 0xFFFF then 1 else e + 1

/-- KV and KE (R185). -/
def State.vehicleKey (s : State) (r : Bytes) : Bytes :=
  derive .vehicle s.ownerRoot (slice r 0 4 ++ slice r 8 2)
def exchangeKey (kv : Bytes) (x : Exchange) : Bytes :=
  derive .vex kv (leBytes 1 (exchangeOpCode x.op) ++ leBytes 2 x.exid ++ x.cv ++ x.vn)

/-- The CHALLENGE is committed and the exchange waits for its RESPONSE (R187, R193, R194). -/
def State.challengeVehicle (s : State) (n : Nat) (x : Exchange) (cv : Bytes) (fallback : Bool) : State :=
  let x := { x with exid := s.vehicle.exid, cv := cv, waiting := true, challengeTick := s.now }
  let u := { s with vehicle := { s.vehicle with exid := nextExid s.vehicle.exid } }
  let msg := x.header 0x02 ++ cv ++ leBytes 1 (if x.site then 2 else 1) ++ leBytes 1 (flag fallback 7)
  ((u.setExchange n x).setOutbound x.carrier msg).await n

/-- The CHALLENGE of a STOP or STATUS whose CV no strict instance delivers: the stop counter is advanced and written first (R197). -/
def State.challengeFallback (s : State) (n : Nat) (x : Exchange) : State :=
  let t := s.bump 0x2630 4
  t.challengeVehicle n x t.fallbackCv true

/-- The CHALLENGE follows once CV is available (R193 step 6, R197). -/
def State.drawChallenge (s : State) (n : Nat) (x : Exchange) (turn : Bool) : State :=
  match s.cvDraw x.op turn with
  | .drawn => ((s.used 16).countCall 3).challengeVehicle n x (s.fresh 16) false
  | .fallback => s.challengeFallback n x
  | .wait =>
    if s.drawRoom 3 then (s.setExchange n x).waitDraw n 3
    else if x.op = .release then s.refuseExchange n x Rc.noResource
    else s.challengeFallback n x
  | .fails c => s.refuseExchange n x c

/-- The session checks its REQUEST in order (R192, R193; log entry 65); in STATIONARY a CID that names no site slot makes it no site
request. -/
def State.checkRequest (s : State) (n : Nat) (x : Exchange) (msg : Bytes) : State :=
  if (x.carrier != .pdo && msg.length != 20) || (exchangeOp? (byteAt msg 1)).isNone then s.refuseExchange n x Rc.messageMalformed
  else if s.mode = .stationary ∧ x.carrier = .pdo then s.refuseExchange n x Rc.formUnsupported
  else if !opAllowed s.mode x.op || (s.mode == .stationary && !(1 ≤ x.cid && x.cid ≤ 8)) then s.refuseExchange n x Rc.modeForbids
  else
    match s.counterpart x.op x.cid with
    | .error c => s.refuseExchange n x c
    | .ok i =>
      let t := match i with | some i => s.lookupNow n i | none => s
      if !(t.slot n).inFlight then t else t.drawChallenge n { x with credIndex := i } false

/-- The exchange a REQUEST opens. -/
def State.newExchange (s : State) (port : Port) (c : Carrier) (msg : Bytes) : Exchange :=
  { carrier := c, port := port, op := (exchangeOp? (byteAt msg 1)).getD .status, cid := field msg 2 4, exid := 0, cv := [],
    vn := slice msg 8 12, site := s.mode == .stationary, credIndex := none, ke := [], waiting := false, challengeTick := 0 }

/-- A REQUEST on a carrier supersedes its open exchange and admits a RELEASE session; without a slot it is refused with BUSY (R43, R193,
R196; log entry 64). -/
def State.request (s : State) (port : Port) (c : Carrier) (msg : Bytes) : State :=
  let t := match s.exchangeOn c with
    | some m => s.finish m Rc.exchangeSuperseded
    | none => s
  let x := t.newExchange port c msg
  match t.admitNow .release (.release x) with
  | some (n, u) => (((u.setOutbound c []).firstAccess .sec n).checkRequest n x msg).watermark
  | none =>
    ((t.bump 0x2102 3).setOutbound c (refusal (byteAt msg 1) x.cid 0 Rc.busy)).reportExchange x.cid (byteAt msg 1) Rc.busy

/-! ## RESPONSE (R195, R198 to R200) -/

/-- The AAD of R188 for a message of a type. -/
def Exchange.aad (x : Exchange) (type : Nat) : Bytes := x.header type ++ x.cv ++ x.vn

/-- The plaintext of a RESPONSE whose tag or signature holds (R188, R195, R207). -/
def State.openResponse (s : State) (x : Exchange) (msg : Bytes) : Option Bytes :=
  if x.site then
    let plain := slice msg 8 4
    if sigHolds (s.siteKey x.cid) (ascii "BLS9640-SITE") (x.aad 0x03 ++ deviceBinding ++ plain) (slice msg 12 114) then some plain
    else none
  else gcmOpen x.ke (exchangeIv 2 0x03 x.exid) (x.aad 0x03) (slice msg 8 20)

/-- KV and KE are derived once the RESPONSE has arrived, and the open is counted (R185, R273). -/
def State.deriveExchange (s : State) (n : Nat) (x : Exchange) : State × Exchange :=
  if x.site then (s.she 1, x)
  else
    let kv := match x.credIndex with | some i => s.vehicleKey (s.record i) | none => []
    let ke := exchangeKey kv x
    (((s.deriveKey (.slot n) .vehicle kv).deriveKey (.slot n) .vex ke).gcm 1, { x with ke := ke })

/-- The engine or the identity key an exchange's form needs has failed (R284, R307, R436). -/
def State.formFails (s : State) (x : Exchange) : Option Code :=
  if x.site then (if s.sig.failed then some Rc.sheFailed else if s.identityBad then some Rc.hwFault else none)
  else if s.cipher.failed then some Rc.cipherFailed else none

/-- An AUTH_FAIL of a vehicle is counted in its record; the last of 0x2620:03 within 600 s bars it (R195). The failure commits once that is
written through (R57, R183). -/
def State.countFailure (s : State) (n i : Nat) : State :=
  let r := s.failRecord (s.credential i)
  let last := decide (s.seenNum 0x2620 3 ≤ byteAt r 44)
  let t := if last then s.alarm Ev.vehicleSuspect n (slice r 0 4) else s
  t.beginThrough n { index := i, record := if last then s.barRecord r (s.seenNum 0x2620 2) else r, outcome := some Rc.authFail }

/-- The exchange fails its authentication (R195). -/
def State.exchangeAuthFail (s : State) (n : Nat) (x : Exchange) : State :=
  match x.credIndex with
  | some i => (s.setExchange n { x with waiting := false }).tagFailed.countFailure n i
  | none => s.refuseExchange n x Rc.authFail

/-- The ACK message of an exchange (R188, R189, R207): result, lock state and credit as committed. -/
def State.ackMessage (s : State) (x : Exchange) (result : Code) : Bytes :=
  let plain := codeBytes result ++ leBytes 1 s.lockState ++ leBytes 1 s.ledger.state.code
  x.header 0x04 ++
    (if x.site then plain ++ identitySign (ascii "BLS9640-SACK") (x.aad 0x04 ++ plain)
     else gcmSeal x.ke (exchangeIv 1 0x04 x.exid) (x.aad 0x04) plain)

/-- The ACK is sent; then the closing step writes the use of the credential through, and the session ends (R183, R189; log entry 67). -/
def State.acknowledge (s : State) (n : Nat) (x : Exchange) (result : Code) : State :=
  let t := ((if x.site then s.sheSigned else s.gcm 1).setExchange n { x with waiting := false }).setOutbound x.carrier (s.ackMessage x result)
  match x.credIndex with
  | some i => t.beginThrough n { index := i, record := t.usedRecord (t.credential i), outcome := some result }
  | none => t.finish n result

/-- The end of a session whose change of a credential has been written: an exchange that failed its authentication is refused now (R195),
unless its carrier has a new one (R196). -/
def State.throughEnds (s : State) (n : Nat) (code : Code) : State :=
  match (s.slot n).work with
  | .release x => if code = Rc.authFail ∧ (s.exchangeOn x.carrier).all (· == n) then s.refuseExchange n x code else s.finish n code
  | _ => s.finish n code

/-- A session's change of a credential has been written (R57): it ends with its outcome, or goes on with what waited for that (R115,
R118). -/
def State.throughDone (s : State) (n : Nat) (w : Through) : State :=
  let t := (s.writeThrough w.index w.record).setSlot n fun sl => { sl with through := none }
  match w.outcome, t.badgeIn n (fun _ => true) with
  | some c, _ => t.throughEnds n c
  | none, some (p, a, b) =>
    match b.phase with
    | .counted => t.acceptBadge n p a b
    | .suspected verdict => t.sendOutcome n a b 0x03 verdict false
    | _ => t.await n
  | none, none => t.operationDone n

/-- The write of a credential has failed: a class C fault of detector 0x03, and HW_FAULT (R57, R183, R431). -/
def State.throughFails (s : State) (n : Nat) (w : Through) : State :=
  (s.logFault 0x03 0x03 Rc.hwFault n 10 (leBytes 2 w.index)).finish n Rc.hwFault

/-- "Sample fresh" (R198, R379). -/
def State.sampleFresh (s : State) (v : SampleView) : Bool :=
  !v.freeRun && !v.vOver && s.sinceTick v.tick ≤ s.seenNum 0x2630 2

/-- The table Release conditions from left to right, on state as visible to the step (R198): none where all are met. -/
def State.releaseRefusal (s : State) : Option Code :=
  let v := s.seen
  if !opAllowed v.life.mode .release || v.hardpan.set then some Rc.modeForbids
  else if v.life.mode = .service ∨ v.latch.on ∨ v.vehicle.panel.treatedOpen then some Rc.serviceOpen
  else if v.ledger.state = .exhausted then some Rc.creditExhausted
  else
    match v.ledger.sample with
    | none => some Rc.eptStale
    | some r =>
      if !s.sampleFresh r || v.ledger.hvil == .unknown then some Rc.eptStale
      else if v.ledger.hvil ≠ .closed then some Rc.hvilOpen
      else if (s.seenNum 0x2630 1 : Int) * r.vpack ≤ r.vlink * 100 then some Rc.linkVoltageHigh
      else if v.ledger.insulation = .low ∧ s.seenNum 0x2630 3 = 1 then some Rc.insulationLow
      else none

/-- A release refused after authentication is logged, with an EMCY for LINK_VOLTAGE_HIGH (R198, R211). -/
def State.logRefusal (s : State) (n : Nat) (code : Code) : State :=
  if code = Rc.linkVoltageHigh then s.alarm Ev.releaseRefused n (codeBytes code) else s.event Ev.releaseRefused n (codeBytes code)

/-- A proposal for the verdict stage of this tick's tail (R59; log entry 41). -/
def State.propose (s : State) (p : Proposal) : State :=
  { s with tilth := { s.tilth with proposals := s.tilth.proposals ++ [p] } }

/-- An authenticated RELEASE (R198, R200). -/
def State.tryRelease (s : State) (n : Nat) (x : Exchange) : State :=
  if s.lock.released then s.acknowledge n x Rc.ok
  else
    match s.releaseRefusal with
    | some c => (s.logRefusal n c).acknowledge n x c
    | none => s.propose (.release n)

/-- The exchange has received its RESPONSE (R195, R196). -/
def State.authenticated (s : State) (n : Nat) (x : Exchange) : State :=
  let x := { x with waiting := false }
  let t := match x.carrier with
    | .pdo => s.setExchange n x
    | c => (s.setExchange n x).setOutbound c []
  match x.op with
  | .status => t.acknowledge n x Rc.ok
  | .stop => t.propose (.stop n)
  | .release => t.tryRelease n x

/-- The total length of a RESPONSE in an exchange's form (R187). -/
def Exchange.responseLength (x : Exchange) : Nat := if x.site then 126 else 28

/-- A RESPONSE is checked in order (R195; log entry 67). -/
def State.checkExchange (s : State) (n : Nat) (x : Exchange) (msg : Bytes) : State :=
  if x.carrier != .pdo && msg.length != x.responseLength then s.refuseExchange n x Rc.messageMalformed
  else if msg.take 8 ≠ x.header 0x03 then s.refuseExchange n x Rc.exchangeUnknown
  else
    match s.formFails x with
    | some c => s.refuseExchange n x c
    | none =>
      let r := s.deriveExchange n x
      match r.1.openResponse r.2 msg with
      | none => r.1.exchangeAuthFail n r.2
      | some plain =>
        if byteAt plain 0 = exchangeOpCode x.op then r.1.authenticated n r.2 else r.1.exchangeAuthFail n r.2

/-- A RESPONSE on a carrier: checked while the carrier's exchange waits for it after its CHALLENGE's commit, else ignored (R58, R195,
R196; log entry 67). -/
def State.respond (s : State) (c : Carrier) (msg : Bytes) : State :=
  match s.exchangeOn c with
  | some n =>
    match (s.slot n).exchange? with
    | some x =>
      if x.waiting && x.challengeTick < s.now && (s.slot n).acts then
        (if s.changed n then s.refuseExchange n x Rc.credentialChanged else s.checkExchange n x msg)
      else s
    | none => s
  | none => s

/-- An inbound message by its TYPE (R196): any other is ignored. -/
def State.inbound (s : State) (port : Port) (c : Carrier) (msg : Bytes) : State :=
  match byteAt msg 0 with
  | 1 => s.request port c msg
  | 3 => s.respond c msg
  | _ => s

/-- A message on a carrier reaches the controller: a host write for a USDO server's pair, a received RPDO for the PDO pair (R191, R192;
log entry 27). -/
def State.deliver (s : State) (port : Port) (c : Carrier) (msg : Bytes) (act : State → State) : State :=
  match c with
  | .usdo v => s.hostWrite { port := port, srv := v } 0x2610 1 msg fun t => (act t, Rc.ok)
  | .pdo => if s.portServes port && (s.port port).nmt == .operational then act (s.put 0x2611 1 (padTo 32 msg)) else s

/-- VEHICLE_REQUEST (R193). -/
def execVehicleRequest (port : Port) (carrier : Carrier) (msg : Bytes) (s : State) : Out :=
  keepLock s (if byteAt msg 0 = 1 then s.deliver port carrier msg fun t => t.request port carrier msg else s)

/-- VEHICLE_RESPONSE (R195). -/
def execVehicleResponse (port : Port) (carrier : Carrier) (msg : Bytes) (s : State) : Out :=
  keepLock s (if byteAt msg 0 = 3 then s.deliver port carrier msg fun t => t.respond carrier msg else s)

/-- The exchange's response limit has run out (R194): its CV is discarded with it. -/
def State.responseLate (s : State) (c : Carrier) (n : Nat) (x : Exchange) : State :=
  if x.waiting && x.challengeTick + s.seenNum 0x2620 1 * ticksPerMs ≤ s.now then
    (match c with | .pdo => s | _ => s.setOutbound c []).finish n Rc.timeout
  else s

/-- VEHICLE_RESPONSE_TIMEOUT (R194). -/
def execVehicleResponseTimeout (carrier : Carrier) (s : State) : Out :=
  keepLock s <|
    match s.exchangeOn carrier with
    | some n => match (s.slot n).exchange? with | some x => s.responseLate carrier n x | none => s
    | none => s

/-! ## The lock's changes (R172 to R176, R182, R202) -/

/-- The mismatch bits clear and the settle times run again at a change of the lock (R181, R182). -/
def Vehicle.lockChanged (v : Vehicle) (now : Nat) : Vehicle :=
  { v with feedbackA := { v.feedbackA with mismatch := false, disagree := none }
           feedbackB := { v.feedbackB with mismatch := false, disagree := none }
           settleFrom := now }

/-- The record of a lock withheld with a cause: 2 stop, 3 HVIL (R174, R210). -/
def State.lockOff (s : State) (cause : Nat) : Lock := { released := false, changeTick := s.tick, cause := cause, credential := 0 }

/-- The record of a lock released for an exchange (R173, R210). -/
def State.lockOn (s : State) (x : Exchange) : Lock := { released := true, changeTick := s.tick, cause := 1, credential := x.cid }

/-- The lock is withheld with a cause (R174, R210). -/
def State.withhold (s : State) (cause : Nat) : State :=
  let t := { s with
    lock := s.lockOff cause
    vehicle := { s.vehicle.lockChanged s.now with releasePort := none } }
  let u := t.bump 0x2600 6
  ((if cause = 3 then u.alarm Ev.lockOff 0 (leBytes 1 cause) else u.event Ev.lockOff 0 (leBytes 1 cause)).occasion .lockChange).withLock
    (s.lockOff cause)

/-- The lock is released for an exchange (R173, R210). -/
def State.release (s : State) (x : Exchange) : State :=
  let t := { s with
    lock := s.lockOn x
    vehicle := { s.vehicle.lockChanged s.now with releasePort := some x.port } }
  (((t.bump 0x2600 5).event Ev.lockOn 0 (leBytes 4 x.cid)).occasion .lockChange).withLock (s.lockOn x)

/-- HVIL_WITHDRAWAL (R202; log entry 108). -/
def execHvilWithdrawal (s : State) : Out :=
  let t := if s.vehicle.hvilDue then { s with vehicle := { s.vehicle with hvilDue := false } } else s
  if s.vehicle.hvilDue && s.lock.released then .next { t.withhold 3 with pending := s.pending } else keepLock s t

/-! ## Feedback (R181, R182) -/

/-- A land's feedback. -/
def Vehicle.land (v : Vehicle) : Land → FeedbackLand
  | .lkfba => v.feedbackA
  | .lkfbb => v.feedbackB

/-- A land's feedback changed. -/
def State.setLand (s : State) (l : Land) (f : FeedbackLand → FeedbackLand) : State :=
  { s with vehicle := { s.vehicle with
      feedbackA := if l = .lkfba then f s.vehicle.feedbackA else s.vehicle.feedbackA
      feedbackB := if l = .lkfbb then f s.vehicle.feedbackB else s.vehicle.feedbackB } }

/-- The sub-index of a land's settle time at 0x2641, and its number in events. -/
def landSub : Land → Nat
  | .lkfba => 1 | .lkfbb => 2

/-- A land's feedback has disagreed for the persistence after the settle time (R182). -/
def State.mismatchDue (s : State) (l : Land) : Bool :=
  match (s.vehicle.land l).disagree with
  | some t =>
    !(s.vehicle.land l).mismatch &&
      max t (s.vehicle.settleFrom + s.seenNum 0x2641 (landSub l)) + s.seenNum 0x2641 3 ≤ s.now
  | none => false

/-- The table Readback mismatch (R182). -/
def State.readback (s : State) (l : Land) : State :=
  let t := s.setLand l fun f => { f with mismatch := true }
  if s.lock.released then t.alarm Ev.lockFeedbackLost (landSub l - 1) (leBytes 1 (landSub l - 1))
  else (t.alarm Ev.lockStuckOn (landSub l - 1) (leBytes 1 (landSub l - 1))).cause .lockReadback

/-- READBACK_MISMATCH (R182). -/
def execReadbackMismatch (land : Land) (s : State) : Out :=
  keepLock s (if s.running && s.mismatchDue land && s.feedbackOn land != s.lock.released then s.readback land else s)

/-! ## Latch (R203) -/

/-- LATCH_PULL_IN_END (R203). -/
def execLatchPullInEnd (s : State) : Out :=
  keepLock s <|
    if s.latch.on && !s.latch.hold && s.seenNum 0x2650 1 * ticksPerMs ≤ s.sinceTick s.latch.since then
      { s with latch := { s.latch with hold := true } }
    else s

/-! ## Panel (R204 to R206) -/

/-- A forced panel (R206): not in FACTORY or RETIRED, and with the latch de-energised. -/
def State.panelEdge (s : State) : State :=
  if s.mode ≠ .factory ∧ s.mode ≠ .retired ∧ !s.svlatch then
    let t := s.alarm Ev.panelForced 0 []
    if s.num 0x2651 4 = 1 then t.cause .panelForced else t
  else s

/-- The opens of the last second, this one included (R204). -/
def State.recentOpens (s : State) : List Tick :=
  s.tick :: s.vehicle.panel.opens.filter fun t => s.sinceTick t < ticksPerSecond

/-- The panel changed. -/
def State.setPanel (s : State) (f : Panel → Panel) : State :=
  { s with vehicle := { s.vehicle with panel := f s.vehicle.panel } }

/-- SVPANEL goes open: while it is masked no edge is acted on (R206). -/
def State.openPanel (s : State) : State :=
  if s.vehicle.panel.mask ≠ .armed then s.setPanel fun p => { p with open_ := true }
  else (s.setPanel fun p => { p with open_ := true, since := s.tick, opens := s.recentOpens }).panelEdge

/-- SVPANEL_OPEN_EDGE (R206): monitored only while CORE is on. -/
def execSvpanelOpenEdge (s : State) : Out := keepLock s (if s.running && !s.vehicle.panel.open_ then s.openPanel else s)

/-- A mask is due for a cause (R204). -/
def State.panelMaskDue (s : State) (c : MaskCause) : Bool :=
  s.vehicle.panel.mask == .armed &&
    match c with
    | .stuck => s.vehicle.panel.open_ && s.mode != .service && 2 * ticksPerSecond < s.sinceTick s.vehicle.panel.since
    | .rate => 8 ≤ (s.vehicle.panel.opens.filter fun t => s.sinceTick t < ticksPerSecond).length

/-- The mask a cause sets. -/
def maskOf : MaskCause → Mask
  | .stuck => .stuck
  | .rate => .rate

/-- PANEL_MASKED (R204). -/
def execPanelMasked (cause : MaskCause) (s : State) : Out :=
  keepLock s <|
    if s.running && s.panelMaskDue cause then
      (s.setPanel fun p => { p with mask := maskOf cause, maskedAt := s.tick, opens := [] }).event Ev.panelMasked 0
        (leBytes 1 (maskOf cause).code)
    else s

/-- PANEL_REARMED (R204): a stuck input has been seen closed; a rate mask has lasted 10 s. -/
def execPanelRearmed (s : State) : Out :=
  keepLock s <|
    if s.running && maskEnds s.vehicle.panel.mask (s.sinceTick s.vehicle.panel.maskedAt) then
      (s.setPanel fun p =>
        { p with mask := .armed, open_ := p.open_ && p.mask != .stuck, since := s.tick }).event Ev.panelRearmed 0 []
    else s

/-- PANEL_CLOSED (R19, R204): the filtered level goes closed; while masked the panel is still treated as open. -/
def execPanelClosed (s : State) : Out :=
  keepLock s <|
    if s.running && s.vehicle.panel.open_ then
      s.setPanel fun p => { p with open_ := false, since := if p.mask = .armed then s.tick else p.since }
    else s

/-- The panel state at 0x2651:01 (R210). -/
def Panel.code (p : Panel) : Nat :=
  match p.mask with
  | .armed => if p.open_ then 1 else 0
  | .stuck => 2
  | .rate => 3

end Sys2Proof.Machine
end

