-- ==== Sys2Proof/Machine/Inventory.lean ====
section
/-! DEFINITION. The module tag inventory (chapter 08): requests, the walk's anticollision procedure frame by frame, the result
table, comparison with the bindings, candidate sets and binding commits. -/

namespace Sys2Proof.Machine

/-! ## Requests (R223) -/

/-- The code of a purpose (R223). -/
def Purpose.code : Purpose → Nat
  | .read => 1 | .bind => 2 | .check => 3

/-- A mode allows a purpose (R223). -/
def purposeAllowed (m : Mode) (p : Purpose) : Bool :=
  match p with
  | .read => m == .factory || m == .blank || m == .enrol || m == .repurpose
  | .bind => m == .enrol || m == .repurpose
  | .check => m == .enrol || m == .transit || m == .bound || m == .depot || m == .service || m == .repurpose || m == .stationary

/-- The origin key in a slot (R218). -/
def State.originKey (s : State) (slot : Nat) : Bytes := s.seenBytes 0x2720 slot

/-- Some origin key slot is set (R223). -/
def State.hasOriginKey (s : State) : Bool := (List.range 4).any fun i => !allZero (s.originKey (i + 1))

/-- A walk is in flight, or its request waits (R223). -/
def State.walking (s : State) : Bool :=
  s.inv.walk.isSome || !(s.ofKind .inventory).isEmpty || s.tilth.waiting.any fun r => r.kind == .inventory

/-- The checks of R223 in order, up to admission. -/
def State.inventoryRefused (s : State) (p : Purpose) (mask : Nat) : Option Code :=
  if !purposeAllowed s.mode p then some Rc.modeForbids
  else if p = .bind ∧ !s.hasOriginKey then some Rc.noOriginKey
  else if mask = 0 then some Rc.loopInvalid
  else if s.walking then some Rc.busy
  else none

/-- A request that passes: the result table is replaced and the candidate set void (R223). -/
def State.requestWalk (s : State) (p : Purpose) (mask : Nat) : State × Code :=
  match s.inventoryRefused p mask with
  | some c => (s, c)
  | none =>
    let t := { s with inv := { s.inv with results := [], candidates := none } }
    let r := t.requestSession .inventory none (.inventory p mask)
    if r.2 then (r.1, Rc.ok) else (r.1.bump 0x2102 3, Rc.noResource)

/-- A host's request of a purpose: the loops of the request mask that are enabled (R219, R223). -/
def ownInventory (p : Purpose) : Own := fun s => s.requestWalk p (s.seenNum 0x2710 2 &&& s.seenNum 0x2701 1)

/-- INVENTORY_READ (R223). -/
def execInventoryRead (via : Via) (s : State) : Out := keepLock s (s.hostWrite via 0x2710 1 [0x01] (ownInventory .read))

/-- INVENTORY_BIND (R223). -/
def execInventoryBind (via : Via) (s : State) : Out := keepLock s (s.hostWrite via 0x2710 1 [0x02] (ownInventory .bind))

/-- INVENTORY_CHECK (R223). -/
def execInventoryCheck (via : Via) (s : State) : Out := keepLock s (s.hostWrite via 0x2710 1 [0x03] (ownInventory .check))

/-- PERIODIC_CHECK (R223): skipped where a walk is in flight. -/
def execPeriodicCheck (s : State) : Out :=
  keepLock s <|
    if s.running && s.seenNum 0x2711 1 != 0 && s.seenNum 0x2711 1 * ticksPerSecond ≤ s.sinceTick s.inv.checkFrom then
      (({ s with inv := { s.inv with checkFrom := s.tick } }).requestWalk .check (s.seenNum 0x2701 1)).1
    else s

/-- The settings a walk admitted now uses (R39, R232). -/
def State.walkSettings (s : State) : WalkSettings :=
  { settle := s.seenNum 0x2701 2, guard := s.seenNum 0x2701 3, power := s.seenNum 0x2702 1, maxRate := s.seenNum 0x2702 2,
    fwiCap := s.seenNum 0x2702 3, retries := s.seenNum 0x2702 4, limit := s.seenNum 0x2711 2, action := s.seenNum 0x2730 1,
    keys := (List.range 4).map fun i => s.originKey (i + 1) }

/-- A walk begins at its admission (R214, R219); its first step on HF turns to the first loop (R42, R47). -/
def State.startWalk (s : State) (n : Nat) (p : Purpose) (mask : Nat) : State :=
  match maskBits mask 8 with
  | [] => s.finish n Rc.loopInvalid
  | l :: rest =>
    let w : Walk :=
      { purpose := p, settings := s.walkSettings, mask := mask, todo := rest, loop := l,
        stack := [{ level := 1, done := [], known := [] }], step := .fieldOff, retries := 0, firstLoop := true, offFrom := s.tick,
        reqaAt := s.tick, fwi := 0, selections := [], taken := 0, since := s.tick, scanned := false }
    (((({ s with inv := { s.inv with walk := some w } }).putNum 0x2710 5 p.code).putNum 0x2731 5 0).bump 0x2750 0).firstStep n .hf
      none

/-! ## UIDs and entries (R217 to R219, R230) -/

/-- Bits in order of transmission as a number: the first bit is the least significant. -/
def bitsNat : List Bool → Nat
  | [] => 0
  | b :: bs => (if b then 1 else 0) + 2 * bitsNat bs

/-- The bytes of 32 bits in order of transmission. -/
def levelBytes (bits : List Bool) : Bytes := leBytes 4 (bitsNat bits)

/-- The UID of completed levels without the cascade tags (R217): every level but the last carries its tag first. -/
def uidOf : List (List Bool) → Bytes
  | [] => []
  | [last] => levelBytes last
  | l :: rest => (levelBytes l).drop 1 ++ uidOf rest

/-- Bytes 0 to 10 of an entry: the UID's length and the UID, padded (R230). -/
def uidField (u : Bytes) : Bytes := leBytes 1 u.length ++ padTo 10 u

/-- A binding entry (R230). -/
def Binding.entry (b : Binding) : Bytes :=
  uidField b.uid ++ leBytes 1 b.loop ++ leBytes 1 (flag b.present 1 + flag b.confirmed 0) ++ [b.keySlot] ++ padTo 2 b.type
    ++ padTo 4 b.serial ++ leBytes 4 b.seen

/-- The code of a tag state (R224); 0 while it is not yet verified. -/
def tagStateCode : Option TagState → Nat
  | none => 0
  | some .valid => 1 | some .present => 2 | some .foreign => 3 | some .originFail => 4 | some .unreadable => 5
  | some .nonCompliant => 6

/-- A result entry (R230). -/
def Tag.entry (t : Tag) : Bytes :=
  uidField t.uid ++ leBytes 1 t.loop ++ leBytes 1 t.also ++ leBytes 1 (tagStateCode t.state) ++ [t.keySlot] ++ leBytes 1 t.rate
    ++ padTo 2 t.type ++ padTo 4 t.serial ++ zeros 2 ++ (if t.record.isEmpty then zeros 8 else shake t.record 8)

/-- A result entry of a UID just found, not yet read. -/
def newTag (u : Bytes) (loop : Nat) (state : Option TagState) : Tag :=
  { uid := u, loop := loop, also := 2 ^ loop, state := state, keySlot := 0xFF, rate := 0, type := zeros 2, serial := zeros 4,
    record := [], signature := [] }

/-- The result entry of a UID changed. -/
def State.setTag (s : State) (u : Bytes) (f : Tag → Tag) : State :=
  { s with inv := { s.inv with results := s.inv.results.map fun t => if t.uid = u then f t else t } }

/-- A UID is recorded in this walk. -/
def State.tagKnown (s : State) (u : Bytes) : Bool := s.inv.results.any fun t => t.uid == u

/-- A result entry added. -/
def State.addTag (s : State) (t : Tag) : State := { s with inv := { s.inv with results := s.inv.results ++ [t] } }

/-- The walk changed. -/
def State.setWalk (s : State) (f : Walk → Walk) : State := { s with inv := { s.inv with walk := s.inv.walk.map f } }

/-- The walk's next step. -/
def State.walkStep (s : State) (st : WalkStep) : State := s.setWalk fun w => { w with step := st, retries := 0 }

/-- The slot of the walk in flight. -/
def State.walkSlot (s : State) : Nat := ((s.ofKind .inventory).head?).getD 0

/-! ## The end of a walk (R224 to R228) -/

/-- The results in one of some states. -/
def State.countTags (s : State) (p : TagState → Bool) : Nat := (s.inv.results.filter fun t => t.state.any p).length

/-- A binding lies on a loop of a mask and its UID was not found. -/
def State.missing (s : State) (mask : Nat) (b : Binding) : Bool := bit mask b.loop && !s.tagKnown b.uid

/-- A tag whose origin was verified. -/
def verified (t : Tag) : Bool := t.state == some .valid || t.state == some .present

/-- A binding after a complete walk (R224, R230; log entry 71). -/
def State.walkedBinding (s : State) (w : Walk) (b : Binding) : Binding :=
  let found := s.tagKnown b.uid
  let c := if w.purpose = .check ∧ (found ∨ bit w.mask b.loop) then { b with present := found } else b
  let d := if found then { c with seen := s.rtcSeconds } else c
  if w.purpose ≠ .bind ∧ s.mode = .repurpose ∧ (s.inv.results.any fun t => t.uid == b.uid && verified t) then { d with confirmed := true }
  else d

/-- The binding a candidate would receive (R228, R229). -/
def Tag.binding (t : Tag) (seen : Nat) : Binding :=
  { uid := t.uid, loop := t.loop, present := true, confirmed := true, keySlot := t.keySlot, type := t.type, serial := t.serial,
    seen := seen }

/-- The candidate digest (R228). -/
def candidateDigest (tags : List Tag) : Bytes := shake (tags.flatMap fun t => (t.binding 0).entry.take 20) 32

/-- A complete BIND walk forms a candidate set (R228; log entry 71). -/
def State.formCandidates (s : State) (mask : Nat) : State :=
  let c := s.inv.results.filter fun t => t.state == some .valid
  (({ s with inv := { s.inv with candidates := some (mask, s.rtcSeconds, c) } }).putNum 0x2712 2 c.length).put 0x2712 1
    (candidateDigest c)

/-- The counts at 0x2731 after a complete walk (R225). -/
def State.walkCounts (s : State) (w : Walk) : State :=
  let t := (s.putNum 0x2731 3 (s.countTags (· == .originFail))).putNum 0x2731 4
    (s.countTags fun st => st == .unreadable || st == .nonCompliant)
  if w.purpose = .check then
    (t.putNum 0x2731 1 (s.inv.bindings.filter (s.missing w.mask)).length).putNum 0x2731 2 (s.countTags (· == .foreign))
  else t

/-- A CHECK found differences (R225). -/
def State.checkDiffers (s : State) (w : Walk) : Bool :=
  w.purpose == .check && ((s.inv.bindings.any (s.missing w.mask))
    || s.countTags (fun st => st == .foreign || st == .originFail || st == .unreadable) != 0)

/-- What a CHECK reports (R225, R243). -/
def State.reportCheck (s : State) (w : Walk) (differs : Bool) : State :=
  if w.purpose = .check then
    let t := { s with inv := { s.inv with checkResult := if differs then Ev.moduleMismatch else Rc.ok } }
    let u := if differs then t.alarm Ev.moduleMismatch 0 [] else t
    (if differs ∧ w.settings.action = 1 then u.cause .moduleMismatch else u).rewriteStatus
  else s

/-- A walk is complete (R224 to R228). -/
def State.completeWalk (s : State) (n : Nat) (w : Walk) : State :=
  let differs := s.checkDiffers w
  let a := s.walkCounts w
  let b := { a with inv := { a.inv with walk := none, bindings := a.inv.bindings.map (s.walkedBinding w) } }
  let c := if w.purpose = .bind then b.formCandidates w.mask else b
  let d := (c.putCode 0x2710 3 Rc.ok).putNum 0x2710 4 ((s.now - (s.slot n).since) * 25)
  let e := d.event Ev.inventoryDone n
    (leBytes 1 w.purpose.code ++ codeBytes Rc.ok ++ leBytes 1 s.inv.results.length ++ d.bytes 0x2731 1 ++ d.bytes 0x2731 2
      ++ d.bytes 0x2731 3 ++ d.bytes 0x2731 4)
  (e.reportCheck w differs).finish n Rc.ok

/-- The walk completes once every loop has ended and every verification has committed (R227). -/
def State.settleWalk (s : State) (n : Nat) : State :=
  match s.inv.walk with
  | some w => if w.scanned && s.inv.results.all fun t => t.state.isSome then s.completeWalk n w else s
  | none => s

/-- A loop ends: the field goes off and the next loop is selected, or the walk has been round (R214, R227). -/
def State.endLoop (s : State) (n : Nat) : State :=
  match s.inv.walk with
  | some w =>
    match w.todo with
    | l :: rest =>
      s.setWalk fun w =>
        { w with todo := rest, loop := l, stack := [{ level := 1, done := [], known := [] }], step := .fieldOff, retries := 0,
                 firstLoop := false, offFrom := s.tick, selections := [], taken := 0 }
    | [] => (s.setWalk fun w => { w with scanned := true, step := .fieldOff, offFrom := s.tick }).settleWalk n
  | none => s

/-! ## The procedure of R219 -/

/-- The next branch, or the confirmation pass once the stack is empty (R219, R221). -/
def State.nextBranch (s : State) : State :=
  s.setWalk fun w =>
    match w.stack with
    | b :: rest => { w with stack := rest, step := .reqa b, retries := 0 }
    | [] => { w with step := .confirm false, retries := 0, reqaAt := s.tick }

/-- The branch goes on at its level: SELECT once 32 bits are known, else anticollision (R219, R220). -/
def State.goOn (s : State) (b : Branch) : State := s.walkStep (if b.known.length = 32 then .select b else .anticollision b)

/-- A branch is abandoned with a walk error (R219). -/
def State.abandon (s : State) : State := (s.bump 0x2731 5).nextBranch

/-- A frame without a valid answer is sent again, up to the retries the walk started with; after them its outcome follows (R219, R220,
R222). -/
def State.retried (s : State) (w : Walk) (outcome : State) : State :=
  if w.retries < w.settings.retries then s.setWalk fun w => { w with retries := w.retries + 1 } else outcome

/-- A garbled answer at anticollision or selection (R219, R220). -/
def State.garbled (s : State) (w : Walk) : State := s.retried w s.abandon

/-- After a tag: the loop ends at 16 taken tags, else the next branch (R219, R222; log entry 70). -/
def State.nextTag (s : State) (n : Nat) : State :=
  match s.inv.walk with
  | some w => if 16 ≤ w.taken then (s.event Ev.loopOverfull w.loop (leBytes 1 w.loop)).endLoop n else s.nextBranch
  | none => s

/-- A tag that is taken without being read is halted (R219, R222). -/
def State.haltTag (s : State) : State := s.walkStep .halt

/-- A tag selected a third time on one loop (R222; log entry 73). -/
def State.wontHalt (s : State) (n loop : Nat) (u : Bytes) : State :=
  let t := if s.tagKnown u then s.setTag u fun t => { t with state := some .unreadable } else s.addTag (newTag u loop (some .unreadable))
  (t.event Ev.tagWontHalt loop (uidField u)).endLoop n

/-- Take a tag with its final SAK (R215, R216, R219, R222; log entries 70 and 73). -/
def State.takeTag (s : State) (n : Nat) (w : Walk) (u : Bytes) (sak : Byte) : State :=
  let times := (w.selections.filter (· == u)).length
  let t := s.setWalk fun w => { w with selections := u :: w.selections }
  if 2 ≤ times then t.wontHalt n w.loop u
  else if u = uid then (t.event Ev.selfSeen w.loop []).haltTag
  else if s.tagKnown u then
    ((t.setWalk fun w => { w with taken := w.taken + 1 }).setTag u fun t => { t with also := t.also ||| 2 ^ w.loop }).haltTag
  else if 128 ≤ s.inv.results.length then t.finish n Rc.deviceOverfull
  else
    let v := t.setWalk fun w => { w with taken := w.taken + 1 }
    if sak.getLsbD 5 then (v.addTag (newTag u w.loop none)).walkStep (.activate u)
    else (v.addTag (newTag u w.loop (some .nonCompliant))).haltTag

/-- A SAK after SELECT of a branch's level (R219). -/
def State.selected (s : State) (n : Nat) (w : Walk) (b : Branch) (sak : Byte) : State :=
  let levels := b.done ++ [b.known]
  if sak.getLsbD 2 then
    if b.level < 3 then s.goOn { level := b.level + 1, done := levels, known := [] } else s.abandon
  else s.takeTag n w (uidOf levels) sak

/-- The answer to an anticollision command (R219, R220). -/
def State.anticollided (s : State) (w : Walk) (b : Branch) (r : HfReply) : State :=
  match r with
  | .bits answer =>
    if b.known.length + answer.length = 32 then s.goOn { b with known := b.known ++ answer } else s.garbled w
  | .collision answer =>
    if b.known.length + answer.length < 32 then
      (s.setWalk fun w => { w with stack := { b with known := b.known ++ answer ++ [true] } :: w.stack }).goOn
        { b with known := b.known ++ answer ++ [false] }
    else s.garbled w
  | _ => s.garbled w

/-- A tag fails during its reading (R222). -/
def State.unreadable (s : State) (u : Bytes) : State := (s.setTag u fun t => { t with state := some .unreadable }).haltTag

/-- The record of a tag has been read; its verification on SIG starts (R48, R217, R218). -/
def State.originRead (s : State) (u : Bytes) (rate : Nat) (record signature : Bytes) : State :=
  if record.length = 32 ∧ signature.length = 114 then
    ((s.setTag u fun t =>
      { t with keySlot := (record[1]?).getD 0xFF, rate := rate, type := slice record 2 2, serial := slice record 4 4,
               record := record, signature := signature }).firstAccess .sec s.walkSlot).walkStep .deselect
  else s.unreadable u

/-- The rate PPS negotiates (R212): the highest code up to the maximum that TA(1) allows in both directions (ISO/IEC 14443-4; log entry
157). -/
def negotiated (ta : Byte) (maxRate : Nat) : Nat :=
  if 3 ≤ maxRate ∧ ta.getLsbD 2 ∧ ta.getLsbD 6 then 3
  else if 2 ≤ maxRate ∧ ta.getLsbD 1 ∧ ta.getLsbD 5 then 2
  else if 1 ≤ maxRate ∧ ta.getLsbD 0 ∧ ta.getLsbD 4 then 1
  else 0

/-- A frame exchange of the walk has ended (R219 to R222). A garbled answer to REQA counts, after its retries, as none (log entry 157). -/
def State.hfReply (s : State) (n : Nat) (w : Walk) (r : HfReply) : State :=
  match w.step, r with
  | .fieldOff, _ => s
  | .reqa b, .atqa => if b.done.isEmpty then s.goOn b else s.walkStep (.reselect b 0)
  | .reqa _, .failed => s.retried w s.nextBranch
  | .reqa _, _ => s.nextBranch
  | .reselect b k, .sak _ => if k + 1 < b.done.length then s.walkStep (.reselect b (k + 1)) else s.goOn b
  | .reselect _ _, _ => s.garbled w
  | .anticollision b, r => s.anticollided w b r
  | .select b, .sak v => s.selected n w b v
  | .select _, _ => s.garbled w
  | .activate u, .activated ta fwi =>
    (s.setWalk fun w => { w with fwi := min fwi w.settings.fwiCap }).walkStep (.application u (negotiated ta w.settings.maxRate))
  | .activate u, _ => s.retried w (s.unreadable u)
  | .application u rate, .selected => s.walkStep (.readOrigin u rate)
  | .application u _, .refused => s.unreadable u
  | .application u _, _ => s.retried w (s.unreadable u)
  | .readOrigin u rate, .origin record signature => s.originRead u rate record signature
  | .readOrigin u _, .refused => s.unreadable u
  | .readOrigin u _, _ => s.retried w (s.unreadable u)
  | .deselect, .failed => s.retried w (s.nextTag n)
  | .deselect, _ => s.nextTag n
  | .halt, _ => s.nextTag n
  | .confirm _, .atqa => (s.setWalk fun w => { w with stack := [{ level := 1, done := [], known := [] }] }).nextBranch
  | .confirm second, .failed =>
    s.retried w (if second then s.endLoop n else (s.walkStep (.confirm true)).setWalk fun w => { w with reqaAt := s.tick })
  | .confirm second, _ =>
    if second then s.endLoop n else (s.walkStep (.confirm true)).setWalk fun w => { w with reqaAt := s.tick }

/-- A step of the walk: the mode is checked again first (R226). -/
def State.stepWalk (s : State) (act : State → Nat → Walk → State) : State :=
  match s.inv.walk with
  | some w =>
    if !(s.slot s.walkSlot).acts then s
    else if !purposeAllowed s.seen.life.mode w.purpose then s.finish s.walkSlot Rc.modeForbids
    else act s s.walkSlot w
  | none => s

/-- After an operation on HF the walk's next one is ready for the engine; once only verifications are left, the session waits for them
(R47, R218, R227). -/
def State.walkOn (s : State) (n : Nat) : State :=
  match s.inv.walk with
  | some w => if w.scanned then s.await n else s.makeReady n .hf none
  | none => s

/-- The walk's operation on HF is in progress (R47). -/
def State.onHf (s : State) (n : Nat) : Bool :=
  s.isOn .hfr && (s.slot n).state == .waitingEngine && (s.slot n).engine == some .hf

/-- Microseconds for which the field stays off before the selected loop: the settle time, and at least 1 ms between loops (R214). -/
def Walk.offUs (w : Walk) : Nat := if w.firstLoop then w.settings.settle else max 1000 w.settings.settle

/-- The reader's field is on: while the walk works on a loop, its guard included (R214, R215). -/
def State.readerField (s : State) : Bool :=
  s.isOn .hfr && s.inv.walk.any fun w => !w.scanned && (w.step != .fieldOff || decide (w.offUs ≤ s.sinceTick w.offFrom * 25))

/-- The energy of a loop's field: 0.10 W + 0.5 × P_set, over the guard and sixteen tags of 8 ms (R213, R231, R419; log entry 10). -/
def Walk.fieldEnergy (w : Walk) : Nat := energyUnits (100000 + 500 * w.settings.power) (w.settings.guard + 128000)

/-- The field of the selected loop comes on (R213, R214). -/
def State.fieldOn (s : State) (n : Nat) (w : Walk) (vhfMv driverPercent : Nat) : State :=
  let t := s.putNum 0x2700 2 vhfMv
  if s.platform.fallbackClock then t.finish n Rc.hwFault
  else if vhfMv < 3000 ∨ 5500 < vhfMv then (t.raise 0xFF08 Rc.hfSupply n).finish n Rc.hfSupply
  else if t.thermalRefuses w.fieldEnergy then (t.thermalRefused 3 n w.fieldEnergy).finish n Rc.thermalBudget
  else if driverPercent < 70 ∨ 130 < driverPercent then (t.event Ev.loopFault w.loop (leBytes 1 w.loop)).endLoop n
  else t.nextBranch

/-- LOOP_FIELD_ON (R214): the field has been off for its time and the guard has passed. -/
def execLoopFieldOn (vhfMv driverPercent : Nat) (s : State) : Out :=
  keepLock s <|
    s.stepWalk fun s n w =>
      if s.onHf n ∧ w.step = .fieldOff ∧ !w.scanned ∧ w.offUs + w.settings.guard ≤ s.sinceTick w.offFrom * 25 then
        (s.fieldOn n w vhfMv driverPercent).walkOn n
      else s

/-- The two REQA of the confirmation pass lie 1 ms apart (R221). -/
def State.reqaDue (s : State) (w : Walk) : Bool := w.step != .confirm true || 40 ≤ s.sinceTick w.reqaAt

/-- HF_FRAME_EXCHANGE_END (R219). -/
def execHfFrameExchangeEnd (reply : HfReply) (s : State) : Out :=
  keepLock s <|
    s.stepWalk fun s n w => if s.onHf n ∧ w.step ≠ .fieldOff ∧ s.reqaDue w then (s.hfReply n w reply).walkOn n else s

/-! ## Origin verification (R218) -/

/-- The origin signature of a tag verifies against the key the walk started with (R217, R218, R232). -/
def Walk.originHolds (w : Walk) (t : Tag) : Bool :=
  let key := (w.settings.keys[t.keySlot.toNat - 1]?).getD []
  byteAt t.record 0 == 1 && 1 ≤ t.keySlot.toNat && t.keySlot.toNat ≤ 4 && !allZero key
    && sigHolds key (ascii "BLS9640-MODORG") (leBytes 1 t.uid.length ++ t.uid ++ t.record) t.signature

/-- The state a verified tag receives (R224). -/
def State.tagVerdict (s : State) (w : Walk) (t : Tag) : TagState :=
  if !w.originHolds t then .originFail
  else
    match w.purpose with
    | .check => if s.inv.bindings.any fun b => b.uid == t.uid then .present else .foreign
    | _ => .valid

/-- A tag's verification ends (R218, R227); SHE that has failed fails the walk (R307; log entry 72). -/
def State.verifyTag (s : State) (n : Nat) (w : Walk) (t : Tag) : State :=
  if s.sig.failed then s.finish n Rc.sheFailed
  else ((s.she 1).setTag t.uid fun u => { u with state := some (s.tagVerdict w t) }).settleWalk n

/-- SIG is free for a verification: SEC is on and no session holds the engine (R45, R47; log entry 158). -/
def State.sigFree (s : State) : Bool :=
  s.isOn .sec && !(s.tilth.slots.any fun sl => sl.state == .waitingEngine && sl.engine == some .sig)

/-- ORIGIN_VERIFY_END (R218): of a result entry numbered from 1 whose record has been read. -/
def execOriginVerifyEnd (entry : Nat) (s : State) : Out :=
  keepLock s <|
    s.stepWalk fun s n w =>
      match s.inv.results[entry - 1]? with
      | some t => if entry ≠ 0 ∧ t.state.isNone ∧ t.record.length = 32 ∧ s.sigFree then s.verifyTag n w t else s
      | none => s

/-- INVENTORY_TIMEOUT (R231). -/
def execInventoryTimeout (s : State) : Out :=
  keepLock s <|
    match s.inv.walk with
    | some w => if s.lasted s.walkSlot w.settings.limit then s.finish s.walkSlot Rc.inventoryTimeout else s
    | none => s

/-! ## Binding commit (R229) -/

/-- A binding table with more than 128 bindings or more than 16 on one loop. -/
def overfull (l : List Binding) : Bool :=
  128 < l.length || (List.range 8).any fun n => 16 < (l.filter fun b => b.loop == n).length

/-- The bindings after a commit (R229). -/
def State.committed (s : State) (mask seen : Nat) (tags : List Tag) : List Binding :=
  (s.inv.bindings.filter fun b => !bit mask b.loop) ++ tags.map fun t => t.binding seen

/-- A write to 0x2712:03 by its own rule, before its result is noted (R229). -/
def State.bindingCommit (s : State) (value : Bytes) : State × Code :=
  if s.mode ≠ .enrol ∧ s.mode ≠ .repurpose then (s, Rc.modeForbids)
  else if s.walking then (s, Rc.busy)
  else
    match s.inv.candidates with
    | none => (s, Rc.candidatesChanged)
    | some (mask, seen, tags) =>
      if candidateDigest tags ≠ value then (s, Rc.candidatesChanged)
      else if overfull (s.committed mask seen tags) then (s, Rc.deviceOverfull)
      else
        (({ s with inv := { s.inv with bindings := s.committed mask seen tags, candidates := none } }).event Ev.bindingCommitted 0
          (leBytes 1 tags.length), Rc.ok)

/-- A write to 0x2712:03 by its own rule (R229). -/
def ownBindingCommit (value : Bytes) : Own := fun s =>
  ((s.bindingCommit value).1.putCode 0x2712 4 (s.bindingCommit value).2, (s.bindingCommit value).2)

/-- BINDING_COMMIT (R229). -/
def execBindingCommit (via : Via) (value : Bytes) (s : State) : Out :=
  keepLock s (s.hostWrite via 0x2712 3 value (ownBindingCommit value))

/-- The reader state at 0x2700:01 (R232). -/
def State.readerState (s : State) : Nat :=
  if !s.isOn .hfr then 0 else match s.inv.walk with | none => 1 | some w => if w.scanned then 3 else 2

end Sys2Proof.Machine
end

