-- ==== Sys2Proof/Machine/Kaolin.lean ====
section
/-! DEFINITION. Kaolin, the passport tag (chapter 09): power, activation, its command set with secure messaging, the write guard,
field appends, host file writes, the seed carry and the field log. -/

namespace Sys2Proof.Machine

/-! ## Supply and answers (R237, R238, R245, R254) -/

/-- Kaolin runs from VDD3 (R237). -/
def State.vddSupplied (s : State) : Bool := s.isOn .fld

/-- CORE is on and runs (R248, R252). -/
def State.coreOn (s : State) : Bool := s.running && s.isOn .core

/-- The write guard for a record of a number of bytes (R254): 40 µJ and 0.5 µJ for each byte of both its copies; from VDD3 it holds. The
rail stands at 3.0 V or above while a field session lasts (log entry 75). -/
def State.guardHolds (s : State) (bytes : Nat) : Bool := s.vddSupplied || 40 + bytes ≤ s.kaolin.reservoir

/-- P and the reservoir as measured now, and the lowest P of the field session (R238, R262). -/
def State.harvest (s : State) (h : Harvest) : State :=
  { s with kaolin :=
      { s.kaolin with
        power := h.power, reservoir := min 245 h.reservoir
        field := s.kaolin.field.map fun (f : FieldSession) => { f with lowestP := min f.lowestP h.power } } }

/-- Kaolin changed. -/
def State.setKaolin (s : State) (f : Kaolin → Kaolin) : State := { s with kaolin := f s.kaolin }

/-- The field session changed. -/
def State.setField (s : State) (f : FieldSession → FieldSession) : State :=
  s.setKaolin fun k => { k with field := k.field.map f }

/-- An answer on the air (R244, R245). -/
def State.answer (s : State) (data : Bytes) (sw : Nat) : State := s.setKaolin fun k => { k with response := (data, sw) }

/-- A refusal for a field too weak, counted (R238, R254). -/
def State.weak (s : State) : State := s.bump 0x2822 3

/-- Secured state is available in a mode (R246). -/
def securedAllowed (m : Mode) : Bool := m != .factory && m != .blank && m != .quarantine && m != .retired

/-- Secured state left, staged data discarded (R250). -/
def FieldSession.open' (f : FieldSession) : FieldSession := { f with secured := .open_, staged := none }

/-- A new field session (R234). -/
def FieldSession.new (power : Nat) : FieldSession :=
  { active := false, rate := 0, app := none, file := none, voided := false, secured := .open_, challenge := none, pool := [],
    staged := none, reached := false, path := 0, readerId := 0, reads := 0, failedAuth := 0, appends := 0, liveSigns := 0,
    lowestP := power }

/-! ## Field log (R262) -/

/-- The power source (0x2800:02). -/
def State.powerSource (s : State) : Nat := if s.vddSupplied then 2 else if s.kaolin.field.isSome then 1 else 0

/-- The FIELDLOG entry of a field session (R262). -/
def State.fieldEntry (s : State) (f : FieldSession) : Bytes :=
  leBytes 6 s.tick ++ leBytes 1 f.path ++ leBytes 4 f.readerId ++ leBytes 1 f.reads ++ leBytes 1 f.failedAuth ++ leBytes 1 f.appends
    ++ leBytes 1 f.liveSigns ++ leBytes 1 s.powerSource ++ leBytes 2 f.lowestP ++ zeros 14

/-- The field session's entry is written to the ring of 16 where it reached the Kaolin application and the guard holds (log entry 77). -/
def State.logField (s : State) (f : FieldSession) : State :=
  if !f.reached then s
  else if s.guardHolds 32 then
    let l := s.kaolin.log ++ [s.fieldEntry f]
    s.setKaolin fun k => { k with log := l.drop (l.length - 16), fresh := min 16 (k.fresh + 1) }
  else s.weak

/-- FIELDLOG as a file of 512 bytes (R242, R262). -/
def State.fieldLogFile (s : State) : Bytes := padTo 512 s.kaolin.log.flatten

/-! ## Power and activation (R235, R238, R250, R255, R256) -/

/-- A damaged record is repaired, or treated by its kind where both copies are bad (R255, R256; log entry 78). -/
def State.recoverTorn (s : State) (t : Torn) : State :=
  if !t.both then s.event Ev.tornWriteRecovered 0 (leBytes 1 0)
  else
    let u := match t.record with
      | .file fid => s.setKaolin fun k => { k with files := k.files.map fun (f : KaolinFile) => if f.fid = fid then { f with content := none } else f }
      | .pinTries => s.setKaolin fun k => { k with pinTries := 0 }
      | .failures n => s.setKaolin fun k => { k with failures := k.failures.set (n - 1) (s.num 0x2813 0) }
      | .carry => s.setKaolin fun k => { k with carry := none }
      | .logEntry n => s.setKaolin fun k => { k with log := k.log.set (n - 1) (zeros 32) }
    u.alarm Ev.tornWriteRecovered 0 (leBytes 1 1)

/-- The field path's key registers are zeroed at the end of its field session (R273). -/
def State.dropFieldKeys (s : State) : State :=
  { s with cipher := { s.cipher with registers := s.cipher.registers.filter fun r => r.owner != .kaolin } }

/-- Kaolin is ready to answer REQA (R238). -/
def State.beginField (s : State) (h : Harvest) : State :=
  (s.setKaolin fun k => { k with field := some (FieldSession.new h.power) }).harvest h

/-- KAOLIN_FIELD_POWER_UP (R238, R255; log entry 78). -/
def execKaolinFieldPowerUp (power reservoir : Nat) (torn : List Torn) (s : State) : Out :=
  keepLock s <|
    if s.kaolin.field.isNone && 80 ≤ power then (torn.foldl State.recoverTorn s).beginField ⟨power, reservoir⟩ else s

/-- P below a bound and the reservoir as measured where no command of a reader brings them: free values (log entry 166). -/
def State.harvestUnknown (s : State) (bound : Nat) : State :=
  (s.harvest ⟨s.freshBelow bound, Config.freeNat (s.free + 1) % 246⟩).used 2

/-- KAOLIN_DROP_OUT (R238): under field power alone, P below 7 mW (log entries 77, 78 and 166). -/
def execKaolinDropOut (s : State) : Out :=
  keepLock s <|
    if s.vddSupplied then s
    else
      let t := s.harvestUnknown 70
      match t.kaolin.field with
      | some f => (t.logField f).dropFieldKeys.setKaolin fun k => { k with field := none, signing := false, power := 0, reservoir := 0 }
      | none => t

/-- KAOLIN_ACTIVATION (R234, R235): at 106 or 212 kbit/s; from VDD3 no field power-up need precede it (R237). A field session begins
(0x2822:01; log entry 77). -/
def execKaolinActivation (found : Activation) (s : State) : Out :=
  keepLock s <|
    let t := (if s.kaolin.field.isNone && s.vddSupplied then s.beginField found.harvest else s).harvest found.harvest
    match t.kaolin.field with
    | some f => if f.active || 1 < found.rate then t else (t.setField fun f => { f with active := true, rate := found.rate }).bump 0x2822 1
    | none => t

/-- KAOLIN_DESELECT (R250, R262): the session's entry is written and the tag halted; the field stays (log entry 166). -/
def execKaolinDeselect (s : State) : Out :=
  keepLock s <|
    let t := s.harvestUnknown 65536
    match t.kaolin.field with
    | some f =>
      if f.active then
        (t.logField f).dropFieldKeys.setKaolin fun k => { k with field := some (FieldSession.new k.power), signing := false }
      else t
    | none => t

/-! ## Commands: the frame around each (R244, R246, R249, R259) -/

/-- What a command's body answers: the state, the response data and the status word. -/
abbrev KaolinBody := State → FieldSession → Bytes → State × Bytes × Nat

/-- Before a command the power and the mode are read: secured state the mode no longer allows is dropped; a live signing has been answered
(R238, R246). -/
def State.beginCommand (s : State) (h : Harvest) : State :=
  let t := (s.harvest h).setKaolin fun k => { k with signing := false }
  if securedAllowed s.mode then t else t.setField FieldSession.open'

/-- The IV of R249: direction, INS, SEQ. -/
def messagingIv (direction ins seq : Nat) : Bytes := leBytes 1 direction ++ leBytes 1 ins ++ leBytes 2 seq ++ zeros 8

/-- 6F 51 and 6F 52 are answered unprotected and advance no SEQ (R249). -/
def unprotected (sw : Nat) : Bool := sw == 0x6F51 || sw == 0x6F52

/-- The two bytes of a status word. -/
def swBytes (sw : Nat) : Bytes := beBytes 2 sw

/-- The SEQ counters after a protected command and its response. -/
def FieldSession.advance (f : FieldSession) : FieldSession :=
  match f.secured with
  | .reader e k i o => { f with secured := .reader e k (i + 1) (o + 1) }
  | _ => f

/-- A command under secure messaging (R249); a FAILED cipher engine cannot open it (R284; log entry 160). -/
def State.protectedCommand (s : State) (f : FieldSession) (ksr : Bytes) (i o cla ins : Nat) (p1 p2 : Byte) (data : Bytes)
    (body : KaolinBody) : State :=
  if s.cipher.failed then s.answer [] 0x6F52
  else
  match gcmOpen ksr (messagingIv 2 ins i) (leBytes 1 cla ++ leBytes 1 ins ++ [p1, p2]) data with
  | none => ((s.gcmOpened (data.length - 16)).tagFailed.setField FieldSession.open').answer [] 0x6982
  | some plain =>
    let r := body (s.gcmOpened (data.length - 16)) f plain
    if unprotected r.2.2 then r.1.answer r.2.1 r.2.2
    else
      ((r.1.gcm 1).setField FieldSession.advance).answer (gcmSeal ksr (messagingIv 1 ins o) (swBytes r.2.2) r.2.1) r.2.2

/-- The PASSPORT session a secured field command needs while CORE is on (R259): its slot, or none where none is to be had (log entry 133).
-/
def State.passportSlot (s : State) (f : FieldSession) : Option (Option Nat) :=
  if f.secured = .open_ ∨ !s.coreOn then some none
  else if s.tilth.gateAdmits .passport ∧ SessionKind.passport.initialClods ≤ s.tilth.available .passport then (s.freeSlot .passport).map some else none

/-- A command that may come under secure messaging (R244, R249, R259). -/
def State.command (s : State) (cla ins : Nat) (p1 p2 : Byte) (a : Apdu) (body : KaolinBody) : State :=
  let s := s.beginCommand a.harvest
  match s.kaolin.field with
  | none => s
  | some f =>
    if !f.active then s
    else
      match s.passportSlot f with
      | none => s.answer [] 0x6F52
      | some slot =>
        let t := match f.secured with
          | .reader _ ksr i o =>
            if a.sm then s.protectedCommand f ksr i o cla ins p1 p2 a.data body
            else (s.setField FieldSession.open').answer [] 0x6982
          | _ =>
            if a.sm then s.answer [] 0x6E00
            else
              let r := body s f a.data
              r.1.answer r.2.1 r.2.2
        match slot with
        | some n => t.setSlot n fun _ => (admittedSlot .passport .passport none s.now).close Rc.ok s.now
        | none => t

/-- A body of the open state of the Kaolin application (R244; log entry 74): elsewhere the security status does not allow it. -/
def inOpenState (body : KaolinBody) : KaolinBody := fun s f data =>
  if f.secured = .open_ ∧ f.app = some .kaolin then body s f data else (s, [], 0x6982)

/-! ## SELECT (R239) -/

/-- The application of an AID (R239). -/
def appOf (aid : Bytes) : Option KaolinApp :=
  if aid = [0xD2, 0x76, 0x00, 0x00, 0x85, 0x01, 0x01] then some .ndef
  else if aid = [0xF0, 0x42, 0x4C, 0x53, 0x2D, 0x50, 0x41, 0x53] then some .kaolin
  else none

/-- The application selected: another one ends the secured state (R239, R250). -/
def FieldSession.selectApp (f : FieldSession) (a : KaolinApp) : FieldSession :=
  let g := if f.app.any (· != a) then f.open' else f
  { g with app := some a, file := none, voided := false, reached := g.reached || a == .kaolin }

/-- KAOLIN_SELECT_AID (R239). -/
def execKaolinSelectAid (p1 p2 : Byte) (apdu : Apdu) (s : State) : Out :=
  keepLock s <| s.command 0x0C 0xA4 p1 p2 apdu fun s _ aid =>
    if p1 ≠ 0x04 ∨ p2 ≠ 0x00 then (s, [], 0x6A86)
    else
      match appOf aid with
      | some a => (s.setField fun f => f.selectApp a, [], 0x9000)
      | none => (s, [], 0x6A82)

/-- A file of an application (R240 to R242). -/
def fileOf (a : KaolinApp) (fid : Nat) : Bool :=
  match a with
  | .ndef => fid == 0xE103 || fid == 0xE104
  | .kaolin => [0x0101, 0x0102, 0x0103, 0x0104, 0x0110, 0x0130, 0x0140, 0x0141, 0x0142, 0x0143, 0x0150].contains fid

/-- KAOLIN_SELECT_FID (R239). -/
def execKaolinSelectFid (p1 p2 : Byte) (apdu : Apdu) (s : State) : Out :=
  keepLock s <| s.command 0x0C 0xA4 p1 p2 apdu fun s f fid =>
    if p1 ≠ 0x00 ∨ p2 ≠ 0x0C then (s, [], 0x6A86)
    else if fid.length ≠ 2 then (s, [], 0x6700)
    else if f.app.any fun a => fileOf a (beNat fid) then
      (s.setField fun f => { f with file := some (beNat fid), voided := false }, [], 0x9000)
    else (s, [], 0x6A82)

/-! ## READ BINARY (R242, R244, R245) -/

/-- The rights of the secured state (R247, R248): WRITE_MAINT is never granted through the PIN. -/
def State.rights (s : State) (f : FieldSession) : Nat :=
  match f.secured with
  | .open_ => 0
  | .pin => s.seenNum 0x2810 4 - (if bit (s.seenNum 0x2810 4) 1 then 2 else 0)
  | .reader e _ _ _ => byteAt (s.seenBytes 0x2811 e) 4

/-- A MAINT file (R242). -/
def isMaint (fid : Nat) : Bool := 0x0140 ≤ fid && fid ≤ 0x0143

/-- The access condition of a file's read (R242). -/
def State.mayRead (s : State) (f : FieldSession) (fid : Nat) : Bool :=
  if isMaint fid then bit (s.rights f) 0 else if fid = 0x0150 then bit (s.rights f) 3 else true

/-- A file as the field reads it; none where it is empty or damaged (R242, R256). -/
def State.fieldFile (s : State) (fid : Nat) : Option Bytes :=
  if fid = 0x0150 then some s.fieldLogFile
  else match s.file fid with | some [] => none | c => c

/-- The 15-bit offset of P1 and P2 (R244). -/
def offsetOf (p1 p2 : Byte) : Nat := p1.toNat % 128 * 256 + p2.toNat

/-- The bytes a read asks for: Le of 0 asks for the most a response carries (R244; log entry 74). -/
def wanted (le : Nat) : Nat := if le = 0 then 246 else le

/-- READ BINARY of a file (R244, R245; log entry 74). -/
def State.readFile (s : State) (f : FieldSession) (fid off le : Nat) : State × Bytes × Nat :=
  if !s.mayRead f fid then (s, [], 0x6982)
  else
    match s.fieldFile fid with
    | none => (s, [], 0x6A82)
    | some c =>
      if c.length ≤ off then (s, [], 0x6B00)
      else
        let data := slice c off (wanted le)
        (s.setField fun f => { f with reads := f.reads + 1 }, data, if data.length < wanted le then 0x6282 else 0x9000)

/-- KAOLIN_READ_BINARY (R244; log entry 74). -/
def execKaolinReadBinary (p1 p2 : Byte) (apdu : Apdu) (le : Nat) (s : State) : Out :=
  keepLock s <| s.command 0x0C 0xB0 p1 p2 apdu fun s f _ =>
    if 128 ≤ p1.toNat then (s, [], 0x6A86)
    else if 246 < le then (s, [], 0x6700)
    else
      match f.file with
      | none => (s, [], 0x6986)
      | some fid => if f.voided then (s, [], 0x6986) else s.readFile f fid (offsetOf p1 p2) le

/-! ## VERIFY (R247) -/

/-- The digest of a PIN (R247). -/
def pinDigest (pin : Bytes) : Bytes := shake (ascii "BLS9640-KPIN" ++ uid ++ pin) 32

/-- Secured state is entered (R247, R248). -/
def State.enterSecured (s : State) (sec : Secured) (path reader : Nat) : State :=
  (s.setField fun f => { f with secured := sec, path := path, readerId := reader, challenge := none }).event Ev.securedEntered 0
    (leBytes 1 path ++ leBytes 4 reader)

/-- A PIN is compared after its try has been taken (R247; log entry 75). -/
def State.tryPin (s : State) (pin : Bytes) : State × Bytes × Nat :=
  let tries := s.kaolin.pinTries - 1
  if pinDigest pin = s.seenBytes 0x2810 1 then
    ((s.setKaolin fun k => { k with pinTries := s.seenNum 0x2810 2 }).enterSecured .pin 1 0, [], 0x9000)
  else
    let t := (s.setKaolin fun k => { k with pinTries := tries }).setField fun f => { f with failedAuth := f.failedAuth + 1 }
    (if tries = 0 then t.event Ev.pinBlocked 0 [] else t, [], 0x63C0 + min 15 tries)

/-- KAOLIN_VERIFY (R247). -/
def execKaolinVerify (p1 p2 : Byte) (apdu : Apdu) (s : State) : Out :=
  keepLock s <| s.command 0x0C 0x20 p1 p2 apdu <| inOpenState fun s _ pin =>
    if p1 ≠ 0x00 ∨ p2 ≠ 0x80 then (s, [], 0x6A86)
    else if pin.length ≠ 4 then (s, [], 0x6700)
    else if !securedAllowed s.mode || allZero (s.seenBytes 0x2810 1) then (s, [], 0x6985)
    else if s.kaolin.pinTries = 0 then (s, [], 0x6983)
    else if !s.guardHolds 2 then (s.weak, [], 0x6F51)
    else s.tryPin pin

/-! ## GET CHALLENGE and the seed carry (R248, R261) -/

/-- CK handed out (R248). -/
def State.giveChallenge (s : State) (ck : Bytes) : State × Bytes × Nat :=
  (s.setField fun f => { f with challenge := some ck }, ck, 0x9000)

/-- The carry advances and yields the 64 bytes of R (R261; log entries 75 and 79). -/
def State.advanceCarry (s : State) (c : Bytes) : State :=
  (s.setKaolin fun k => { k with carry := some (shake ([0x01] ++ c) 48), carryCount := counterAfter 0x282400 4 k.carryCount 1 }).setField
    fun f => { f with pool := shake ([0x02] ++ c) 64 }

/-- CK from R: the next 16 bytes, the carry advanced first where R is used up (R261; log entry 79). -/
def State.carryChallenge (s : State) (f : FieldSession) : State × Bytes × Nat :=
  if 16 ≤ f.pool.length then
    (s.setField fun f => { f with pool := f.pool.drop 16 }).giveChallenge (f.pool.take 16)
  else
    match s.kaolin.carry with
    | none => (s, [], 0x6985)
    | some c =>
      if !s.guardHolds 48 then (s.weak, [], 0x6F51)
      else
        ((s.advanceCarry c).setField fun f => { f with pool := f.pool.drop 16 }).giveChallenge ((shake ([0x02] ++ c) 64).take 16)

/-- KAOLIN_GET_CHALLENGE (R248). -/
def execKaolinGetChallenge (params : ApduParams) (apdu : Apdu) (le : Nat) (s : State) : Out :=
  keepLock s <| s.command 0x0C 0x84 params.p1 params.p2 apdu <| inOpenState fun s f _ =>
    if params.p1 ≠ 0x00 ∨ params.p2 ≠ 0x00 then (s, [], 0x6A86)
    else if le ≠ 16 then (s, [], 0x6700)
    else if !securedAllowed s.mode then (s, [], 0x6985)
    else if s.coreOn then
      if s.rng.source = .latched then (s, [], 0x6985)
      else if (s.drawFails 3).isSome then (s, [], 0x6F52)
      else ((s.used 16).countCall 3).giveChallenge (s.fresh 16)
    else s.carryChallenge f

/-! ## MUTUAL AUTHENTICATE (R248) -/

/-- The reader entry 1 to 16 that holds an ID. -/
def State.readerEntry (s : State) (id : Nat) : Option Nat :=
  (List.range 16).map (· + 1) |>.find? fun e => id != 0 && field (s.seenBytes 0x2811 e) 0 4 == id

/-- KR of a reader (R248). -/
def State.readerKey (s : State) (readerId : Bytes) : Bytes := derive .reader s.ownerRoot (readerId ++ uid)

/-- KSR of a handshake (R248). -/
def State.sessionKey (s : State) (readerId ck rnr : Bytes) : Bytes := derive .ksess (s.readerKey readerId) (ck ++ rnr)

/-- The handshake's tag in a direction (R248). -/
def handshakeTag (ksr : Bytes) (direction : Byte) (ck readerId rnr : Bytes) : Bytes :=
  gcmTag ksr ([direction, 0x82] ++ zeros 10) (uid ++ ck ++ readerId ++ rnr) []

/-- A wrong tag is counted before the answer; at the limit the reader is barred (R248). -/
def State.countReader (s : State) (e readerId : Nat) : State :=
  let n := counterAfter 0x281200 1 ((s.kaolin.failures[e - 1]?).getD 0) 1
  let t := (s.tagFailed.setKaolin fun k => { k with failures := k.failures.set (e - 1) n }).setField fun f =>
    { f with failedAuth := f.failedAuth + 1 }
  if n = s.seenNum 0x2813 0 then t.alarm Ev.readerBarred 0 (leBytes 4 readerId) else t

/-- The reader's tag is checked and answered (R248). -/
def State.authenticateReader (s : State) (e : Nat) (ck data : Bytes) : State × Bytes × Nat :=
  let id := data.take 4
  let rnr := slice data 4 12
  let ksr := s.sessionKey id ck rnr
  let s := (((s.deriveKey .kaolin .reader (s.readerKey id)).deriveKey .kaolin .ksess ksr).gcm 2)
  if data.drop 16 = handshakeTag ksr 0x02 ck id rnr then
    ((s.setKaolin fun k => { k with failures := k.failures.set (e - 1) 0 }).enterSecured (.reader e ksr 1 1) 2 (leNat id),
      handshakeTag ksr 0x01 ck id rnr, 0x9000)
  else (s.countReader e (leNat id), [], 0x6300)

/-- KAOLIN_MUTUAL_AUTHENTICATE (R248; log entry 160). -/
def execKaolinMutualAuthenticate (p1 p2 : Byte) (apdu : Apdu) (s : State) : Out :=
  keepLock s <| s.command 0x8C 0x82 p1 p2 apdu <| inOpenState fun s f data =>
    if p1 ≠ 0x00 ∨ p2 ≠ 0x00 then (s, [], 0x6A86)
    else if data.length ≠ 32 then (s, [], 0x6700)
    else if !securedAllowed s.mode || !s.hasRoot 2 || s.rootBad 2 then (s, [], 0x6985)
    else
      match f.challenge with
      | none => (s, [], 0x6985)
      | some ck =>
        let t := s.setField fun f => { f with challenge := none }
        match s.readerEntry (leNat (data.take 4)) with
        | none => (t, [], 0x6300)
        | some e =>
          if s.seenNum 0x2813 0 ≤ (s.kaolin.failures[e - 1]?).getD 0 then (t, [], 0x6983)
          else if s.cipher.failed then (s, [], 0x6F52)
          else if !s.guardHolds 1 then (s.weak, [], 0x6F51)
          else t.authenticateReader e ck data

/-! ## INTERNAL AUTHENTICATE (R238, R252) -/

/-- The live signature (R252). -/
def State.liveSignature (s : State) (f : FieldSession) (challenge : Bytes) : Bytes :=
  identitySign (ascii "BLS9640-KLIVE")
    (uid ++ challenge ++ shake ((s.file 0x0110).getD []) 32 ++ (s.file 0x0130).getD [] ++ leBytes 1 f.path)

/-- A live signature is counted; under field power SHE always signs without blinding (R306). -/
def State.liveSigned (s : State) : State := if s.vddSupplied then s.sheSigned else (s.she 1).bump 0x2A00 4

/-- KAOLIN_INTERNAL_AUTHENTICATE (R252). -/
def execKaolinInternalAuthenticate (p1 p2 : Byte) (apdu : Apdu) (s : State) : Out :=
  keepLock s <| s.command 0x0C 0x88 p1 p2 apdu fun s f challenge =>
    if p1 ≠ 0x00 ∨ p2 ≠ 0x00 then (s, [], 0x6A86)
    else if challenge.length < 16 ∨ 64 < challenge.length then (s, [], 0x6700)
    else if !s.sig.identity || s.identityBad then (s, [], 0x6985)
    else if !bit (s.rights f) 2 then (s, [], 0x6982)
    else if s.sig.failed then (s, [], 0x6F52)
    else if !s.vddSupplied && (s.kaolin.power < 120 || s.kaolin.reservoir < 200) then (s.weak, [], 0x6F51)
    else
      (((s.liveSigned.setKaolin fun k => { k with signing := !s.vddSupplied }).setField fun f => { f with liveSigns := f.liveSigns + 1 }).bump
        0x2822 2, s.liveSignature f challenge, 0x9000)

/-- The SEQ counters and the live signature count as they were before an abandoned signing (R249). -/
def FieldSession.rollBack (f : FieldSession) : FieldSession :=
  match f.secured with
  | .reader e k i o => { f with secured := .reader e k (i - 1) (o - 1), liveSigns := f.liveSigns - 1 }
  | _ => { f with liveSigns := f.liveSigns - 1 }

/-- LIVE_SIGN_ABANDONED (R238): the answer is 6F 51, which advances no SEQ. -/
def execLiveSignAbandoned (s : State) : Out :=
  keepLock s <|
    if s.kaolin.signing then
      ((((s.setKaolin fun k => { k with signing := false }).setField FieldSession.rollBack).putNum 0x2822 2 (s.num 0x2822 2 - 1)).weak).answer
        [] 0x6F51
    else s

/-! ## Field appends (R253, R254) -/

/-- The bytes staged for a file. -/
def FieldSession.stagedFor (f : FieldSession) (fid : Nat) : Bytes :=
  match f.staged with
  | some (x, b) => if x = fid then b else []
  | none => []

/-- A file is staged other than this one. -/
def FieldSession.stagesOther (f : FieldSession) (fid : Nat) : Bool := f.staged.any fun e => e.1 != fid

/-- UPDATE BINARY of the current file (R253). -/
def State.appendField (s : State) (f : FieldSession) (fid off : Nat) (data : Bytes) : State × Bytes × Nat :=
  if !isMaint fid || !bit (s.rights f) 1 then (s, [], 0x6982)
  else if data.isEmpty ∨ 224 < data.length then (s, [], 0x6700)
  else if f.stagesOther fid then (s, [], 0x6985)
  else
    match s.file fid with
    | none => (s, [], 0x6A82)
    | some c =>
      let held := c.length + (f.stagedFor fid).length
      if off ≠ held ∨ 8192 < held + data.length then (s, [], 0x6B00)
      else if !s.guardHolds data.length then (s.weak, [], 0x6F51)
      else (s.setField fun f => { f with staged := some (fid, f.stagedFor fid ++ data), appends := f.appends + 1 }, [], 0x9000)

/-- KAOLIN_UPDATE_BINARY (R253). -/
def execKaolinUpdateBinary (p1 p2 : Byte) (apdu : Apdu) (s : State) : Out :=
  keepLock s <| s.command 0x0C 0xD6 p1 p2 apdu fun s f data =>
    if 128 ≤ p1.toNat then (s, [], 0x6A86)
    else
      match f.file with
      | none => (s, [], 0x6986)
      | some fid => if f.voided then (s, [], 0x6986) else s.appendField f fid (offsetOf p1 p2) data

/-- KAOLIN_COMMIT_FILE (R253). -/
def execKaolinCommitFile (p1 p2 : Byte) (apdu : Apdu) (s : State) : Out :=
  keepLock s <| s.command 0x8C 0xE8 p1 p2 apdu fun s f data =>
    if p1 ≠ 0x00 ∨ p2 ≠ 0x00 then (s, [], 0x6A86)
    else if !data.isEmpty then (s, [], 0x6700)
    else if !bit (s.rights f) 1 then (s, [], 0x6982)
    else
      match f.staged with
      | none => (s, [], 0x6985)
      | some (fid, staged) =>
        if !s.guardHolds 2 then (s.weak, [], 0x6F51)
        else
          (((s.setFile fid ((s.file fid).getD [] ++ staged)).setField fun f => { f with staged := none }).event
            Ev.fieldFileCommitted 0 (leBytes 2 fid), [], 0x9000)

/-! ## Other commands (R244) -/

/-- The INS bytes Kaolin accepts under each CLA (R244, R249). -/
def knownIns (cla : Byte) : List Byte :=
  if cla = 0x00 then [0xA4, 0xB0, 0x20, 0x84, 0x88, 0xD6]
  else if cla = 0x80 then [0x82, 0xE8]
  else if cla = 0x0C then [0xA4, 0xB0, 0x20, 0x84, 0x88, 0xD6]
  else [0x82, 0xE8]

/-- KAOLIN_UNKNOWN_COMMAND (R244): it has no body, so that secure messaging does not enter into it (log entry 74). -/
def execKaolinUnknownCommand (h : Harvest) (header : ApduHeader) (s : State) : Out :=
  keepLock s <|
    let t := s.beginCommand h
    if !t.kaolin.field.any (·.active) then t
    else if !([0x00, 0x80, 0x0C, 0x8C] : List Byte).contains header.cla then t.answer [] 0x6E00
    else if !(knownIns header.cla).contains header.ins then t.answer [] 0x6D00
    else t

/-! ## Host file writes (R241, R256 to R259) -/

/-- The largest size of a file a FID names (R240 to R242). -/
def fileMax : Nat → Option Nat
  | 0xE103 => some 15 | 0xE104 => some 4096 | 0x0101 => some 80 | 0x0102 => some 114 | 0x0103 => some 114 | 0x0104 => some 2048
  | 0x0110 => some 32768 | 0x0130 => some 32 | 0x0140 => some 8192 | 0x0141 => some 8192 | 0x0142 => some 8192
  | 0x0143 => some 8192 | 0x0150 => some 512 | _ => none

/-- NDEF, PASSPORT and MAINT files are the host's (R257). -/
def hostWritable (fid : Nat) : Bool := fid == 0xE104 || fid == 0x0110 || isMaint fid

/-- The rest of an NDEF message after its first record, and that record's flags; none where its lengths do not fit (R241). -/
def ndefRecord (m : Bytes) : Option (Nat × Bytes) :=
  match m with
  | [] => none
  | h :: r =>
    let short := h.getLsbD 4
    let il := h.getLsbD 3
    let payload := if short then byteAt r 1 else beNat (slice r 1 4)
    let head := 1 + (if short then 1 else 4) + (if il then 1 else 0)
    let total := head + byteAt r 0 + payload + (if il then byteAt r (head - 1) else 0)
    if head ≤ r.length ∧ total ≤ r.length then some (h.toNat, r.drop total) else none

/-- Records to the end of the message, the last with ME set (R241). -/
def ndefRecords : Nat → Bytes → Bool
  | 0, _ => false
  | n + 1, m =>
    match ndefRecord m with
    | none => false
    | some (h, rest) => if rest.isEmpty then bit h 6 else ndefRecords n rest

/-- The content of E104 is accepted (R241): the first record has MB set, NLEN matches. -/
def ndefValid (c : Bytes) : Bool :=
  2 ≤ c.length && c.length == 2 + beNat (c.take 2) && bit (byteAt c 2) 7 && ndefRecords c.length (c.drop 2)

/-- The checks of a host file write (R241, R257, R259; log entry 76). -/
def State.fileRefused (s : State) (fid : Nat) (content : Bytes) : Option Code :=
  match fileMax fid with
  | none => some Rc.fileUnknown
  | some max =>
    if !hostWritable fid then some Rc.fileReadOnly
    else if max < content.length then some Rc.fileTooLong
    else if fid = 0xE104 ∧ !ndefValid content then some Rc.ndefInvalid
    else if s.kaolin.field.any fun f => f.staged.any fun e => e.1 == fid then some Rc.conflict
    else if s.kaolin.hostWrite.isSome then some Rc.busy
    else none

/-- A write to 0x2820:02 by its own rule (R257): PENDING until the commit (log entry 76). -/
def ownHostFileWrite (value : Bytes) : Own := fun s =>
  if s.mode ≠ .enrol ∧ s.mode ≠ .repurpose then (s.putCode 0x2820 3 Rc.modeForbids, Rc.modeForbids)
  else
    match s.fileRefused (s.seenNum 0x2820 1) value with
    | some c => (if c = Rc.busy then s else s.putCode 0x2820 3 c, c)
    | none =>
      let t := s.setKaolin fun k =>
        { k with hostWrite := some { fid := s.seenNum 0x2820 1, content := value, since := s.tick, filled := 0 } }
      ((t.requestSession .passport none .passport).1.putCode 0x2820 3 Rc.pending, Rc.ok)

/-- HOST_FILE_WRITE (R257). -/
def execHostFileWrite (via : Via) (value : Bytes) (s : State) : Out :=
  keepLock s (s.hostWrite via 0x2820 2 value (ownHostFileWrite value))

/-- The last PASSPORT session of a host write commits the file, unless the mode no longer allows it or a field session has come to stage
that file (R13, R22, R257 to R259). -/
def State.commitHostWrite (s : State) (n : Nat) (w : HostFileWrite) : State :=
  if s.mode ≠ .enrol ∧ s.mode ≠ .repurpose then s.finish n Rc.modeForbids
  else if s.kaolin.field.any fun f => f.staged.any fun e => e.1 == w.fid then s.finish n Rc.conflict
  else
    let t := (s.setKaolin fun k => { k with hostWrite := none }).commitFile w.fid w.content
    (t.putCode 0x2820 3 Rc.ok).finish n Rc.ok

/-- FILE_COMMITTED (R258): the session that fills the last 2 KiB holds KT. -/
def execFileCommitted (s : State) : Out :=
  keepLock s <|
    match s.kaolin.hostWrite, s.ofKind .passport with
    | some w, n :: _ =>
      if w.content.length ≤ w.filled + 2048 ∧ (s.slot n).state = .waitingEngine then s.commitHostWrite n w else s
    | _, _ => s

/-- HOST_FILE_WRITE_TIMEOUT (R259). -/
def execHostFileWriteTimeout (s : State) : Out :=
  keepLock s <|
    match s.kaolin.hostWrite with
    | some w =>
      if (s.ofKind .passport).isEmpty ∧ s.seenNum 0x2821 2 * ticksPerMs ≤ s.sinceTick w.since then
        ({ (s.setKaolin fun k => { k with hostWrite := none }) with
            tilth := { s.tilth with waiting := s.tilth.waiting.filter fun r => r.kind != SessionKind.passport } }).putCode 0x2820 3
          Rc.noResource
      else s
    | none => s

/-- STATUS_FILE_REFRESH (R243). -/
def execStatusFileRefresh (s : State) : Out :=
  keepLock s <|
    if s.coreOn && s.seenNum 0x2821 0 * ticksPerSecond ≤ s.sinceTick s.kaolin.statusFrom then
      (s.setKaolin fun k => { k with statusFrom := s.tick }).rewriteStatus
    else s

/-! ## Owner's writes (R247, R248, R251) -/

/-- A write to 0x2802:00 by its own rule (R251). -/
def ownOwnerUidSignature (value : Bytes) : Own := fun s =>
  if s.sig.failed then (s, Rc.sheFailed)
  else if sigHolds (s.bytes 0x2021 0) (ascii "BLS9640-KUIDO") (uid ++ identityKey) value then
    (((s.she 1).put 0x2802 0 value).commitFile 0x0103 value, Rc.ok)
  else (s.she 1, Rc.sigInvalid)

/-- OWNER_UID_SIGNATURE_WRITE (R251). -/
def execOwnerUidSignatureWrite (via : Via) (value : Bytes) (s : State) : Out :=
  keepLock s (s.hostWrite via 0x2802 0 value (ownOwnerUidSignature value))

/-- A write to 0x2810:01 by its own rule (R247). -/
def ownPinDigest (value : Bytes) : Own := fun s =>
  ((s.put 0x2810 1 value).setKaolin fun k => { k with pinTries := s.num 0x2810 2 }, Rc.ok)

/-- PIN_DIGEST_WRITE (R247). -/
def execPinDigestWrite (via : Via) (value : Bytes) (s : State) : Out :=
  keepLock s (s.hostWrite via 0x2810 1 value (ownPinDigest value))

/-- A write to a reader entry by its own rule (R248). -/
def ownReaderEntry (sub : Nat) (value : Bytes) : Own := fun s =>
  ((s.put 0x2811 sub value).setKaolin fun k => { k with failures := k.failures.set (sub - 1) 0 }, Rc.ok)

/-- READER_ENTRY_WRITE (R248). -/
def execReaderEntryWrite (via : Via) (sub : Nat) (value : Bytes) (s : State) : Out :=
  keepLock s (s.hostWrite via 0x2811 sub value (ownReaderEntry sub value))

/-! ## The carry while CORE is on (R261) -/

/-- The carry refreshed with 48 strict bytes (R261). -/
def State.refreshCarry (s : State) (c : Bytes) : State :=
  (((s.used 48).countCall 4).setKaolin fun k => { k with carry := some (shake ([0x03] ++ c ++ s.fresh 48) 48), carryFrom := s.tick }).event
    Ev.carryRefreshed 0 []

/-- A carry whose copies were both bad is replaced by 48 bytes from SK3, its counter by 0 (R256, R487; log entry 125). -/
def State.replaceCarry (s : State) : State :=
  ({ (((s.used 48).countCall 4).setKaolin fun k => { k with carry := some (s.fresh 48), carryCount := 0, carryFrom := s.tick }) with
    hardpan := { s.hardpan with badItems := s.hardpan.badItems.filter (· != KeyItem.seedCarry) } }).event Ev.carryRefreshed 0 []

/-- CARRY_REFRESHED (R256, R261): every 3,600 s while CORE is on and a strict instance delivers (log entry 80). -/
def execCarryRefreshed (s : State) : Out :=
  keepLock s <|
    match s.kaolin.carry with
    | some c =>
      if s.coreOn && s.mode != .retired && (s.drawFails 4).isNone && 3600 * ticksPerSecond ≤ s.sinceTick s.kaolin.carryFrom then
        s.refreshCarry c
      else s
    | none =>
      if s.coreOn && s.hardpan.badItems.contains .seedCarry && (s.drawFails 4).isNone then s.replaceCarry else s

/-- The Kaolin state at 0x2800:01 (R263). -/
def State.kaolinState (s : State) : Nat :=
  match s.kaolin.field with
  | none => 0
  | some f => match f.secured with | .open_ => 1 | .pin => 2 | .reader _ _ _ _ => 3

end Sys2Proof.Machine
end

