-- ==== Sys2Proof/Machine/Faults.lean ====
section
/-! DEFINITION. Faults: the reset of the main die, a re-executed tick, an unrecoverable fault (R40, R174, R430 to R435). -/

namespace Sys2Proof.Machine

/-! ## The reset of the main die (R174, R176, R424, R435) -/

/-- A pending mode change survives a reset once its first copy has been written (R14, R33). -/
def Lifecycle.reset (l : Lifecycle) : Lifecycle :=
  { l with pending := l.pending.filter (·.firstCopy), quarantineDue := l.quarantineDue && (l.pending.any (·.firstCopy)) }

/-- The domains at the reset of the main die: AON and FLD stay as they are, every other one is off (R403, R429). -/
def resetDomains (ds : List (Domain × DomainCell)) : List (Domain × DomainCell) :=
  ds.map fun e => if e.1 = .aon ∨ e.1 = .fld then e else (e.1, DomainCell.reset .off)

/-- An LF channel after its state is lost: the enable mask and the calibrated frequency outlive it (R87, R94; log entry 161). -/
def State.restoredChannel (s : State) (i : Nat) : LfChannel :=
  let st : ChannelState := if calInWindow (s.num 0x2200 1) (s.num 0x2205 (i + 1)) then .ready else .uncalibrated
  { LfChannel.reset with state := if bit (s.num 0x2201 0) i then st else .disabled, saved := st }

/-- Dictionary entries that outlive a reset (R451; log entry 9). -/
def keptEntry (key : Nat) : Bool :=
  match entryRow? (key / 256) (key % 256) with
  | some r => r.keep
  | none => false

/-- The volatile state of the main die is lost: sessions, engines, volatile entries, bus state (R174, R424, R451). -/
def State.loseVolatile (s : State) : State :=
  { s with
    life := s.life.reset
    sealing := { active := none, expired := false, nonce := none }
    tilth :=
      { State.reset.tilth with
        tick := s.tilth.tick, executed := s.tilth.executed, highWater := s.tilth.highWater, highWaterCopy := s.tilth.highWaterCopy }
    lf := { State.reset.lf with channels := (List.range 8).map s.restoredChannel }
    badges := State.reset.badges
    radio :=
      { State.reset.radio with
        chainOk := s.radio.chainOk, bands := s.radio.bands, synth := { State.reset.radio.synth with temp := s.radio.synth.temp } }
    latch := State.reset.latch
    vehicle :=
      { State.reset.vehicle with
        feedbackA := FeedbackLand.reset (bit (s.num 0x2641 4) 0), feedbackB := FeedbackLand.reset (!bit (s.num 0x2641 4) 1) }
    inv := { s.inv with walk := none, results := [], candidates := none }
    kaolin := { s.kaolin with hostWrite := none }
    cipher := { State.reset.cipher with roots := s.cipher.roots, failed := s.cipher.failed, cycled := true }
    sig :=
      { s.sig with
        testing := false, cycled := true, compareFails := [], installing := none, activating := false,
        recovery := false }
    rng := { State.reset.rng with failures := s.rng.failures, lastRestartEnd := s.rng.lastRestartEnd }
    net := State.reset.net
    bridge := State.reset.bridge
    ledger :=
      { s.ledger with
        sample := none, hvil := .unknown, insulation := .unknown, importing := none, zeroing := none, quiet := 0
        graceTicks := s.ledger.graceSaved }
    power :=
      { s.power with
        domains := resetDomains s.power.domains, group := none, wakeTouch := none, thermal := 0, thermalHigh := false,
        guard := false }
    platform := { s.platform with attempts := 0, reexecuted := [], glitches := [] }
    dict := s.dict.filter fun e => keptEntry e.1 }

/-- The main die is reset (R174, R210, R424): outputs low, a release in force withdrawn and counted, volatile state lost, the sequence of a
kind of start-up to come. -/
def State.resetDie (s : State) (kind : StartKind) : State :=
  let t := (if s.lock.released then s.bump 0x2600 6 else s).loseVolatile
  { t with lock := s.lock.reset s.tick, platform := { t.platform with boot := .resetting kind 0 } }

/-- AON holds a fault record for the next start-up (R435). -/
def State.aonRecord (s : State) (record : Bytes) : State :=
  { s with platform := { s.platform with aonRecords := s.platform.aonRecords ++ [record] } }

/-- An unrecoverable fault (R434, R435): counted, recorded in AON, and the main die reset. -/
def State.fatal (s : State) (detector : Nat) (code : Code) (slot engine : Nat) (detail : Bytes) : State :=
  ((s.bump 0x2F02 5).aonRecord (s.faultEntry 0x05 detector code slot engine detail)).resetDie .fault

/-! ## A re-executed tick (R40, R431 to R434) -/

/-- Ticks of a list that lie within the last second. -/
def State.lastSecond (s : State) (ticks : List Tick) : List Tick := ticks.filter fun t => s.sinceTick t ≤ ticksPerSecond

/-- The rate of re-executed ticks: more than 16 within 1 s set cause FAULT_RATE (R434). -/
def State.faultRate (s : State) : State := if 16 < (s.lastSecond s.platform.reexecuted).length then s.cause .faultRate else s

/-- A slot over a repeated period: the tick its step names for its air timing comes one period later (R40). -/
def Slot.laterTick (sl : Slot) : Slot :=
  { sl with
    named := sl.named.map fun t => (t + 1) % tickModulus
    work := match sl.work with
      | .approach a => .approach { a with roundTick := a.roundTick.map fun t => (t + 1) % tickModulus }
      | w => w }

/-- The repeated period: the tick counter advances, no executed tick passes (R40, R432, R433). The body of a tick runs within FRAME_TICK,
so that the head snapshot the re-execution starts from is the state before it (log entry 159). -/
def State.repeatPeriod (s : State) : State :=
  let again := s.platform.attempts
  let s := if s.atHighWater then s.pushHighWater else s
  ({ s with
    tilth := { s.tilth with tick := s.tickIn 1, slots := s.tilth.slots.map Slot.laterTick }
    platform :=
      { s.platform with
        attempts := again + 1
        reexecuted := if again = 0 then s.tick :: s.lastSecond s.platform.reexecuted else s.platform.reexecuted } }).bump 0x2101 0

/-- A discard of unconsumed bytes is logged (R372): address, count and reason, in a ring of 16. -/
def State.logDiscard (s : State) (addr count reason : Nat) : State :=
  let sub := s.num 0x2C31 0 % 16 + 1
  let t := s.put 0x2C30 sub (leBytes 4 addr ++ leBytes 2 count ++ leBytes 1 reason ++ leBytes 1 0 ++ leBytes 6 s.tick ++ leBytes 2 0)
  (t.bump 0x2C31 0).event Ev.prefetchDiscarded 0 (leBytes 4 addr ++ leBytes 2 count ++ leBytes 1 reason)

/-- The prefetch line is discarded (R372). -/
def State.discardLine (s : State) (reason : Nat) : State :=
  match s.bridge.line with
  | none => s
  | some l =>
    let t := { s with bridge := { s.bridge with line := none } }
    if l.bytes.isEmpty then t else t.logDiscard l.addr l.bytes.length reason

/-- An address of the AUX window (R364). -/
def isAux (addr : Nat) : Bool := 0x00100000 ≤ addr && addr ≤ 0x0010FFFF

/-- What a re-executed tick gives up on the bridge (R369, R372): packets landed and not committed, the prefetch line, and the AUX reads it
performs again. -/
def State.discardReexecuted (s : State) : State :=
  let t := { s with bridge := { s.bridge with landed := [] } }
  (t.bridge.reads.filter fun r => !r.held && r.issued == t.now && isAux r.addr).foldl (fun u r => u.logDiscard r.addr r.len 3)
    (t.discardLine 3)

/-- A class B fault (R431, R432, R434, R443): logged, and the tick executed again; the third in one tick is unrecoverable. -/
def State.reexecute (s : State) (detector : Nat) (code : Code) (slot engine : Nat) (detail : Bytes) : State :=
  if 2 ≤ s.platform.attempts then s.fatal detector code slot engine detail
  else
    ((((s.logFault 0x02 detector code slot engine detail).event Ev.tickReexecuted slot
      (leBytes 1 detector ++ leBytes 1 slot ++ leBytes 1 engine)).discardReexecuted).repeatPeriod).faultRate

end Sys2Proof.Machine
end

