-- ==== Sys2Proof/Machine/Cipher.lean ====
section
/-! DEFINITION. The symmetric cipher engine (chapter 10): root imports, the self-test, the lock and its saved contexts, comparison
failures, key register waits and the end of an open. -/

namespace Sys2Proof.Machine

/-! ## The FAILED state (R284) -/

/-- The sessions with an operation in progress or requested on an engine. -/
def State.onEngine (s : State) (e : Engine) : List Nat := s.tilth.find fun sl => sl.inFlight && sl.engine == some e

/-- The sessions the cipher engine works for: its engine's, those of its opens and of its saved contexts. -/
def State.cipherSessions (s : State) : List Nat :=
  s.onEngine .aes ++ s.cipher.opens.map (·.slot) ++ s.cipher.contexts.map (·.slot)

/-- The engine is marked FAILED, its lock and contexts gone (R284). -/
def State.markCipherFailed (s : State) : State :=
  { s with cipher := { s.cipher with failed := true, cycled := false, testing := false, lock := none, contexts := [] } }

/-- The engine enters FAILED (R284): logged with its EMCY, every operation ended, opens taken back, the Hardpan cause set (log entry 96).
-/
def State.failCipher (s : State) : State :=
  let t := (s.markCipherFailed.logFault 0x04 0x04 Ev.cipherFaulted 0 5 []).alarm Ev.cipherFaulted 0 []
  ((s.cipherSessions.foldl (fun u n => u.finish n Rc.cipherFailed) t).cause .cipherFault)

/-- CIPHER_COMPARE_FAIL (R283, R284): logged, the tick executed again; the third failure within 1 s puts the engine into FAILED. -/
def State.compareFail (s : State) (slot : Nat) (op : Byte) : State :=
  let fails := s.tick :: s.lastSecond s.cipher.compareFails
  let t := ({ s with cipher := { s.cipher with compareFails := fails } }.bump 0x2931 0).event Ev.cipherCompareFail slot
    (leBytes 1 slot ++ [op])
  let u := if 3 ≤ fails.length then t.failCipher else t
  u.reexecute 0x04 Ev.cipherCompareFail slot 5 [op]

/-- CIPHER_COMPARE_FAIL (R283): the mechanism runs while SEC is on (R431). -/
def execCipherCompareFail (slot : Nat) (op : Byte) (s : State) : Out :=
  resetOnly s (if s.running && s.isOn .sec && !s.cipher.failed then s.compareFail slot op else s)

/-! ## The self-test (R298) -/

/-- A self-test starts and holds the lock (R277, R298). -/
def State.startCipherTest (s : State) : State :=
  { s with cipher := { s.cipher with testing := true, lock := some .selfTest, lockFrom := s.now } }

/-- A write to 0x2920:00 by its own rule (R298): OK at once; a self-test that runs is not joined by a second. Where a slot holds the lock
the test begins once it falls free (log entry 83). -/
def ownCipherSelftest : Own := fun s =>
  if s.cipher.testing then (s, Rc.ok)
  else
    ((if s.cipher.lock.isNone then s.startCipherTest else { s with cipher := { s.cipher with testing := true } }).firstAccess .sec 0,
      Rc.ok)

/-- CIPHER_SELFTEST_REQUEST (R298). -/
def execCipherSelftestRequest (via : Via) (value : Bytes) (s : State) : Out :=
  keepLock s (s.hostWrite via 0x2920 0 value ownCipherSelftest)

/-- The self-test completes (R298), logged, with an EMCY where it fails (R302): a failure puts the engine into FAILED, which is left only
by a pass after SEC has been off and on again (R284). -/
def State.endCipherTest (s : State) (passed : Bool) : State :=
  let result := if passed then Rc.ok else Rc.cipherFailed
  let t := { s with cipher :=
    { s.cipher with testing := false, lock := s.cipher.lock.filter (· != CipherOwner.selfTest) } }.putCode 0x2921 0 result
  if !passed then
    let u := t.alarm Ev.cipherSelftest 0 (codeBytes result)
    if u.cipher.failed then u else u.failCipher
  else
    let u := t.event Ev.cipherSelftest 0 (codeBytes result)
    if u.cipher.failed && u.cipher.cycled then
      { u with cipher := { u.cipher with failed := false, cycled := false, compareFails := [] } }
    else u

/-! ## The lock (R275 to R280) -/

/-- A saved context precedes another: lower class first, then the earlier suspension (R280). -/
def SavedContext.before (a b : SavedContext) : Bool := a.cls < b.cls || (a.cls == b.cls && a.since < b.since)

/-- The first of a list under an order. -/
def firstBy {α : Type} (before : α → α → Bool) : List α → Option α
  | [] => none
  | a :: l =>
    match firstBy before l with
    | none => some a
    | some b => some (if before b a then b else a)

/-- A suspended operation resumes: its context is zeroed and its slot holds the lock again; a carried step counts one carry more (R279,
R280; log entries 39 and 95). -/
def State.resume (s : State) (c : SavedContext) : State :=
  ({ s with cipher :=
      { s.cipher with lock := some (.slot c.slot), lockFrom := s.now, contexts := s.cipher.contexts.filter (· != c) } }).setSlot
    c.slot fun sl => { sl with state := .waitingEngine, engine := some .aes, carry := if sl.carry = 0 then 0 else min 3 (sl.carry + 1) }

/-- The first suspended operation resumes where the lock is free (R280). -/
def State.resumeFirst (s : State) : State :=
  if s.cipher.lock.isSome then s
  else
    match firstBy SavedContext.before s.cipher.contexts with
    | some c => s.resume c
    | none => s

/-- CIPHER_RESUME (R280). -/
def execCipherResume (s : State) : Out := keepLock s s.resumeFirst

/-- A slot that holds the lock runs a step or an operation (R276). -/
def Slot.busy (sl : Slot) : Bool := sl.state == .running || sl.state == .carried || sl.state == .waitingEngine

/-- A stale lock is freed and its session ended (R276). -/
def State.freeStaleLock (s : State) : State :=
  match s.cipher.lock with
  | some (.slot n) =>
    if !(s.slot n).busy && s.cipher.lockFrom + 16 ≤ s.now then
      ((({ s with cipher := { s.cipher with lock := none } }).event Ev.cipherLockStale n (leBytes 1 n)).finish n Rc.hwFault)
    else s
  | _ => s

/-- CIPHER_LOCK_STALE (R276). -/
def execCipherLockStale (s : State) : Out := keepLock s s.freeStaleLock

/-- A step has waited 8 ticks for a free key register (R273). -/
def State.registerWaitEnds (s : State) (n : Nat) : State :=
  if s.cipher.freeRegister.isNone && s.cipher.registerWaits.any fun w => w.1 == n && w.2 + 8 ≤ s.now then
    s.finish n Rc.noResource
  else s

/-- KEY_REGISTER_WAIT_TIMEOUT (R273). -/
def execKeyRegisterWaitTimeout (slot : Nat) (s : State) : Out := keepLock s (s.registerWaitEnds slot)

/-! ## Opens (R289 to R294) -/

/-- The open a slot has in progress. -/
def State.openOf (s : State) (n : Nat) : Option GcmOpen := s.cipher.opens.find? fun o => o.slot == n

/-- The tag holds: the extent is FINAL, the granules are freed, the caller's next step is ready (R290, R292). -/
def State.releaseOpen (s : State) (o : GcmOpen) : State :=
  let e := match o.provisional with
    | some .firmware => Engine.sig
    | some .journal => .nvm
    | none => .aes
  (({ s with cipher := { s.cipher with opens := s.cipher.opens.filter (· != o) } }).gcm 1).makeReady o.slot e none

/-- An open ends with its tag check (R290, R294): a failed tag zeroes and retracts, and ends the session with AUTH_FAIL. -/
def State.endOpen (s : State) (o : GcmOpen) (tagHolds : Bool) : State :=
  if tagHolds then s.releaseOpen o
  else
    let t := { s with cipher :=
      { s.cipher with opens := s.cipher.opens.map fun (x : GcmOpen) => if x = o then { x with complete := true } else x } }
    (t.gcm 1).tagFailed.finish o.slot Rc.authFail

/-- GCM_OPEN_END (R290, R294); a provisional open ends with its consumer's own command (R292). -/
def execGcmOpenEnd (slot : Nat) (tagHolds : Bool) (s : State) : Out :=
  keepLock s <|
    match s.openOf slot with
    | some o => if o.provisional.isNone then s.endOpen o tagHolds else s
    | none => s

/-! ## Root imports (R268 to R270, R486, R487) -/

/-- The signer a target slot asks for in the current mode; none where the slot or the mode does not take an import (R269). -/
def State.rootSigner (s : State) (slot : Nat) : Option Signer :=
  if slot = 2 then
    if s.mode = .enrol ∨ s.mode = .repurpose ∨ (s.mode = .quarantine ∧ KeyItem.ownerRoot ∈ s.hardpan.badItems) then some .owner
    else none
  else if (slot = 1 ∨ slot = 3) ∧ s.mode = .factory then some .vendor
  else none

/-- The slot that unwraps a target (R270). -/
def unwrapParent (slot : Nat) : Nat := if slot = 2 then 1 else 14

/-- The wrapped root opened through Silt (R270); a root of 32 zero bytes is refused as a wrong tag is. -/
def State.unwrapRoot (parent : Bytes) (slot : Nat) (nonce wrapped : Bytes) : Option Bytes :=
  match gcmOpen (derive .wrap parent (leBytes 1 slot ++ nonce)) (zeros 12) (leBytes 1 slot ++ deviceBinding) wrapped with
  | some root => if allZero root then none else some root
  | none => none

/-- A root installed into its slot (R270): with the owner root a KEY_STORE item is restored and the sync word computed. -/
def State.installRoot (s : State) (slot : Nat) (root : Bytes) : State :=
  let t := { s with
    cipher := { s.cipher with roots := insert slot root s.cipher.roots }
    hardpan := { s.hardpan with badItems := if slot = 2 then s.hardpan.badItems.filter (· != KeyItem.ownerRoot) else s.hardpan.badItems } }
  ((if slot = 2 then t.computeSync else t).event Ev.rootInstalled 0 (leBytes 1 slot))

/-- A root import whose slot, mode and signer are right (R268, R270, R284, R436). -/
def State.importRoot (s : State) (slot : Nat) (wrapped nonce : Bytes) : State × Code :=
  if s.cipher.failed then (s, Rc.cipherFailed)
  else
    match lookup (unwrapParent slot) s.cipher.roots with
    | none => (s, Rc.rootEmpty)
    | some parent =>
      if s.rootBad (unwrapParent slot) then (s, Rc.hwFault) else
      let t := (s.bump 0x2940 4).gcmOpened 32
      match State.unwrapRoot parent slot nonce wrapped with
      | some root => (t.installRoot slot root, Rc.ok)
      | none => (t.tagFailed, Rc.authFail)

/-- A write to 0x2911:00 by its own rule (R269, R270); its result reads at 0x2912:00 (log entries 82 and 83). -/
def ownRootImport (value : Bytes) : Own := fun s =>
  let t := s.firstAccess .sec 0
  let r := match t.rootSigner (byteAt value 0), t.sealing.active with
    | none, _ => (t, Rc.rootSlotInvalid)
    | some g, some e =>
      if e.signer ≠ g then (t, Rc.envelopeSigner)
      else if byteAt value 1 ≠ 0 then (t, Rc.valueRange)
      else t.importRoot (byteAt value 0) (value.drop 2) e.nonce
    | some _, none => (t, Rc.envelopeScope)
  (r.1.putCode 0x2912 0 r.2, r.2)

/-- ROOT_IMPORT (R269). -/
def execRootImport (via : Via) (value : Bytes) (s : State) : Out :=
  keepLock s (s.hostWrite via 0x2911 0 value (ownRootImport value))

end Sys2Proof.Machine
end

