-- ==== Sys2Proof/Machine/Sign.lean ====
section
/-! DEFINITION. Signatures, certification, attestation and firmware (chapter 11, first part), and the self-test of both SEC
engines. -/

namespace Sys2Proof.Machine

/-! ## SHE's FAILED state (R306, R307) -/

/-- SHE enters FAILED (R306): logged with its EMCY, every operation ended with SHE_FAILED, the Hardpan cause set (log entry 96). -/
def State.failShe (s : State) : State :=
  let t := (({ s with sig := { s.sig with failed := true, cycled := false, testing := false } }.logFault 0x04 0x05 Ev.sheFaulted 0 6
    []).alarm Ev.sheFaulted 0 [])
  ((s.onEngine .sig).foldl (fun u n => u.finish n Rc.sheFailed) t).cause .signatureFault

/-- A mismatch of the two datapaths (R306): the tick is executed again; the third within 1 s puts SHE into FAILED. -/
def State.sheMismatch (s : State) (slot : Nat) : State :=
  let fails := s.tick :: s.lastSecond s.sig.compareFails
  let t := ({ s with sig := { s.sig with compareFails := fails } }.bump 0x2A00 3).event Ev.sheCompareFail slot (leBytes 1 slot)
  let u := if 3 ≤ fails.length then t.failShe else t
  u.reexecute 0x05 Ev.sheCompareFail slot 6 []

/-- SHE_COMPARE_FAIL (R306): the mechanism runs while SEC is on (R431). -/
def execSheCompareFail (slot : Nat) (s : State) : Out :=
  resetOnly s (if s.running && s.isOn .sec && !s.sig.failed then s.sheMismatch slot else s)

/-- SHE's known-answer tests end (R307): they run at a power-up of SEC; FAILED is left as R306 says (log entry 90). -/
def State.endSheTest (s : State) (passed : Bool) : State :=
  if !s.sig.testing then s
  else
    let t := { s with sig := { s.sig with testing := false } }
    if !passed then t.failShe
    else if t.sig.failed && t.sig.cycled then { t with sig := { t.sig with failed := false, cycled := false, compareFails := [] } }
    else t

/-- CIPHER_SELFTEST (R298, R307; log entry 90). -/
def execCipherSelftest (passed shePassed : Bool) (s : State) : Out :=
  keepLock s (if s.cipher.testing then (s.endCipherTest passed).endSheTest shePassed else s)

/-! ## Certificates (R309 to R312) -/

/-- A SUBJECT lies within the table Certificate layout: an identity, or an ASCII name padded with zeros (R309). -/
def subjectOk (role : Nat) (subject : Bytes) : Bool :=
  if role = 3 then subject == uid ++ [0xB0] ++ zeros 8
  else
    let name := subject.takeWhile (· != 0)
    name.all (fun c => 0x20 ≤ c.toNat && c.toNat ≤ 0x7E) && allZero (subject.drop name.length)

/-- Days since 2000-01-01 of the RTC (R309, R418). -/
def State.today (s : State) : Nat := s.rtcSeconds / 86400

/-- The dates of a certificate, checked while the RTC is valid (R311). -/
def State.datesOk (s : State) (c : Bytes) : Bool :=
  !s.power.rtcValid || (field c 18 2 ≤ s.today && (field c 20 2 == 0xFFFF || s.today ≤ field c 20 2))

/-- The checks of R311 for a certificate, an expected ROLE and the verifying key. -/
def State.certOk (s : State) (c : Bytes) (role : Nat) (issuer : Bytes) : Bool :=
  c.length == 210 && byteAt c 0 == 1 && byteAt c 1 == role && slice c 10 8 == shake issuer 8 && subjectOk role (slice c 22 16)
    && byteAt c 95 == 0 && s.datesOk c && sigHolds issuer (ascii "BLS9640-CERT") (c.take 96) (c.drop 96)

/-- A certificate chain passes (R310, R312): identity under the device CA, device CA under the Darith root. -/
def State.chainHolds (s : State) (chain : Bytes) : Bool :=
  chain.length == 422 && byteAt chain 0 == 2 && byteAt chain 1 == 0
    && s.certOk (slice chain 2 210) 3 (chainCaKey chain) && s.certOk (slice chain 212 210) 2 darithRoot

/-- UIDSIG_V verifies under the device CA key of a chain (R251, R312). -/
def uidSigHolds (chain value : Bytes) : Bool := sigHolds (chainCaKey chain) (ascii "BLS9640-KUIDV") (uid ++ identityKey) value

/-- Chain and UIDSIG_V are committed together (R312; log entry 84). -/
def State.certify (s : State) (chain value : Bytes) : State :=
  let t := { s with sig := { s.sig with certified := true, chain := chain, uidSigV := value } }
  ((((t.put 0x2A04 1 []).put 0x2A04 2 (zeros 114)).commitFile 0x0104 chain).commitFile 0x0102 value).putCode 0x2A04 3 Rc.ok

/-- A failed certification check, reported at 0x2A04:03 (R312; log entry 84). -/
def State.certFails (s : State) (code : Code) : State × Code := (s.putCode 0x2A04 3 code, code)

/-- A chain and a signature that are both at hand are checked together and committed (R312; log entry 84). -/
def State.completeCertificate (s : State) (chain value : Bytes) : State × Code :=
  if chain.isEmpty || allZero value then (s, Rc.ok)
  else if uidSigHolds chain value then ((s.she 1).certify chain value, Rc.ok)
  else (s.she 1).certFails Rc.sigInvalid

/-- A write to 0x2A04:01 by its own rule (R312). -/
def ownChain (value : Bytes) : Own := fun s =>
  if s.mode ≠ .factory then (s, Rc.modeForbids)
  else if s.sig.failed then s.certFails Rc.sheFailed
  else if !s.chainHolds value then (s.she 2).certFails Rc.certInvalid
  else ((s.she 2).put 0x2A04 1 value).completeCertificate value (s.bytes 0x2A04 2)

/-- CERTIFICATE_CHAIN_WRITE (R312). -/
def execCertificateChainWrite (via : Via) (value : Bytes) (s : State) : Out :=
  keepLock s (s.hostWrite via 0x2A04 1 value (ownChain value))

/-- A write to 0x2A04:02 by its own rule (R312). -/
def ownUidSigV (value : Bytes) : Own := fun s =>
  if s.mode ≠ .factory then (s, Rc.modeForbids)
  else if s.sig.failed then s.certFails Rc.sheFailed
  else (s.put 0x2A04 2 value).completeCertificate (s.bytes 0x2A04 1) value

/-- VENDOR_UID_SIGNATURE_WRITE (R312). -/
def execVendorUidSignatureWrite (via : Via) (value : Bytes) (s : State) : Out :=
  keepLock s (s.hostWrite via 0x2A04 2 value (ownUidSigV value))

/-! ## Attestation (R313) -/

/-- The active firmware bank. -/
def Signature.bank (g : Signature) : Bank :=
  (g.banks[g.activeBank]?).getD { state := .empty, imageId := [], release := 0, svn := 0, digest := [], length := 0, header := [] }

/-- Bytes 0 to 76 + CHLEN of the attestation statement (R313). -/
def State.statement (s : State) (challenge : Bytes) : Bytes :=
  leBytes 1 1 ++ leBytes 1 s.mode.code ++ leBytes 2 s.enrolment ++ leBytes 1 (if s.hardpan.set then 1 else 0)
    ++ leBytes 1 s.sig.activeBank ++ leBytes 4 s.sig.bank.release ++ leBytes 4 s.sig.svn ++ leBytes 6 s.tick ++ uid ++ [0xB0]
    ++ s.sig.bank.digest.take 32 ++ (if s.ownerKey then shake (s.bytes 0x2021 0) 16 else zeros 16)
    ++ leBytes 1 challenge.length ++ challenge

/-- The statement signed and committed (R313). -/
def State.attest (s : State) (n : Nat) (challenge : Bytes) : State :=
  let body := s.statement challenge
  ((s.sheSigned.put 0x2A20 2 (body ++ identitySign (ascii "BLS9640-ATTEST") body)).finish n Rc.ok)

/-- A session that attests. -/
def Slot.attests (sl : Slot) : Bool := sl.inFlight && (match sl.work with | .attestation _ => true | _ => false)

/-- A challenge that passes its checks: an earlier request ends, a DICTIONARY session waits on SIG (R313; log entry 85). -/
def State.requestAttestation (s : State) (challenge : Bytes) : State × Code :=
  let t := (s.tilth.find Slot.attests).foldl (fun u n => u.finish n Rc.aborted) s
  match t.admitNow .dictionary (.attestation challenge) with
  | none => (t.bump 0x2102 3, Rc.busy)
  | some (n, u) =>
    ((u.firstStep n .sig none).putCode 0x2A20 3 Rc.pending, Rc.ok)

/-- A write to 0x2A20:01 by its own rule (R313). -/
def ownAttestation (value : Bytes) : Own := fun s =>
  if value.length < 16 ∨ 64 < value.length then (s, Rc.challengeLength)
  else if s.mode = .retired ∨ (s.mode = .factory ∧ !s.sig.certified) then (s, Rc.modeForbids)
  else if s.sig.failed then (s.putCode 0x2A20 3 Rc.sheFailed, Rc.sheFailed)
  else if !s.sig.identity then (s, Rc.modeForbids)
  else if s.identityBad then (s.putCode 0x2A20 3 Rc.hwFault, Rc.hwFault)
  else s.requestAttestation value

/-- ATTESTATION_CHALLENGE (R313). -/
def execAttestationChallenge (via : Via) (value : Bytes) (s : State) : Out :=
  keepLock s (s.hostWrite via 0x2A20 1 value (ownAttestation value))

/-! ## Firmware images (R314 to R317) -/

/-- Check 1 of R315: MAGIC, FORMAT, FLAGS, STEPPING and LENGTH. -/
def imageHeaderOk (h : Bytes) : Bool :=
  h.take 4 == ascii "BLSF" && field h 4 2 == 1 && field h 6 2 == 0 && byteAt h 28 ≤ 0xB0
    && field h 36 4 % 16 == 0 && 16 ≤ field h 36 4 && field h 36 4 ≤ 523264

/-- Check 5 of R315: no countersignature in FACTORY and BLANK, the owner's in every other mode. -/
def State.ownerSigOk (s : State) (h : Bytes) : Bool :=
  if s.mode = .factory ∨ s.mode = .blank then allZero (h.drop 444)
  else sigHolds (s.bytes 0x2021 0) (ascii "BLS9640-FWO") (h.take 444) (h.drop 444)

/-- The checks of R315 in order; none where the header passes. -/
def State.imageRefused (s : State) (h : Bytes) : Option Code :=
  if !imageHeaderOk h then some Rc.fwHeaderInvalid
  else if field h 32 4 < s.sig.svn then some Rc.fwRollback
  else if s.sig.failed then some Rc.sheFailed
  else if !s.certOk (slice h 120 210) 4 darithRoot then some Rc.certInvalid
  else if !sigHolds (slice h 158 57) (ascii "BLS9640-FWV") (h.take 330) (slice h 330 114) then some Rc.sigInvalid
  else if !s.ownerSigOk h then some Rc.fwOwnerSig
  else if s.sig.installing.isSome then some Rc.busy
  else none

/-- The verifications the checks of R315 have made when they end: FWCERT, VSIG, and OSIG where one is due (0x2A00:02). -/
def State.headerChecks (s : State) (h : Bytes) : Nat :=
  if !imageHeaderOk h || field h 32 4 < s.sig.svn || s.sig.failed then 0
  else if !s.certOk (slice h 120 210) 4 darithRoot then 1
  else if !sigHolds (slice h 158 57) (ascii "BLS9640-FWV") (h.take 330) (slice h 330 114) then 2
  else if s.mode = .factory ∨ s.mode = .blank then 2
  else 3

/-- The bank that is not active (R315). -/
def Signature.inactive (g : Signature) : Nat := 1 - g.activeBank

/-- The inactive bank WRITING, with its header (R316). -/
def State.markWriting (s : State) (h : Bytes) (v : Srv) : State :=
  { s with sig :=
      { s.sig with
        installing := some (s.sig.inactive, v)
        banks := s.sig.banks.modify s.sig.inactive fun _ =>
          { state := .writing, imageId := slice h 8 16, release := field h 24 4, svn := field h 32 4, digest := slice h 40 64,
            length := field h 36 4, header := h } } }

/-- A host's transfer that stays open holds its server with a DICTIONARY session (R351, R353); none where no slot is to be had. -/
def State.holdServer (s : State) (via : Via) : Option State :=
  if (s.server via.srv).slot.isSome then some s
  else
    (s.admitNow .dictionary (.dictionary via.srv)).map fun r =>
      (r.2.await r.1).setServer via.srv fun v => { v with segmented := true, slot := some r.1, lastFrame := s.tick }

/-- A cipher job is requested for a consumer; without room its content fails with NO_RESOURCE (R43, R292). -/
def State.requestJob (s : State) (c : Consumer) : State :=
  let r := s.requestSession .cipher none (.cipher c)
  if r.2 then r.1 else (r.1.bump 0x2102 3).failConsumer c Rc.noResource

/-- A header that passes its checks (R316). -/
def State.startInstall (s : State) (via : Via) (h : Bytes) : State :=
  match s.holdServer via with
  | none => s.noSession via 0x2A30 true
  | some t =>
    (((t.markWriting h via.srv).putCode 0x2A30 2 Rc.pending).putNum 0x2A30 3 0).requestJob .firmware

/-- The first 558 bytes of an image (R315). -/
def State.takeImageHeader (s : State) (via : Via) (h : Bytes) : State :=
  let s := s.supersede via.srv
  if s.mode = .retired then s.endTransfer via true Rc.modeForbids (abortCodeOf Rc.modeForbids 0x2A30 true)
  else
    match s.imageRefused h with
    | some c => ((s.she (s.headerChecks h)).putCode 0x2A30 2 c).endTransfer via true c (abortCodeOf c 0x2A30 true)
    | none => (s.she (s.headerChecks h)).startInstall via h

/-- FIRMWARE_IMAGE_HEADER (R315). -/
def execFirmwareImageHeader (via : Via) (header : Bytes) (s : State) : Out :=
  keepLock s (if s.portServes via.port && header.length == 558 then s.takeImageHeader via header else s)

/-- The session of a cipher job. -/
def State.jobSlot (s : State) (c : Consumer) : Option Nat := (s.tilth.find fun sl => sl.inFlight && sl.work == .cipher c).head?

/-- A job's open ends with its tag check, where it has not ended yet (R290, R292). -/
def State.endJobOpen (s : State) (n : Nat) (tagHolds : Bool) : State :=
  match s.openOf n with
  | some o => s.endOpen o tagHolds
  | none => s

/-- A bank's read-back digest is right: VALID, and FW_STAGED (R316). -/
def State.stageBank (s : State) (b n : Nat) (v : Srv) : State :=
  let image := ((s.sig.banks[b]?).map (·.imageId)).getD []
  let t := { s with sig :=
    { s.sig with installing := none, banks := s.sig.banks.modify b fun (k : Bank) => { k with state := .valid } } }
  ((((t.putCode 0x2A30 2 Rc.ok).putNum 0x2A30 3 100).event Ev.fwStaged 0 image).dropTransfer v Rc.ok).finish n Rc.ok

/-- The payload read back and its digest recomputed (R316). -/
def State.checkInstall (s : State) (b n : Nat) (v : Srv) (readBack : Bytes) : State :=
  if s.sig.failed then s.finish n Rc.sheFailed
  else if shake readBack 64 = ((s.sig.banks[b]?).map (·.digest)).getD [] then (s.she 1).stageBank b n v
  else (s.she 1).finish n Rc.fwDigestMismatch

/-! ## Cipher jobs (R272, R292) -/

/-- The root, the label and the context of a consumer's key (R272, R314, R400). -/
def State.jobKey (s : State) (c : Consumer) : Option (Label × Bytes × Bytes) :=
  match c with
  | .firmware =>
    (lookup 3 s.cipher.roots).map fun r =>
      (.fwImg, r, ((s.sig.installing.bind fun x => (s.sig.banks[x.1]?).map (·.imageId)).getD []))
  | .journal =>
    (lookup 2 s.cipher.roots).map fun r => (.jImport, r, deviceBinding ++ leBytes 4 ((s.ledger.importing.map (·.iseq)).getD 0))

/-- The bytes a consumer's payload has (R314, R400). -/
def State.jobLength (s : State) (c : Consumer) : Nat :=
  match c with
  | .firmware => ((s.sig.installing.bind fun x => (s.sig.banks[x.1]?).map (·.length)).getD 0)
  | .journal => 64 * ((s.ledger.importing.map (·.count)).getD 0)

/-- The header of a journal import (R400). -/
def importHeader (i : Import) : Bytes :=
  ascii "BLSJ" ++ leBytes 2 1 ++ leBytes 2 0 ++ leBytes 4 i.iseq ++ leBytes 4 i.count ++ i.source

/-- The key a consumer's payload is opened with, and its AAD (R314, R400). -/
def State.jobAad (s : State) (c : Consumer) : Bytes :=
  match c with
  | .firmware => ((s.sig.installing.bind fun x => (s.sig.banks[x.1]?).map fun k => k.header.take 104)).getD []
  | .journal => (s.ledger.importing.map importHeader).getD []

/-- The tag of a consumer's payload holds (R290, R314, R400). -/
def State.jobTagHolds (s : State) (c : Consumer) (cipher tag : Bytes) : Bool :=
  (s.jobKey c).any fun k => tag == gcmTag (derive k.1 k.2.1 k.2.2) (zeros 12) (s.jobAad c) cipher

/-- The plaintext of a consumer's payload (R314, R400). -/
def State.jobPlain (s : State) (c : Consumer) (cipher : Bytes) : Bytes :=
  ((s.jobKey c).map fun k => gcmCrypt (derive k.1 k.2.1 k.2.2) (zeros 12) cipher).getD []

/-- FIRMWARE_INSTALL_END (R314, R316): the payload is whole, its tag is checked, the bank is read back. -/
def execFirmwareInstallEnd (payload readBack : Bytes) (s : State) : Out :=
  keepLock s <|
    match s.sig.installing, s.jobSlot .firmware with
    | some (b, v), some n =>
      if (s.slot n).state ≠ .waitingEngine ∨ payload.length ≠ s.jobLength .firmware then s
      else
        let t := s.endJobOpen n (s.jobTagHolds .firmware payload (slice (((s.sig.banks[b]?).map (·.header)).getD []) 104 16))
        if t.sig.installing.isNone then t else t.checkInstall b n v readBack
    | _, _ => s

/-- The provisional open of a job begins: 32 granules, the engine in operation (R289, R292). -/
def State.openJob (s : State) (n : Nat) (c : Consumer) : State :=
  let o : GcmOpen := { slot := n, silt := 32, annex := 0, provisional := some c, total := s.jobLength c, complete := false }
  let t := { s with cipher := { s.cipher with opens := s.cipher.opens ++ [o] } }
  (t.putNum 0x2904 2 (min (t.num 0x2904 2) t.cipher.siltFree)).setSlot n fun sl =>
    { sl with state := .waitingEngine, engine := some .aes }

/-- IMPORT_BEGIN is written before the payload of a journal import is opened (R400; log entry 88). -/
def State.beginImport (s : State) (c : Consumer) : State :=
  match c, s.ledger.importing with
  | .journal, some i =>
    ({ s with ledger := { s.ledger with importing := some { i with begun := true } } }).appendRecord 0x04 0 (importBody i Rc.pending)
  | _, _ => s

/-- The root slot of a consumer's key (R272). -/
def jobRoot : Consumer → Nat
  | .firmware => 3
  | .journal => 2

/-- A CIPHER session's step derives its key and begins its open (R268, R284, R292, R436). -/
def State.startJob (s : State) (n : Nat) (c : Consumer) : State :=
  if s.cipher.failed then s.finish n Rc.cipherFailed
  else
    match s.jobKey c with
    | none => s.finish n Rc.rootEmpty
    | some (label, root, context) =>
      if s.rootBad (jobRoot c) then s.finish n Rc.hwFault else
      (((s.deriveKey (.slot n) label (derive label root context)).beginImport c).openJob n c)

/-! ## Activation (R317) -/

/-- The checks of R317; none where the activation is accepted. -/
def State.activationRefused (s : State) (b : Nat) : Option Code :=
  match s.sig.banks[b]? with
  | none => some Rc.fwBankState
  | some k =>
    if k.state ≠ .valid then some Rc.fwBankState
    else if k.svn < s.sig.svn then some Rc.fwRollback
    else if !s.lockCondition then some Rc.lockReleased
    else none

/-- A bank after the activation of another or of itself (R317). -/
def Bank.afterActivation (b : Nat) (e : Bank × Nat) : Bank :=
  if e.2 = b then { e.1 with state := .active } else if e.1.state = .active then { e.1 with state := .valid } else e.1

/-- The bank takes effect at the reset that follows (R317): the bank active before stays VALID as fallback (log entry 86). -/
def State.activate (s : State) (b : Nat) : State :=
  let svn := ((s.sig.banks[b]?).map (·.svn)).getD 0
  let t := { s with sig :=
    { s.sig with
      svn := svn
      activeBank := b
      activating := true
      banks := s.sig.banks.zipIdx.map (Bank.afterActivation b) } }
  t.event Ev.fwActivated 0 (leBytes 1 b ++ leBytes 4 svn)

/-- A write to 0x2A31:01 by its own rule (R317). -/
def ownActivate (value : Bytes) : Own := fun s =>
  match s.activationRefused (leNat value) with
  | some c => (s.putCode 0x2A31 2 c, c)
  | none => ((s.activate (leNat value)).putCode 0x2A31 2 Rc.ok, Rc.ok)

/-- ACTIVATE_BANK (R317). -/
def execActivateBank (via : Via) (value : Bytes) (s : State) : Out :=
  keepLock s (s.hostWrite via 0x2A31 1 value (ownActivate value))

end Sys2Proof.Machine
end

