-- ==== Sys2Proof/Machine/Random.lean ====
section
/-! DEFINITION. The random source (chapter 11, second part): health failures and restarts, seeding, requests that wait, reseeds of
the stretch instances, host random bytes. -/

namespace Sys2Proof.Machine

/-- The random source changed. -/
def State.setRng (s : State) (f : Random → Random) : State := { s with rng := f s.rng }

/-! ## Requests that wait (R323, R326) -/

/-- A waiting request is answered with a failure: a RELEASE refuses, STOP and STATUS go on with the fallback challenge, every other session
ends (R193, R197, R327). -/
def State.failDraw (s : State) (n : Nat) (code : Code) : State :=
  match (s.slot n).exchange? with
  | some x =>
    let t := s.setInstance 3 fun g => { g with queue := g.queue.filter (· != n) }
    if x.op = .release then t.refuseExchange n x code else t.challengeFallback n x
  | none => s.finish n code

/-- The slots that wait at instances whose number satisfies a condition, with the code each is to receive. -/
def State.drawWaits (s : State) (p : Nat → Generator → Bool) : List Nat :=
  (s.rng.instances.zipIdx.filter fun e => p (e.2 + 1) e.1).flatMap fun e => e.1.queue

/-- Waiting slots are failed with a code. -/
def State.failDraws (s : State) (code : Code) (ns : List Nat) : State := ns.foldl (fun u n => u.failDraw n code) s

/-- A request that has been served: the session's step goes on (R102, R110, R193, R323). -/
def State.resumeDraw (s : State) (n inst : Nat) : State :=
  match (s.slot n).work with
  | .approach _ => s.startRound n true
  | .badge _ => s.startBadge n true
  | .release x => s.drawChallenge n x true
  | _ => ((s.used 64).countCall inst).operationDone n

/-- The first waiting request of an instance is served. -/
def State.serveDraw (s : State) (inst : Nat) : State :=
  match s.instance? inst with
  | some g =>
    match g.queue with
    | n :: rest => (s.setInstance inst fun g => { g with queue := rest }).resumeDraw n inst
    | [] => s
  | none => s

/-- The lowest strict instance with a request that can be served: strict requests are served in instance order (R323). -/
def State.nextStrict (s : State) : Option Nat :=
  [1, 2, 3, 4].find? fun i => (s.instance? i).any fun g => !g.queue.isEmpty && s.strictDraw g true == .ready

/-- STRICT_REQUEST_SERVED (R323). -/
def execStrictRequestServed (s : State) : Out :=
  keepLock s (match s.nextStrict with | some i => s.serveDraw i | none => s)

/-- RNG_NOT_READY_TIMEOUT (R326): 4 ms after RNS came on, requests to instances still unseeded fail (log entry 93). -/
def execRngNotReadyTimeout (s : State) : Out :=
  keepLock s <|
    if s.rng.source ≠ .off ∧ 4 * ticksPerMs ≤ s.sinceTick s.rng.onFrom then
      s.failDraws Rc.rngNotReady (s.drawWaits fun _ g => !g.seeded)
    else s

/-! ## Seeding (R326) -/

/-- An instance receives a seed (R324, R326). -/
def Generator.seed (g : Generator) (tick : Tick) : Generator :=
  { g with seeded := true, calls := 0, reseedTick := tick, exhausted := false }

/-- Every waiting stretch request is served, one after another (R326). -/
def State.serveStretch (s : State) : State :=
  (s.drawWaits fun i _ => 4 < i).foldl
    (fun u n =>
      match (List.range 16).find? fun i => 4 ≤ i && (u.instance? (i + 1)).any fun g => g.queue.head? == some n with
      | some i => u.serveDraw (i + 1)
      | none => u) s

/-- All sixteen instances have received their first seed (R326; log entries 91 and 93). -/
def State.seedAll (s : State) : State :=
  let t := s.setRng fun r =>
    { r with instances := r.instances.map fun g => if g.seeded then g else g.seed s.tick }
  ((t.putNum 0x2A40 8 s.tick).event Ev.rngSeeded 0 []).serveStretch

/-- RNG_SEEDED (R326). -/
def execRngSeeded (s : State) : Out :=
  keepLock s (if s.rng.source = .ready ∧ s.rng.instances.any (fun g => !g.seeded) then s.seedAll else s)

/-! ## Health failures, restarts and the latch (R327 to R329) -/

/-- A failure counts as consecutive with the previous one (R327). -/
def State.consecutive (s : State) : Bool :=
  s.rng.source == .restarting
    || (s.rng.failures != 0 && s.sinceTick s.rng.lastRestartEnd ≤ s.seenNum 0x2A40 3 * ticksPerSecond)

/-- The code of a cell and of a test in RNG_HEALTH_FAIL (R327; log entry 13). -/
def cellCode : Cell → Nat
  | .a => 0 | .b => 1
def testCode : HealthTest → Nat
  | .rct => 0 | .apt => 1

/-- The waiting requests fail: RNG_NOT_READY where the source leaves STARTING and the instance is unseeded, RNG_FAIL at the
strict instances (R325 to R327). -/
def State.failWaiting (s : State) : State :=
  let unseeded := s.drawWaits fun _ g => !g.seeded
  let seeded := s.drawWaits fun i g => g.seeded && i ≤ 4
  (s.failDraws Rc.rngNotReady unseeded).failDraws Rc.rngFail seeded

/-- The source latches its failure (R328). -/
def State.latchSource (s : State) : State :=
  ((s.setRng fun r => { r with source := .latched, testing := false, recovering := false, failures := 3 }).bump 0x2A40 5).alarm
    Ev.rngLatched 0 []

/-- A health failure has been found (R327, R328): waiting requests fail, the pool is zeroed, the source restarts or latches; a
failed test after a latch latches again at once (R329). -/
def State.healthFailed (s : State) : State :=
  let count := if s.rng.recovering then 3 else if s.consecutive then s.rng.failures + 1 else 1
  let t := (s.bump 0x2A40 4).failWaiting.setRng fun r => { r with pool := 0, conditioned := 0 }
  if 3 ≤ count then t.latchSource
  else t.setRng fun r => { r with source := .restarting, testing := true, failures := count }

/-- The source delivers bits that are tested: it is on and has not latched, unless a test runs to clear the latch (R320, R329). -/
def Random.tested (r : Random) : Bool :=
  r.source == .ready || r.source == .starting || r.source == .restarting || r.recovering

/-- RNG_HEALTH_FAIL (R327). -/
def execRngHealthFail (cell : Cell) (test : HealthTest) (s : State) : Out :=
  keepLock s <|
    if s.rng.tested then (s.event Ev.rngHealthFail (cellCode cell) (leBytes 1 (cellCode cell) ++ leBytes 1 (testCode test))).healthFailed else s

/-- A start-up test has passed (R327, R329; log entry 93). -/
def State.testPassed (s : State) : State :=
  let t := s.setRng fun r => { r with source := .ready, testing := false, recovering := false }
  if s.rng.recovering then (t.setRng fun r => { r with failures := 0 }).event Ev.rngRecovered 0 []
  else if s.rng.source = .restarting then (t.setRng fun r => { r with lastRestartEnd := s.tick }).event Ev.rngRestarted 0 []
  else t

/-- RNG_STARTUP_TEST_END (R320, R327 to R329). -/
def execRngStartupTestEnd (passed : Bool) (s : State) : Out :=
  keepLock s (if s.rng.testing then (if passed then s.testPassed else s.healthFailed) else s)

/-- A write to 0x2A40:06 by its own rule (R329): effective only while the source is LATCHED. -/
def ownRestartSource : Own := fun s =>
  (if s.rng.source = .latched ∧ !s.rng.testing then s.setRng fun r => { r with testing := true, recovering := true } else s, Rc.ok)

/-- RNG_RESTART_SOURCE (R329). -/
def execRngRestartSource (via : Via) (value : Bytes) (s : State) : Out :=
  keepLock s (s.hostWrite via 0x2A40 6 value ownRestartSource)

/-! ## Stretch instances (R324) -/

/-- A reseed of a stretch instance is due and can be made: the pool holds 8 blocks or more (R321, R324). -/
def State.reseedDue (s : State) (g : Generator) : Bool :=
  s.rng.source == .ready && g.seeded && 8 ≤ s.rng.pool
    && (g.spent || s.seenNum 0x2A41 1 ≤ g.calls || s.seenNum 0x2A41 2 * ticksPerSecond ≤ s.sinceTick g.reseedTick)

/-- ST0 and ST5 to ST10 serve the countermeasures and the service cores' firmware, whose calls are no commands: their counts are not kept
(R287, R322; log entry 91). -/
def internalClient (inst : Nat) : Bool := inst == 5 || (10 ≤ inst && inst ≤ 15)

/-- STRETCH_RESEED (R324): in the background, from the pool (log entry 91). -/
def execStretchReseed (inst : Nat) (s : State) : Out :=
  keepLock s <|
    match s.instance? inst with
    | some g =>
      if 5 ≤ inst ∧ (s.reseedDue g ∨ internalClient inst ∧ s.rng.source = .ready ∧ g.seeded ∧ 8 ≤ s.rng.pool) then
        (s.setInstance inst fun g => g.seed s.tick).setRng fun r => { r with pool := r.pool - 3 }
      else s
    | none => s

/-- RNG_STRETCH_EXHAUSTED (R324). -/
def execRngStretchExhausted (inst : Nat) (s : State) : Out :=
  keepLock s <|
    match s.instance? inst with
    | some g =>
      if 5 ≤ inst ∧ g.seeded ∧ (2 ^ 20 ≤ g.calls ∨ internalClient inst) ∧ !g.exhausted then
        (s.setInstance inst fun g => { g with exhausted := true, calls := 2 ^ 20 }).event Ev.rngStretchExhausted inst (leBytes 1 inst)
      else s
    | none => s

/-- A read of 0x2A45:00 (R322): 32 fresh bytes from ST11, all zero where it cannot deliver; RNS is woken on first access (log entry 94).
-/
def ownHostRandom : Own := fun s =>
  let t := s.firstAccess .rns 0
  match t.drawState 16 with
  | .ready => (((t.used 32).countCall 16).put 0x2A45 0 (t.fresh 32), Rc.ok)
  | _ => (t.put 0x2A45 0 (zeros 32), Rc.ok)

/-- HOST_RANDOM_READ (R322). -/
def execHostRandomRead (via : Via) (s : State) : Out := keepLock s (s.hostRead via 0x2A45 0 ownHostRandom)

end Sys2Proof.Machine
end

