-- ==== Sys2Proof/Machine/Network.lean ====
section
/-! DEFINITION. The field network: NMT, heartbeat and partners, USDO servers, error states of a port, bit rates, PDO mapping, LSS
(chapter 12). The PDOs themselves are in Pdo, the wake patterns in Domains. -/

namespace Sys2Proof.Machine

/-! ## A port (R332 to R336) -/

/-- A port receives frames: it is on and not bus-off (R335, R336). -/
def State.portHears (s : State) (pt : Port) : Bool := s.portOn pt && (s.port pt).bus != .busOff

/-- The other port. -/
def otherPort : Port → Port
  | .v => .p
  | .p => .v

/-- The code of a port, 0 CAN-V, 1 CAN-P (R344, R347). -/
def portCode : Port → Nat
  | .v => 0
  | .p => 1

/-- The port of a code. -/
def portOfCode (n : Nat) : Port := if n = 0 then .v else .p

/-- The sub-index of a port's own entries: node-ID and nominal rate; the data rate lies two further (R358). -/
def portSub : Port → Nat
  | .v => 1
  | .p => 2

/-- The node-ID a port takes at its next Reset Communication, which 0x2B00 reads (R341, R342). -/
def State.nodeSet (s : State) (pt : Port) : Nat := (s.port pt).lssNode.getD (s.num 0x2B00 (portSub pt))

/-- The ports that send TPDO n: bit 0 CAN-V, bit 1 CAN-P (R347; log entry 28). -/
def State.tpdoOn (s : State) (n : Nat) (pt : Port) : Bool :=
  let v := s.seenNum 0x2B11 n
  v == 2 || v == portCode pt

/-- A port restarts as after a Reset Communication: node-ID and rates taken over, EMCY and PDO state cleared, boot-up sent
unless it has no node-ID (R333, R336, R339 to R342). -/
def CanPort.restart (p : CanPort) (node nominal data : Nat) (auto : Bool) (tick : Tick) : CanPort :=
  { p with
    nmt := if node = 0xFF then .initialising else if auto then .operational else .preOperational
    bus := .active, recovering := false, nominal := nominal, data := data, node := node, lssRate := none,
    lssConfig := false, fastscan := { sub := 0 }, emcy := [], overflow := false, tpdos := [], heartbeatFrom := tick,
    bootUps := if node = 0xFF then p.bootUps else p.bootUps + 1 }

/-- The port part of a Reset Communication. -/
def State.restartPort (s : State) (pt : Port) : State :=
  let t := s.setPort pt fun p =>
    p.restart (s.nodeSet pt) (s.num 0x2B01 (portSub pt)) (s.num 0x2B01 (portSub pt + 2)) (bit (s.num 0x1F80 0) 2) s.tick
  { t with net :=
      { t.net with
        syncCounts := t.net.syncCounts.filter fun e => !s.tpdoOn e.1 pt
        inhibit := t.net.inhibit.filter fun e => !s.tpdoOn e.1 pt } }

/-- A USDO transfer ends with what it carries (R340, R351, R354). -/
def State.endServer (s : State) (v : Srv) (code : Code) : State :=
  (s.carries v).foldl (fun u c => u.dropJob code c) (s.dropTransfer v code)

/-- The transfer of a server on a port ends with an abort (R340). -/
def State.endServerOn (s : State) (pt : Port) (v : Srv) : State :=
  if (s.server v).client.any fun c => c.1 == pt then s.endServer v Rc.aborted else s

/-- NMT Reset Communication of a port (R340). -/
def State.resetCommunication (s : State) (pt : Port) : State := ((s.endServerOn pt .one).endServerOn pt .two).restartPort pt

/-! ## NMT (R338 to R340) -/

/-- An NMT command on a port addresses it: node-ID 0 means every node (R339, CiA 1301). -/
def State.nmtHeard (s : State) (pt : Port) (node : Nat) : Bool := s.portHears pt && (node == 0 || node == (s.port pt).node)

/-- A port that has a node-ID changes its NMT state (R339). -/
def State.nmtTo (s : State) (pt : Port) (node : Nat) (n : Nmt) : State :=
  if s.nmtHeard pt node then s.setPort pt fun p => { p with nmt := if p.nmt = .initialising then .initialising else n } else s

/-- NMT_START (R339). -/
def execNmtStart (pt : Port) (node : Nat) (s : State) : Out := keepLock s (s.nmtTo pt node .operational)

/-- NMT_STOP (R339). -/
def execNmtStop (pt : Port) (node : Nat) (s : State) : Out := keepLock s (s.nmtTo pt node .stopped)

/-- NMT_ENTER_PRE_OPERATIONAL (R339). -/
def execNmtEnterPreOperational (pt : Port) (node : Nat) (s : State) : Out := keepLock s (s.nmtTo pt node .preOperational)

/-- NMT_RESET_COMMUNICATION (R340). -/
def execNmtResetCommunication (pt : Port) (node : Nat) (s : State) : Out :=
  keepLock s (if s.nmtHeard pt node then s.resetCommunication pt else s)

/-- NMT_RESET_NODE (R340): a reset of the controller only while the start lock is withheld. -/
def execNmtResetNode (pt : Port) (node : Nat) (s : State) : Out :=
  if !s.nmtHeard pt node then keepLock s s
  else if s.lock.released then
    keepLock s ((s.resetCommunication pt).event Ev.nmtResetDeferred 0 (leBytes 1 (portCode pt)))
  else resetOnly s (s.resetDie .nmt)

/-! ## Partners (R344 to R346) -/

/-- Entry numbers 1 to 32. -/
def partnerNumbers : List Nat := (List.range 32).map (· + 1)

/-- A partner entry. -/
def State.partner (s : State) (n : Nat) : Option Partner := if n = 0 then none else (s.net.partners[n - 1]?).join

/-- A partner entry written. -/
def State.setPartner (s : State) (n : Nat) (p : Option Partner) : State :=
  { s with net := { s.net with partners := if n = 0 then s.net.partners else s.net.partners.set (n - 1) p } }

/-- The entry of a port and node-ID. -/
def State.findPartner (s : State) (pt : Port) (node : Nat) : Option Nat :=
  partnerNumbers.find? fun n => (s.partner n).any fun p => p.port == pt && p.node == node

/-- The first empty entry. -/
def State.emptyPartner (s : State) : Option Nat := partnerNumbers.find? fun n => (s.partner n).isNone

/-- How long a learned entry has been LOST; none for any other entry. -/
def State.lostFor (s : State) (n : Nat) : Option Nat :=
  match s.partner n with
  | some p => if p.configured.isNone ∧ p.state = .lost then some (s.sinceTick p.lostAt) else none
  | none => none

/-- The learned entry that has been LOST longest (R345). -/
def State.longestLost (s : State) : Option Nat :=
  partnerNumbers.foldl
    (fun best n => match s.lostFor n, best with
      | none, b => b
      | some _, none => some n
      | some t, some b => if (s.lostFor b).getD 0 < t then some n else some b) none

/-- The entry number of a partner, the subject of its events: the first entry, at sub-index 1, is number 0 (R359, example of
chapter 12). -/
def partnerSubject (n : Nat) : Nat := n - 1

/-- The subject and data of a partner's events: its entry, and port and node-ID (R359). -/
def State.partnerEvent (s : State) (code : Code) (n : Nat) (pt : Port) (node : Nat) : State :=
  s.event code (partnerSubject n) (leBytes 1 (portCode pt) ++ leBytes 1 node)

/-- PARTNER_TABLE_FULL, at most once in 60 s (R345). -/
def State.partnerTableFull (s : State) (pt : Port) (node : Nat) : State :=
  if s.net.tableFullAt.any fun t => s.sinceTick t < 60 * ticksPerSecond then s
  else ({ s with net := { s.net with tableFullAt := some s.tick } }).partnerEvent Ev.partnerTableFull 0 pt node

/-- A learned entry in PRESENT (R345). -/
def learned (pt : Port) (node : Nat) (operational : Bool) (tick : Tick) : Partner :=
  { port := pt, node := node, state := .present, operational := operational, configured := none, last := tick,
    losses := 0, lostAt := 0 }

/-- A node not in the table appears (R345). -/
def State.partnerAppears (s : State) (pt : Port) (node : Nat) (operational : Bool) : State :=
  match (match s.emptyPartner with | some n => some n | none => s.longestLost) with
  | some n => (s.setPartner n (some (learned pt node operational s.tick))).partnerEvent Ev.partnerAppeared n pt node
  | none => s.partnerTableFull pt node

/-- What hearing from an entry logs, by the state it had (R345). -/
def heardEvent (st : PartnerState) (bootUp : Bool) : Option Code :=
  match st with
  | .expected => some Ev.partnerAppeared
  | .lost => some Ev.partnerReturned
  | .present => if bootUp then some Ev.partnerRestarted else none

/-- A heartbeat or boot-up from a node (R345). -/
def State.partnerHeard (s : State) (pt : Port) (node : Nat) (bootUp operational : Bool) : State :=
  match s.findPartner pt node with
  | none => s.partnerAppears pt node operational
  | some n =>
    match s.partner n with
    | none => s
    | some p =>
      let t := s.setPartner n (some { p with state := .present, operational := operational, last := s.tick })
      match heardEvent p.state bootUp with
      | some e => t.partnerEvent e n pt node
      | none => t

/-- A heartbeat with the controller's own node-ID on the same port (R346). -/
def State.nodeClash (s : State) (pt : Port) (node : Nat) : State :=
  if node = (s.port pt).node ∧ ¬((s.port pt).clashAt.any fun t => s.sinceTick t < 60 * ticksPerSecond) then
    (s.setPort pt fun p => { p with clashAt := some s.tick }).alarm Ev.nodeIdClash 0 (leBytes 1 (portCode pt) ++ leBytes 1 node)
  else s

/-- A port consumes heartbeats once it has left initialising (R339); node-IDs run from 1 to 127. -/
def State.heartbeatHeard (s : State) (pt : Port) (node : Nat) : Bool :=
  s.portHears pt && (s.port pt).nmt != .initialising && 1 ≤ node && node ≤ 127

/-- HEARTBEAT_RECEIVED (R345, R346); state 0 is a boot-up message, state 5 operational (CiA 1301) (log entry 97). -/
def execHeartbeatReceived (pt : Port) (node state : Nat) (s : State) : Out :=
  keepLock s (if s.heartbeatHeard pt node then (s.partnerHeard pt node (state == 0) (state == 5)).nodeClash pt node else s)

/-- BOOT_UP_RECEIVED (R345). -/
def execBootUpReceived (pt : Port) (node : Nat) (s : State) : Out :=
  keepLock s (if s.heartbeatHeard pt node then s.partnerHeard pt node true false else s)

/-- The time after which an entry is LOST, in ms (R345). -/
def State.partnerTime (s : State) (p : Partner) : Nat :=
  match p.configured with
  | some k => s.num 0x1016 k % 65536
  | none => s.num 0x2B42 0

/-- An entry enters LOST (R345); LOSSES saturates (R344). -/
def State.losePartner (s : State) (n : Nat) : State :=
  match s.partner n with
  | none => s
  | some p =>
    if p.state = .present ∧ s.partnerTime p * ticksPerMs ≤ s.sinceTick p.last then
      let t := s.setPartner n (some { p with state := .lost, losses := satAdd 65535 p.losses 1, lostAt := s.tick })
      let data := leBytes 1 (portCode p.port) ++ leBytes 1 p.node
      if p.configured.isSome then
        (t.logWith Ev.partnerLost (partnerSubject n) data false true).raiseOn (p.port == .v && s.emcyPort .v)
          (p.port == .p && s.emcyPort .p) 0x8130 Ev.partnerLost (partnerSubject n)
      else t.partnerEvent Ev.partnerLost n p.port p.node
    else s

/-- PARTNER_LOST (R345). -/
def execPartnerLost (entry : Nat) (s : State) : Out := keepLock s (if s.running then s.losePartner entry else s)

/-- The configured entry that consumer sub-index k asks for (R344); a node-ID outside 1 to 127 or a time of 0 asks for none. -/
def State.wanted (s : State) (k : Nat) : Option (Port × Nat) :=
  let v := s.num 0x1016 k
  let node := v / 65536 % 256
  if v % 65536 = 0 ∨ node = 0 ∨ 127 < node then none else some (portOfCode (s.num 0x2B40 k), node)

/-- The entry of consumer sub-index k. -/
def State.configuredAt (s : State) (k : Nat) : Option Nat :=
  partnerNumbers.find? fun n => (s.partner n).any fun p => p.configured == some k

/-- A place for a configured entry (R344): its own, the learned one of its node, an empty one, the learned one LOST longest, else the last
learned one (log entry 98). -/
def State.placeFor (s : State) (k : Nat) (pt : Port) (node : Nat) : Option Nat :=
  let free := fun n => (s.partner n).all fun p => p.configured.isNone
  match s.configuredAt k, (s.findPartner pt node).filter free, s.emptyPartner, s.longestLost with
  | some n, _, _, _ => some n
  | none, some n, _, _ => some n
  | none, none, some n, _ => some n
  | none, none, none, some n => some n
  | none, none, none, none => partnerNumbers.reverse.find? free

/-- A configured entry in EXPECTED; what it counted stays while its node stays the same (R344, R345). -/
def expectedEntry (k : Nat) (pt : Port) (node : Nat) (old : Option Partner) : Partner :=
  let same := old.filter fun p => p.port == pt && p.node == node
  { port := pt, node := node, state := .expected, operational := false, configured := some k,
    last := (same.map (·.last)).getD 0, losses := (same.map (·.losses)).getD 0, lostAt := 0 }

/-- The configured entry of consumer sub-index k restarts in EXPECTED, or is removed (R344, R345). A PRESENT learned entry that gives way
is reported (log entry 98). -/
def State.restartPartner (s : State) (k : Nat) : State :=
  match s.wanted k with
  | none =>
    match s.configuredAt k with
    | some n => s.setPartner n none
    | none => s
  | some (pt, node) =>
    match s.placeFor k pt node with
    | none => s.partnerTableFull pt node
    | some n =>
      let t := s.setPartner n (some (expectedEntry k pt node (s.partner n)))
      match s.partner n with
      | some p =>
        if p.configured.isNone ∧ ¬(p.port = pt ∧ p.node = node) ∧ p.state ≠ .lost then t.partnerTableFull p.port p.node else t
      | none => t

/-- A write to 0x1016 or 0x2B40 by its own rule (R345): a change restarts the entry. -/
def ownConsumer (idx k : Nat) (value : Bytes) : Own := fun s =>
  let t := s.put idx k value
  (if value = s.bytes idx k then t else t.restartPartner k, Rc.ok)

/-! ## USDO servers (R351 to R354) -/

/-- The server a client holds on a port (R351). -/
def State.heldBy (s : State) (pt : Port) (client : Nat) : Option Srv :=
  if s.net.server1.client = some (pt, client) then some .one
  else if s.net.server2.client = some (pt, client) then some .two
  else none

/-- The lower-numbered free server (R351). -/
def State.freeSrv (s : State) : Option Srv :=
  if s.net.server1.client.isNone then some .one else if s.net.server2.client.isNone then some .two else none

/-- A transfer begins on a server; a segmented one is admitted as a DICTIONARY session, or aborted with BUSY (R351, R353). -/
def State.beginTransfer (s : State) (v : Srv) (pt : Port) (client : Nat) (segmented : Bool) : State :=
  let held := fun (slot : Option Nat) (t : State) =>
    t.setServer v fun u =>
      { u with client := some (pt, client), segmented := segmented, lastFrame := s.tick, slot := slot, abortCode := 0 }
  if !segmented then held none s
  else
    match s.admitNow .dictionary (.dictionary v) with
    | some (n, t) => held (some n) (t.firstStep n .can none)
    | none => (s.bump 0x2102 3).freeServer v Rc.busy

/-- A client's initiate (R351; log entry 101). -/
def State.initiate (s : State) (pt : Port) (client : Nat) (segmented : Bool) : State :=
  match s.heldBy pt client with
  | some v => (s.endServer v Rc.aborted).beginTransfer v pt client segmented
  | none =>
    match s.freeSrv with
    | some v => s.beginTransfer v pt client segmented
    | none => s.putCode 0x2B31 0 Rc.busy

/-- USDO_INITIATE (R351). -/
def execUsdoInitiate (pt : Port) (client : Nat) (segmented : Bool) (s : State) : Out :=
  keepLock s (if s.portServes pt then s.initiate pt client segmented else s)

/-- A segmented transfer without a frame for the segment timeout (R354). -/
def State.segmentTimeout (s : State) (v : Srv) : State :=
  let u := s.server v
  if u.client.isSome ∧ u.segmented ∧ s.seenNum 0x2B20 1 * ticksPerMs ≤ s.sinceTick u.lastFrame then s.endServer v Rc.transferTimeout
  else s

/-- USDO_SEGMENT_TIMEOUT (R354). -/
def execUsdoSegmentTimeout (srv : Srv) (s : State) : Out := keepLock s (s.segmentTimeout srv)

/-! ## Error states of a port (R335) -/

/-- BUS_OFF (R335). -/
def execBusOff (pt : Port) (s : State) : Out :=
  keepLock s (if s.portHears pt then
    (s.setPort pt fun p => { p with bus := .busOff, busOffFrom := s.tick, recovering := false }).event Ev.busOff 0
      (leBytes 1 (portCode pt))
  else s)

/-- kbit/s of a nominal rate code and of a data rate code. -/
def nominalKbit (c : Nat) : Nat := [125, 250, 500, 1000].getD c 0
def dataKbit (c : Nat) : Nat := [0, 1000, 2000, 4000, 5000].getD c 0

/-- The ticks of 128 occurrences of 11 recessive bits at a nominal rate, rounded up (R335). -/
def recoveryTicks (rate : Nat) : Nat := (128 * 11 * ticksPerMs + nominalKbit rate - 1) / nominalKbit rate

/-- Recovery may complete: it has started, by hand or after the delay, and the recessive bits have had their time since
(R335; log entry 100). -/
def State.recoveryDue (s : State) (pt : Port) : Bool :=
  let p := s.port pt
  let ran := s.sinceTick p.busOffFrom
  s.portOn pt && p.bus == .busOff
    && (if p.recovering then recoveryTicks p.nominal ≤ ran
      else s.seenNum 0x2B03 1 == 0 && s.seenNum 0x2B03 2 * ticksPerMs + recoveryTicks p.nominal ≤ ran)

/-- An event of a port with an EMCY on chosen ports (R335, R350). -/
def State.portAlarm (s : State) (pt : Port) (code error : Code) (onV onP : Bool) : State :=
  (s.logWith code 0 (leBytes 1 (portCode pt)) false true).raiseOn (onV && s.emcyPort .v) (onP && s.emcyPort .p) error code 0

/-- BUS_OFF_RECOVERY (R335). -/
def execBusOffRecovery (pt : Port) (s : State) : Out :=
  keepLock s (if s.recoveryDue pt then
    (s.setPort pt fun p => { p with bus := .active, recovering := false }).portAlarm pt Ev.busRecovered 0x8140 (pt == .v) (pt == .p)
  else s)

/-- A write to 0x2B03:03 by its own rule (R335): recovery of a bus-off port starts (log entry 100). -/
def ownBusOffRecover (value : Bytes) : Own := fun s =>
  let pt := portOfCode (leNat value - 1)
  (s.setPort pt fun p =>
    if p.bus = .busOff ∧ ¬p.recovering then { p with recovering := true, busOffFrom := s.tick } else p, Rc.ok)

/-- BUS_OFF_RECOVER (R335). -/
def execBusOffRecover (via : Via) (value : Bytes) (s : State) : Out :=
  keepLock s (s.hostWrite via 0x2B03 3 value (ownBusOffRecover value))

/-- ERROR_PASSIVE (R335): the EMCY goes to the other port. -/
def execErrorPassive (pt : Port) (s : State) : Out :=
  keepLock s (if s.portOn pt ∧ (s.port pt).bus = .active then
    (s.setPort pt fun p => { p with bus := .passive }).portAlarm pt Ev.errorPassive 0x8120 (pt == .p) (pt == .v)
  else s)

/-- PORT_ERROR_ACTIVE (R335). -/
def execPortErrorActive (pt : Port) (s : State) : Out :=
  keepLock s (if s.portOn pt ∧ (s.port pt).bus = .passive then s.setPort pt fun p => { p with bus := .active } else s)

/-- RX_OVERRUN (R335). -/
def execRxOverrun (pt : Port) (s : State) : Out :=
  keepLock s (if s.portHears pt then s.portAlarm pt Ev.rxOverrun 0x8110 true true else s)

/-! ## Bit rates (R333) -/

/-- The data rate does not exceed ten times the nominal rate (R333). -/
def ratesFit (nominal data : Nat) : Bool := dataKbit data ≤ 10 * nominalKbit nominal

/-- A write to 0x2B01:sub by its own rule (R333). -/
def ownBitrate (sub : Nat) (value : Bytes) : Own := fun s =>
  if s.lock.released then (s, Rc.bitrateLocked)
  else
    let fits := if sub ≤ 2 then ratesFit (leNat value) (s.num 0x2B01 (sub + 2)) else ratesFit (s.num 0x2B01 (sub - 2)) (leNat value)
    if fits then (s.put 0x2B01 sub value, Rc.ok) else (s, Rc.valueRange)

/-- A write to 0x2B01 (R333): while the lock is released it fails whatever its value. -/
def State.bitrateWrite (s : State) (via : Via) (sub : Nat) (value : Bytes) : State :=
  if s.lock.released ∧ 1 ≤ sub ∧ sub ≤ 4 then s.hostRead via 0x2B01 sub fun t => (t, Rc.bitrateLocked)
  else s.hostWrite via 0x2B01 sub value (ownBitrate sub value)

/-- CAN_BITRATE_WRITE (R333). -/
def execCanBitrateWrite (via : Via) (sub : Nat) (value : Bytes) (s : State) : Out := keepLock s (s.bitrateWrite via sub value)

/-! ## PDO mapping (R347, R348) -/

/-- A mapping index, of an RPDO or a TPDO. -/
def isPdoMapping (idx : Nat) : Bool := (0x1600 ≤ idx && idx ≤ 0x160F) || (0x1A00 ≤ idx && idx ≤ 0x1A0F)

/-- The PDO is valid: bit 31 of its COB-ID is clear (CiA 1301). -/
def State.pdoValid (s : State) (commIdx : Nat) : Bool := !bit (s.num commIdx 1) 31

/-- The types a PDO carries (R347). -/
def EntryRow.mappableType (r : EntryRow) : Bool :=
  match r.type with
  | .bool | .uint => true
  | .int => r.maxLen == 2 || r.maxLen == 4
  | .octets => r.maxLen ≤ 32
  | .domain | .vstring => false

/-- The classes a PDO carries (R347). -/
def Access.mappable (a : Access) (receive : Bool) : Bool :=
  match a with
  | .rw => true
  | .wo => receive
  | .ro | .const => !receive
  | .sw => false

/-- One mapped object: index, sub-index and length in bits (CiA 1301). -/
def mappedIdx (m : Nat) : Nat := m / 65536
def mappedSub (m : Nat) : Nat := m / 256 % 256
def mappedLen (m : Nat) : Nat := m % 256 / 8

/-- A mapped object the limits of R347 admit; 0 maps nothing. -/
def mappable (receive : Bool) (m : Nat) : Bool :=
  m == 0 ||
    match entryRow? (mappedIdx m) (mappedSub m) with
    | some r => r.access.mappable receive && r.mappableType && m % 8 == 0 && r.minLen ≤ mappedLen m && mappedLen m ≤ r.maxLen
    | none => false

/-- The objects a PDO maps, in order. -/
def State.mapped (s : State) (mapIdx : Nat) : List Nat := (List.range (s.num mapIdx 0)).map fun i => s.num mapIdx (i + 1)

/-- The bytes a mapping carries. -/
def mappingBytes (ms : List Nat) : Nat := (ms.map mappedLen).sum

/-- A mapping write by its own rule (R347). -/
def ownMapping (idx sub : Nat) (value : Bytes) : Own := fun s =>
  let receive := idx < 0x1A00
  let t := s.put idx sub value
  let ms := t.mapped idx
  if s.pdoValid (idx - 0x200) || !(sub == 0 || mappable receive (leNat value)) || 16 < t.num idx 0
      || !ms.all (mappable receive) || 64 < mappingBytes ms then (s, Rc.pdoMappingInvalid)
  else (t, Rc.ok)

/-- PDO_MAPPING_WRITE (R347). -/
def execPdoMappingWrite (via : Via) (idx sub : Nat) (value : Bytes) (s : State) : Out :=
  keepLock s (if isPdoMapping idx then s.hostWrite via idx sub value (ownMapping idx sub value) else s)

/-! ## LSS (R342, R343, CiA 305; log entry 14) -/

/-- One part of the LSS address: 0 vendor-ID, 1 product code, 2 revision, 3 serial number (R342). -/
def State.lssPart (s : State) (i : Nat) : Nat :=
  match i with
  | 0 => 0x00000D4A
  | 1 => 0x00009640
  | 2 => 0xB0 * 2 ^ 24 + (((s.sig.banks[s.sig.activeBank]?).map (·.release)).getD 0) % 2 ^ 24
  | _ => field uid 1 4

/-- LSS is served on a port that hears frames, in every NMT state (R339, R342). -/
def State.lssServed (s : State) (pt : Port) (config : Bool) : Bool := s.portHears pt && (s.port pt).lssConfig == config

/-- The port answers with a command specifier and data. -/
def State.lssAnswer (s : State) (pt : Port) (cs data : Nat) : State :=
  s.setPort pt fun p => { p with lssResponse := some (cs, data) }

/-- Error code 0xFF with the device-specific error 0x07, as the two data bytes after the command specifier (R343). -/
def lssRefused : Nat := 0xFF + 0x07 * 256

/-- LSS_SWITCH_STATE_GLOBAL (R342). -/
def execLssSwitchStateGlobal (pt : Port) (config : Bool) (s : State) : Out :=
  keepLock s (if s.portHears pt then s.setPort pt fun p => { p with lssConfig := config } else s)

/-- The slave enters configuration state and answers (R342). -/
def State.lssSelected (s : State) (pt : Port) (cs : Nat) : State :=
  (s.setPort pt fun p => { p with lssConfig := true }).lssAnswer pt cs 0

/-- LSS_SWITCH_STATE_SELECTIVE (R342). -/
def execLssSwitchStateSelective (pt : Port) (vendor product revision serial : Nat) (s : State) : Out :=
  keepLock s (if s.lssServed pt false ∧ [vendor, product, revision, serial] = (List.range 4).map s.lssPart then
      s.lssSelected pt 0x44
    else s)

/-- LSS_CONFIGURE_NODE_ID (R342). -/
def execLssConfigureNodeId (pt : Port) (node : Nat) (s : State) : Out :=
  keepLock s (if s.lssServed pt true then
      if (1 ≤ node ∧ node ≤ 127) ∨ node = 0xFF then
        (s.setPort pt fun p => { p with lssNode := some node }).lssAnswer pt 0x11 0
      else s.lssAnswer pt 0x11 1
    else s)

/-- The nominal rate code of a CiA 305 bit timing of table 0, for the rates of the table Bit rates (R342). -/
def lssRateCode (code : Nat) : Option Nat :=
  match code with
  | 0 => some 3
  | 2 => some 2
  | 3 => some 1
  | 4 => some 0
  | _ => none

/-- LSS_CONFIGURE_BIT_TIMING (R342, R343, R333). -/
def execLssConfigureBitTiming (pt : Port) (selector code : Nat) (s : State) : Out :=
  keepLock s (if s.lssServed pt true then
      if s.lock.released then s.lssAnswer pt 0x13 lssRefused
      else
        match if selector = 0 then lssRateCode code else none with
        | some r =>
          if ratesFit r (s.num 0x2B01 (portSub pt + 2)) then (s.setPort pt fun p => { p with lssRate := some r }).lssAnswer pt 0x13 0
          else s.lssAnswer pt 0x13 1
        | none => s.lssAnswer pt 0x13 1
    else s)

/-- LSS_ACTIVATE_BIT_TIMING (R342, R343): it has no answer but the refusal. -/
def execLssActivateBitTiming (pt : Port) (s : State) : Out :=
  keepLock s (if s.lssServed pt true then
      if s.lock.released then s.lssAnswer pt 0x15 lssRefused
      else s.setPort pt fun p => { p with nominal := p.lssRate.getD p.nominal }
    else s)

/-- The node-ID and rate LSS has configured, stored (R342). -/
def State.lssStore (s : State) (pt : Port) : State :=
  let t := match (s.port pt).lssNode with
    | some n => s.putNum 0x2B00 (portSub pt) n
    | none => s
  match (s.port pt).lssRate with
  | some r => t.putNum 0x2B01 (portSub pt) r
  | none => t

/-- LSS_STORE_CONFIGURATION (R342, R343). -/
def execLssStoreConfiguration (pt : Port) (s : State) : Out :=
  keepLock s (if s.lssServed pt true then
      if s.lock.released then s.lssAnswer pt 0x17 lssRefused else (s.lssStore pt).lssAnswer pt 0x17 0
    else s)

/-- LSS_INQUIRE_IDENTITY (R342). -/
def execLssInquireIdentity (pt : Port) (part : Nat) (s : State) : Out :=
  keepLock s (if s.lssServed pt true ∧ part ≤ 3 then s.lssAnswer pt (0x5A + part) (s.lssPart part) else s)

/-- LSS_INQUIRE_NODE_ID (R342). -/
def execLssInquireNodeId (pt : Port) (s : State) : Out :=
  keepLock s (if s.lssServed pt true then s.lssAnswer pt 0x5E (s.nodeSet pt) else s)

/-- LSS_IDENTIFY_REMOTE_SLAVE (R342). -/
def execLssIdentifyRemoteSlave (pt : Port) (vendor product revLow revHigh serLow serHigh : Nat) (s : State) : Out :=
  keepLock s (if s.portHears pt ∧ vendor = s.lssPart 0 ∧ product = s.lssPart 1 ∧ revLow ≤ s.lssPart 2 ∧ s.lssPart 2 ≤ revHigh
      ∧ serLow ≤ s.lssPart 3 ∧ s.lssPart 3 ≤ serHigh then s.lssAnswer pt 0x4F 0
    else s)

/-- LSS_IDENTIFY_NON_CONFIGURED (R342). -/
def execLssIdentifyNonConfigured (pt : Port) (s : State) : Out :=
  keepLock s (if s.portHears pt ∧ s.nodeSet pt = 0xFF then s.lssAnswer pt 0x50 0 else s)

/-- The bits of an ID number from the checked one up agree with this part of the LSS address (CiA 305). -/
def State.fastscanFits (s : State) (idNumber bitCheck lssSub : Nat) : Bool :=
  idNumber / 2 ^ bitCheck == s.lssPart lssSub / 2 ^ bitCheck

/-- One Fastscan step of a slave without a node-ID (R342, CiA 305). -/
def State.fastscan (s : State) (pt : Port) (idNumber bitCheck lssSub lssNext : Nat) : State :=
  if bitCheck = 0x80 then (s.setPort pt fun p => { p with fastscan := { sub := 0 } }).lssAnswer pt 0x4F 0
  else if 31 < bitCheck ∨ 3 < lssSub ∨ 3 < lssNext ∨ lssSub ≠ (s.port pt).fastscan.sub then s
  else if !s.fastscanFits idNumber bitCheck lssSub then s
  else
    let t := (s.setPort pt fun p => { p with fastscan := { sub := lssNext } }).lssAnswer pt 0x4F 0
    if bitCheck = 0 ∧ lssNext < lssSub then t.setPort pt fun p => { p with lssConfig := true } else t

/-- LSS_FASTSCAN (R342). -/
def execLssFastscan (pt : Port) (idNumber bitCheck lssSub lssNext : Nat) (s : State) : Out :=
  keepLock s (if s.lssServed pt false ∧ s.nodeSet pt = 0xFF then s.fastscan pt idNumber bitCheck lssSub lssNext else s)

/-- A write to 0x2B00 by its own rule (R341, R342): it replaces a node-ID LSS has configured. -/
def ownNodeId (sub : Nat) (value : Bytes) : Own := fun s =>
  ((s.put 0x2B00 sub value).setPort (portOfCode (sub - 1)) fun p => { p with lssNode := none }, Rc.ok)

/-! ## Producer heartbeat (R338) -/

/-- A heartbeat of a port is due: the port may transmit and the producer time has passed (R338, R339). -/
def State.heartbeatDue (s : State) (pt : Port) : Bool :=
  s.portHears pt && (s.port pt).nmt != .initialising && s.seenNum 0x1017 0 != 0
    && s.seenNum 0x1017 0 * ticksPerMs ≤ s.sinceTick (s.port pt).heartbeatFrom

/-- A port's heartbeat is sent. -/
def State.beat (s : State) (pt : Port) : State :=
  if s.heartbeatDue pt then s.setPort pt fun p => { p with heartbeatFrom := s.tick } else s

/-- PRODUCER_HEARTBEAT (R338). -/
def execProducerHeartbeat (s : State) : Out := keepLock s ((s.beat .v).beat .p)

end Sys2Proof.Machine
end

