-- ==== Sys2Proof/Machine/Bridge.lean ====
section
/-! DEFINITION. The Sahun bridge: link states and training, reads, posted writes, the landing buffer, AUX prefetch, the host window
(chapter 13). What a stream packet brings is in Meter. -/

namespace Sys2Proof.Machine

/-! ## Windows (R364) -/

/-- The first and the last address of each window. -/
def windows : List (Nat × Nat) :=
  [(0x00000000, 0x000000FF), (0x00010000, 0x00010FFF), (0x00020000, 0x000200FF), (0x00030000, 0x000307FF),
   (0x00040000, 0x000401FF), (0x00100000, 0x0010FFFF)]

/-- The window that holds a range of addresses. -/
def windowOf (addr len : Nat) : Option Nat :=
  (List.range 6).find? fun i => (windows[i]?).any fun w => w.1 ≤ addr && addr + len ≤ w.2 + 1

/-- The window byte of a posted-write error entry (R367). -/
def windowByte (addr : Nat) : Nat := (windowOf addr 1).getD 0xFF

/-- A window's attributes, as read at the last training (R364). -/
def State.attribute (s : State) (w : Nat) : Nat := byteAt (s.bytes 0x2C03 0) w

/-! ## The link (R361, R362) -/

/-- The link serves transfers (R361). -/
def State.linkServes (s : State) : Bool := s.bridge.link == .up || s.bridge.link == .degraded

/-- A transfer is refused with BRIDGE_DOWN (R361). -/
def State.linkRefuses (s : State) : Bool := s.bridge.link == .down || s.bridge.link == .failed

/-- Both sides are on (R361). -/
def State.bridgeOn (s : State) : Bool := s.isOn .brg && s.isOn .ept

/-- The lanes of a direction that are up: 0 main to Eptan, 1 Eptan to main (0x2C00:02). -/
def lanesUp (lanes direction : Nat) : Nat := lanes / 4 ^ direction % 4

/-- A posted-write error entry in its ring of 16 (R367). -/
def State.logWriteError (s : State) (w : PostedWrite) (cause : Code) : State :=
  let sub := s.num 0x2C21 0 % 16 + 1
  let entry := leBytes 4 w.addr ++ leBytes 1 (windowByte w.addr) ++ codeBytes cause ++ leBytes 1 w.slot
    ++ leBytes 6 (w.sent.getD s.tick) ++ leBytes 2 0
  ((s.put 0x2C20 sub entry).bump 0x2C21 0).alarm Ev.postedWriteFailed w.slot (leBytes 4 w.addr ++ codeBytes cause)

/-- Writes are lost with the link: logged with BRIDGE_DOWN and not sent again (R367). -/
def State.loseWrites (s : State) (lost : PostedWrite → Bool) : State :=
  (s.bridge.writes.filter lost).foldl (fun u w => u.logWriteError w Rc.bridgeDown)
    { s with bridge := { s.bridge with writes := s.bridge.writes.filter fun w => !lost w } }

/-- The link is lost: unacknowledged writes are lost with it, the landing buffer is discarded (R367, R369). -/
def State.loseLink (s : State) (link : LinkState) (training : Bool) : State :=
  ({ s with bridge :=
    { s.bridge with link := link, training := training, lanes := 0, naks := [], landed := [], timeouts := [] } }).loseWrites
      fun w => w.sent.isSome

/-- The link refuses transfers from now on: what it still held is refused as well (R361; log entry 103). -/
def State.refuseHeld (s : State) : State :=
  let held := (s.bridge.reads.filter (·.held)).map (·.slot)
  let waiting := s.bridge.roomWaits.map (·.slot)
  (held ++ waiting).foldl (fun u n => u.finish n Rc.bridgeDown) (s.loseWrites fun _ => true)

/-- A link fault (R362): TRAINING, LINK_DOWN with its EMCY (log entry 102). -/
def State.linkFault (s : State) : State :=
  if s.linkServes then ((s.loseLink .training true).alarm Ev.linkDown 0 (leBytes 1 s.bridge.lanes)) else s

/-- Training starts when both sides are on (R361). -/
def State.startTraining (s : State) : State :=
  if s.bridgeOn ∧ s.bridge.link = .down then
    { s with bridge := { s.bridge with link := .training, training := true, failedTrainings := 0 } }
  else s

/-- BRG or EPT has left on (R361). -/
def State.bridgeLeft (s : State) : State :=
  if s.bridge.link = .down ∨ s.bridgeOn then s else (s.loseLink .down false).refuseHeld

/-! ## Posting a write (R366, R380) -/

/-- The lowest transaction tag in no use (R363). -/
def Bridge.freeTag (b : Bridge) : Nat :=
  ((List.range 32).find? fun t => !(b.reads.any fun r => r.tag == t) && !(b.writes.any fun w => w.tag == t)).getD 31

/-- A write is queued for the commit of this tick; an AUX write discards the line (R366, R372). -/
def State.queueWrite (s : State) (shown addr : Nat) (data : Bytes) : State :=
  let t := if isAux addr then s.discardLine 2 else s
  let w : PostedWrite := { tag := t.bridge.freeTag, slot := shown, addr := addr, data := data, sent := none, applied := false }
  { t with bridge := { t.bridge with writes := t.bridge.writes ++ [w] } }

/-- The 16 places are taken (R366). -/
def State.writesFull (s : State) : Bool := 16 ≤ s.bridge.writes.length

/-- The constants the REG window holds (R380, R381): the factory constants, 0x2D10:01 to :06, and the current offset. -/
def State.eptanConstants (s : State) : List Bytes :=
  bytesOf Config.eptanConstantByte 64 :: (List.range 6).map (fun i => s.bytes 0x2D10 (i + 1)) ++ [s.bytes 0x2D12 3]

/-- A constant is carried into the REG window by a posted write (R380); one that finds no room is repeated at the next read-back (R367;
log entry 107). -/
def State.postConstant (s : State) (i : Nat) : State :=
  if s.linkRefuses || s.writesFull then s
  else s.queueWrite 0 (0x00010000 + Config.eptanRegister i % 0x1000) ((s.eptanConstants[i]?).getD [])

/-- Both sets of constants are carried over, and read back from then on (R380). -/
def State.carryConstants (s : State) : State :=
  (List.range 8).foldl State.postConstant { s with ledger := { s.ledger with configFrom := none } }

/-- The link is up after a training (R361): the attribute map is read, LINK_UP records the lanes (R364; log entry 103). -/
def State.trained (s : State) (lanes : Nat) (attrMap : Bytes) : State :=
  let t := { s with bridge :=
    { s.bridge with link := if lanes = 15 then .up else .degraded, training := false, lanes := lanes, failedTrainings := 0 } }
  let u := (t.put 0x2C03 0 (padTo 6 attrMap)).event Ev.linkUp 0 (leBytes 1 lanes)
  (if lanes = 15 then u else u.alarm Ev.linkDegraded 0 (leBytes 1 lanes)).carryConstants

/-- A training has failed (R362); the tenth in a row enters FAILED (log entry 103). -/
def State.trainingFailed (s : State) : State :=
  let n := s.bridge.failedTrainings + 1
  let t := { s with bridge := { s.bridge with training := false, failedTrainings := n, lastTraining := s.tick } }
  if n = 10 then
    (({ t with bridge := { t.bridge with link := .failed } }).alarm Ev.linkFailed 0 []).refuseHeld
  else t

/-- LINK_TRAINING_END (R361, R362): a direction without a lane means the training has failed. -/
def execLinkTrainingEnd (lanes : BitVec 4) (attrMap : Bytes) (s : State) : Out :=
  keepLock s (if s.bridge.training then
      let t := s.bump 0x2C00 3
      if lanesUp lanes.toNat 0 = 0 ∨ lanesUp lanes.toNat 1 = 0 then t.trainingFailed else t.trained lanes.toNat attrMap
    else s)

/-- The pause before a failed training is repeated: 100 ms, or 10 s once FAILED (R362). -/
def State.retryPause (s : State) : Nat := if s.bridge.link = .failed then 10 * ticksPerSecond else 100 * ticksPerMs

/-- LINK_TRAINING_RETRY (R362; log entry 103). -/
def execLinkTrainingRetry (s : State) : Out :=
  keepLock s (if s.bridgeOn ∧ ¬s.bridge.training ∧ (s.bridge.link = .training ∨ s.bridge.link = .failed)
      ∧ s.retryPause ≤ s.sinceTick s.bridge.lastTraining then
    { s with bridge := { s.bridge with training := true } }
  else s)

/-- A lane is lost (R361): DEGRADED while its direction keeps one, else a link fault. -/
def State.loseLane (s : State) (lane : Nat) : State :=
  let lanes := s.bridge.lanes - 2 ^ lane
  if lanesUp lanes (lane / 2) = 0 then s.linkFault
  else
    let t := { s with bridge := { s.bridge with lanes := lanes, link := .degraded } }
    if s.bridge.link = .up then t.alarm Ev.linkDegraded 0 (leBytes 1 lanes) else t

/-- LINK_DEGRADED (R361). -/
def execLinkDegraded (lane : Nat) (s : State) : Out :=
  keepLock s (if s.linkServes ∧ lane < 4 ∧ bit s.bridge.lanes lane then s.loseLane lane else s)

/-- LINK_DOWN (R362). -/
def execLinkDown (direction : Nat) (s : State) : Out := keepLock s (if direction < 2 then s.linkFault else s)

/-! ## Packets (R363) -/

/-- One bit of the CRC-32, reflected: 0xEDB88320 is 0x04C11DB7 with its bits in reverse. -/
def crc32Bit (c : Nat) : Nat := if c % 2 = 1 then (c / 2) ^^^ 0xEDB88320 else c / 2

/-- The CRC-32 of the table Sahun packet. -/
def crc32 (bs : Bytes) : Nat :=
  (bs.foldl (fun c b => (List.range 8).foldl (fun d _ => crc32Bit d) (c ^^^ b.toNat)) 0xFFFFFFFF) ^^^ 0xFFFFFFFF

/-- A packet in the layout of the table Sahun packet. -/
def sahunPacket (kind tag addr : Nat) (payload : Bytes) : Bytes :=
  let body := leBytes 1 kind ++ leBytes 1 tag ++ leBytes 2 payload.length ++ leBytes 4 addr ++ payload
  body ++ leBytes 4 (crc32 body)

/-- The main side sends a packet. -/
def State.sends (s : State) (packet : Bytes) : State := { s with bridge := { s.bridge with lastPacket := packet } }

/-- READ and WRITE as packets. -/
def BridgeRead.packet (r : BridgeRead) : Bytes := sahunPacket 0x01 r.tag r.addr (leBytes 2 r.len)
def PostedWrite.packet (w : PostedWrite) : Bytes := sahunPacket 0x03 w.tag w.addr w.data

/-- The read and the write of a tag on the link. -/
def State.readOf (s : State) (tag : Nat) : Option BridgeRead := s.bridge.reads.find? fun r => r.tag == tag && !r.held
def State.writeOf (s : State) (tag : Nat) : Option PostedWrite := s.bridge.writes.find? fun w => w.tag == tag && w.sent.isSome

/-- What the main side sends when a packet is to be repeated: its own READ or WRITE of the tag again, or the NAK that names a stream
packet (R363). -/
def State.repeated (s : State) : SahunPacket → Bytes
  | .tagged tag =>
    match s.writeOf tag, s.readOf tag with
    | some w, _ => w.packet
    | none, some r => r.packet
    | none, none => s.bridge.lastPacket
  | .stream seq => sahunPacket 0x08 0 seq []

/-- The NAKs of a packet so far. -/
def Bridge.naksOf (b : Bridge) (p : SahunPacket) : Nat := ((b.naks.find? fun e => e.1 == p).map (·.2)).getD 0

/-- A packet has come through: its NAKs are forgotten. -/
def Bridge.through (b : Bridge) (p : SahunPacket) : Bridge := { b with naks := b.naks.filter fun e => e.1 != p }

/-- SAHUN_NAK (R363): one packet is sent again; its third NAK retrains the link (log entry 102). -/
def execSahunNak (packet : SahunPacket) (s : State) : Out :=
  keepLock s (if s.linkServes then
      let n := s.bridge.naksOf packet + 1
      let t := (s.bump 0x2C00 4).sends (s.repeated packet)
      if 3 ≤ n then t.linkFault
      else { t with bridge := { t.bridge with naks := (packet, n) :: (t.bridge.through packet).naks } }
    else s)

/-! ## Reads (R365, R371, R372) -/

/-- The next AUX read is served from the prefetch line (R372). -/
def State.lineServes (s : State) (n addr len : Nat) : Bool :=
  s.bridge.line.any fun l => l.slot == n && l.addr == addr && len ≤ l.bytes.length

/-- The line after a read it served (R372). -/
def PrefetchLine.served (l : PrefetchLine) (len now : Nat) : PrefetchLine :=
  { l with addr := l.addr + len, bytes := l.bytes.drop len, usedAt := now }

/-- A line whose session has ended goes before the slot's next session reads (R372; log entry 106). -/
def State.dropOldLine (s : State) (n : Nat) : State :=
  if s.bridge.line.any fun l => l.slot == n && decide (l.usedAt < (s.slot n).since) then s.discardLine 5 else s

/-- Ticks of an SPI transaction of a length (R371). -/
def State.spiTicks (s : State) (len : Nat) : Nat :=
  let bits := (1 + s.seenNum 0x2C40 3 + s.seenNum 0x2C40 6 + len) * 8
  (bits * 40 + s.seenNum 0x2C40 2 - 1) / s.seenNum 0x2C40 2

/-- The SPI transaction of a READ or a WRITE of the AUX window (R371): opcode, offset most significant byte first, dummy bytes for a
read, then the data, in the clock and mode of 0x2C40. -/
def State.spiTransfer (s : State) (addr : Nat) (write : Option Bytes) (len : Nat) : AuxTransfer :=
  let head := fun (op : Nat) => leBytes 1 op ++ beBytes (s.seenNum 0x2C40 3) (addr % 0x10000)
  { mode := s.seenNum 0x2C40 1, kHz := s.seenNum 0x2C40 2
    out := match write with
      | some data => head (s.seenNum 0x2C40 5) ++ data
      | none => head (s.seenNum 0x2C40 4) ++ zeros (s.seenNum 0x2C40 6)
    read := len }

/-- The ticks after which a read issued now has timed out (R365, R374). -/
def State.readLimit (s : State) (addr len : Nat) : Nat := 8 + (if isAux addr then s.spiTicks len else 0)

/-- The bytes a read issued now clocks beyond its end: the window's map has prefetch follow the host's setting (R364, R372, R374). -/
def State.prefetchDepth (s : State) (addr : Nat) : Nat :=
  if isAux addr && bit (s.attribute 5) 4 && s.seenNum 0x2C40 7 != 0 then s.seenNum 0x2C40 8 else 0

/-- A read lies within one window and has at most 256 bytes (R365). -/
def readable (addr len : Nat) : Bool := 1 ≤ len && len ≤ 256 && (windowOf addr len).isSome

/-- A read to be issued by a slot, held until its step sends it. -/
def State.askRead (s : State) (n addr len : Nat) : State :=
  let r : BridgeRead :=
    { tag := s.bridge.freeTag, slot := n, addr := addr, len := len, issued := s.now, held := true, after := [], limit := 8, depth := 0 }
  { s with bridge := { s.bridge with reads := s.bridge.reads ++ [r] } }

/-- The read a slot holds and has not sent. -/
def State.heldRead (s : State) (n : Nat) : Option BridgeRead := s.bridge.reads.find? fun r => r.slot == n && r.held

/-- A slot's held read is over. -/
def State.dropHeld (s : State) (n : Nat) : State :=
  { s with bridge := { s.bridge with reads := s.bridge.reads.filter fun r => r.slot != n || !r.held } }

/-- A held read goes onto the link (R363, R365): the engine operation of its step. -/
def State.issue (s : State) (r : BridgeRead) : State :=
  let t := if isAux r.addr then s.discardLine 1 else s
  let q : BridgeRead :=
    { r with
      held := false, issued := t.now, limit := t.readLimit r.addr r.len, depth := t.prefetchDepth r.addr
      after := (t.bridge.writes.filter (·.sent.isSome)).map (·.tag) }
  let u := { t with bridge :=
    { t.bridge with
      reads := t.bridge.reads.map fun (k : BridgeRead) => if k.tag = r.tag then q else k
      aux := if isAux r.addr then some (t.spiTransfer r.addr none r.len) else t.bridge.aux } }
  (u.sends q.packet).setSlot r.slot fun sl =>
    { sl with state := .waitingEngine, engine := some .brg, named := none, carry := 0 }

/-- A read is over: its tag is free. -/
def State.endRead (s : State) (tag : Nat) : State :=
  { s with bridge := { s.bridge with reads := s.bridge.reads.filter fun r => r.tag != tag || r.held } }

/-- The server of a session that serves a host (R353, R373). -/
def Slot.hostServer (sl : Slot) : Option Srv :=
  match sl.work with
  | .dictionary v => some v
  | _ => none

/-- A host window access ends (R373): its result, the transfer and its session. -/
def State.windowDone (s : State) (v : Srv) (code : Code) : State := (s.putCode 0x2C50 4 code).dropTransfer v code

/-- A read's outcome reaches its session: the host's transfer ends, or the session's next step is ready (R365, R373). -/
def State.readDone (s : State) (n : Nat) (code : Code) (data : Bytes) : State :=
  match (s.slot n).hostServer with
  | some v => ((if code = Rc.ok then s.put 0x2C50 3 data else s).windowDone v code)
  | none => if (s.slot n).state = .waitingEngine then s.operationDone n else s

/-- A held read is served from the prefetch line (R372): a host's read ends with the data, a session's step goes on. -/
def State.readLine (s : State) (r : BridgeRead) : State × Bool :=
  let data := (s.bridge.line.map fun l => l.bytes.take r.len).getD []
  let t := { (s.dropHeld r.slot) with bridge :=
    { (s.dropHeld r.slot).bridge with line := s.bridge.line.map fun (l : PrefetchLine) => l.served r.len s.now } }
  if (t.slot r.slot).hostServer.isSome then (t.readDone r.slot Rc.ok data, false) else (t, true)

/-- The step that sends a slot's read (R361, R365, R372): refused where the link is down, held while it trains, served from the line,
or its engine operation. The answer says whether the step goes on. -/
def State.sendRead (s : State) (n : Nat) : State × Bool :=
  match s.heldRead n with
  | none => (s, true)
  | some r =>
    let t := s.dropOldLine n
    if t.linkRefuses then ((t.dropHeld n).finish n Rc.bridgeDown, false)
    else if t.bridge.link = .training then
      (t.setSlot n fun sl => { sl with state := .waitingResource, engine := some .brg, named := none, carry := 0 }, false)
    else if t.lineServes n r.addr r.len then t.readLine r
    else (t.issue r, false)

/-- The writes a landed read has passed are applied (R368). -/
def State.passWrites (s : State) (tags : List Nat) : State :=
  { s with bridge := { s.bridge with
    writes := s.bridge.writes.map fun (w : PostedWrite) => if tags.contains w.tag then { w with applied := true } else w } }

/-- The bytes clocked beyond a read, as a prefetch line (R372). -/
def lineAfter (r : BridgeRead) (extra : Bytes) (now : Nat) : PrefetchLine :=
  { slot := r.slot, addr := r.addr + r.len, bytes := extra.take r.depth, usedAt := now }

/-- The bytes clocked beyond an AUX read make its prefetch line (R372). -/
def State.fillLine (s : State) (r : BridgeRead) (extra : Bytes) : State :=
  if 0 < r.depth && !extra.isEmpty then { s with bridge := { s.bridge with line := some (lineAfter r extra s.now) } } else s

/-- READ_DATA_LANDED (R365): data for no read in flight is discarded. -/
def execReadDataLanded (tag : Nat) (data : Bytes) (s : State) : Out :=
  keepLock s <|
    match s.readOf tag with
    | some r =>
      if r.len ≤ data.length ∧ s.linkServes then
        let t := (({ s with bridge := s.bridge.through (.tagged tag) }).endRead tag).passWrites r.after
        (t.fillLine r (data.drop r.len)).readDone r.slot Rc.ok (data.take r.len)
      else s
    | none => s

/-- Three read timeouts within 1 s count as a link fault (R365; log entry 102). -/
def State.countTimeout (s : State) : State :=
  let ts := s.tick :: s.lastSecond s.bridge.timeouts
  let t := { s with bridge := { s.bridge with timeouts := ts } }
  if 3 ≤ ts.length then t.linkFault else t

/-- READ_TIMEOUT_LOGGED (R365). -/
def execReadTimeoutLogged (tag : Nat) (s : State) : Out :=
  keepLock s <|
    match s.readOf tag with
    | some r =>
      if r.issued + r.limit ≤ s.now then
        ((((s.endRead tag).bump 0x2C01 1).event Ev.readTimeoutLogged r.slot (leBytes 4 r.addr)).readDone r.slot Rc.timeout []).countTimeout
      else s
    | none => s

/-- PREFETCH_DISCARDED (R372): the line goes unused for 4 ticks, or the session that owns it has ended (log entry 106). -/
def State.dropStaleLine (s : State) : State :=
  match s.bridge.line with
  | none => s
  | some l =>
    if !(s.slot l.slot).inFlight then s.discardLine 5
    else if l.usedAt + 4 ≤ s.now then s.discardLine 4
    else s

/-- PREFETCH_DISCARDED (R372). -/
def execPrefetchDiscarded (s : State) : Out := keepLock s s.dropStaleLine

/-! ## Posted writes (R366, R367) -/

/-- A write that finds no room waits, its slot in WAITING_RESOURCE (R366). -/
def State.waitRoom (s : State) (n addr : Nat) (data : Bytes) : State :=
  let w : RoomWait := { slot := n, since := s.now, addr := addr, data := data }
  ({ s with bridge := { s.bridge with roomWaits := s.bridge.roomWaits ++ [w] } }).setSlot n fun sl =>
    { sl with state := .waitingResource, engine := some .brg, named := none, carry := 0 }

/-- A write by the step of a slot (R366): refused while the link is down. -/
def State.postWrite (s : State) (n addr : Nat) (data : Bytes) : State :=
  if s.linkRefuses then s else if s.writesFull then s.waitRoom n addr data else s.queueWrite n addr data

/-- A write that waited is queued, and its session goes on (R366, R373). -/
def State.roomFound (s : State) (w : RoomWait) : State :=
  let host := (s.slot w.slot).hostServer
  let t := ({ s with bridge := { s.bridge with roomWaits := s.bridge.roomWaits.drop 1 } }).queueWrite
    (if host.isSome then 0 else w.slot) w.addr w.data
  match host with
  | some v => t.windowDone v Rc.ok
  | none => t.operationDone w.slot

/-- A place has come free: the first write that waits takes it. -/
def State.fillRoom (s : State) : State :=
  match s.bridge.roomWaits with
  | w :: _ => if s.writesFull then s else s.roomFound w
  | [] => s

/-- A write is no longer outstanding: its tag is free. -/
def State.endWrite (s : State) (tag : Nat) : State :=
  let b := s.bridge.through (.tagged tag)
  { s with bridge :=
    { b with
      writes := b.writes.filter fun w => w.tag != tag
      reads := b.reads.map fun (r : BridgeRead) => { r with after := r.after.filter (· != tag) } } }

/-- WRITE_ACK_RECEIVED (R366). -/
def execWriteAckReceived (tag : Nat) (s : State) : Out :=
  keepLock s (match s.writeOf tag with | some _ => (s.endWrite tag).fillRoom | none => s)

/-- POSTED_WRITE_FAILED (R367): a WRITE_ERR arrives before the READ_DATA of any later read (R368). -/
def execPostedWriteFailed (tag : Nat) (cause : Code) (s : State) : Out :=
  keepLock s <|
    match s.writeOf tag with
    | some w => if w.applied then s else ((s.endWrite tag).logWriteError w cause).fillRoom
    | none => s

/-- POSTED_WRITE_ROOM_TIMEOUT (R366). -/
def execPostedWriteRoomTimeout (slot : Nat) (s : State) : Out :=
  keepLock s <|
    match s.bridge.roomWaits.find? fun w => w.slot == slot with
    | some w => if w.since + 8 ≤ s.now then s.finish slot Rc.noResource else s
    | none => s

/-- A queued write goes onto the link (R363, R371). -/
def State.sendWrite (s : State) (w : PostedWrite) : State :=
  let t := if isAux w.addr then
      { s with bridge := { s.bridge with aux := some (s.spiTransfer w.addr (some w.data) 0) } }
    else s
  t.sends w.packet

/-- The writes queued in this tick's body go out at its commit, in order (R366, R368). -/
def State.sendWrites (s : State) : State :=
  if s.linkServes then
    let sent := s.bridge.writes.map fun (w : PostedWrite) => if w.sent.isNone then { w with sent := some s.tick } else w
    (s.bridge.writes.filter (·.sent.isNone)).foldl State.sendWrite { s with bridge := { s.bridge with writes := sent } }
  else s

/-! ## The landing buffer (R368, R369) -/

/-- The sequence number of a landed packet, its LOST field. -/
def Landed.seq : Landed → Nat
  | .sample seq _ _ => seq
  | .event seq _ _ => seq
def Landed.lost : Landed → Nat
  | .sample _ lost _ => lost
  | .event _ lost _ => lost

/-- The stream sequence number that commits next (R368). -/
def State.nextStream (s : State) : Nat := (s.bridge.committedSeq + 1) % 2 ^ 32

/-- The distance of a sequence number from the next one to commit, wrapping. -/
def State.ahead (s : State) (seq : Nat) : Nat := (seq + 2 ^ 32 - s.nextStream) % 2 ^ 32

/-- A packet lands in the buffer of 16 (R369): the first one since EPT came on sets the sequence; one already committed or already held is
dropped, as is one without a credit (log entry 104). -/
def State.land (s : State) (p : Landed) : State :=
  let t := if s.bridge.streamOn then s
    else { s with bridge := { s.bridge with streamOn := true, committedSeq := (p.seq + 2 ^ 32 - 1) % 2 ^ 32 } }
  if 16 ≤ t.ahead p.seq ∨ t.bridge.landed.any (fun q => q.seq == p.seq) ∨ ¬t.linkServes then t
  else { t with bridge := { t.bridge with landed := t.bridge.landed ++ [p] } }

/-- LOST of a committed packet (R369). -/
def State.streamGap (s : State) (lost : Nat) : State :=
  if lost = 0 then s else (s.count 0x2C02 2 lost).event Ev.streamGap 0 (leBytes 1 lost)

/-! ## The host window (R373) -/

/-- The link refuses a host's access (R361); with BRG not on the access wakes it first (R411). -/
def State.windowDown (s : State) : Bool := s.linkRefuses && s.isOn .brg

/-- The checks of a host's read (log entry 105). -/
def State.windowReadRefused (s : State) : Option Code :=
  match windowOf (s.seenNum 0x2C50 1) (s.seenNum 0x2C50 2) with
  | none => some Rc.addrUnmapped
  | some w => if w = 3 ∨ w = 4 then some Rc.windowRefused else if s.windowDown then some Rc.bridgeDown else none

/-- The checks of a host's write. -/
def State.windowWriteRefused (s : State) (value : Bytes) : Option Code :=
  match windowOf (s.seenNum 0x2C50 1) (s.seenNum 0x2C50 2) with
  | none => some Rc.addrUnmapped
  | some w =>
    if w = 3 ∨ w = 4 then some Rc.windowRefused
    else if (w = 1 ∧ s.mode ≠ .factory) ∨ (w = 5 ∧ s.mode = .retired) then some Rc.modeForbids
    else if value.length ≠ s.seenNum 0x2C50 2 then some Rc.lengthMismatch
    else if s.linkRefuses then some Rc.bridgeDown
    else if !bit (s.attribute w) 3 then some Rc.windowReadOnly
    else none

/-- A host's read runs as a DICTIONARY session, whose step on BRG sends it (R373). -/
def State.windowRead (s : State) (via : Via) : State :=
  match s.holdServer via with
  | none => s.noSession via 0x2C50 false
  | some t =>
    match (t.server via.srv).slot with
    | some n =>
      let u := t.askRead n (s.seenNum 0x2C50 1) (s.seenNum 0x2C50 2)
      if (s.server via.srv).slot.isSome then u.makeReady n .brg none else u.firstStep n .brg none
    | none => t

/-- A host window access that fails at once. -/
def State.windowFails (s : State) (via : Via) (code : Code) (write : Bool) : State :=
  (s.putCode 0x2C50 4 code).endTransfer via true code (abortCodeOf code 0x2C50 write)

/-- HOST_WINDOW_READ (R373). -/
def execHostWindowRead (via : Via) (s : State) : Out :=
  keepLock s (if !s.portServes via.port then s
    else
      let t := s.supersede via.srv
      match t.windowReadRefused with
      | some c => t.windowFails via c false
      | none => t.windowRead via)

/-- A write to 0x2C50:03 by its own rule (R373): OK means only that it is sent. -/
def ownWindowWrite (value : Bytes) : Own := fun s =>
  match s.windowWriteRefused value with
  | some c => ((if c = Rc.bridgeDown then s.firstAccess .brg 0 else s).putCode 0x2C50 4 c, c)
  | none => ((s.queueWrite 0 (s.seenNum 0x2C50 1) value).putCode 0x2C50 4 Rc.ok, Rc.ok)

/-- A host's write that finds no room waits on its session (R366, R373). -/
def State.windowWaits (s : State) (via : Via) (value : Bytes) : State :=
  match s.holdServer via with
  | none => s.noSession via 0x2C50 true
  | some t =>
    match (t.server via.srv).slot with
    | some n => t.waitRoom n (s.seenNum 0x2C50 1) value
    | none => t

/-- A host's write to 0x2C50:03 (R366, R373): posted at once, or its session waits for room. -/
def State.windowWrite (s : State) (via : Via) (value : Bytes) : State :=
  if s.portServes via.port && s.writesFull && (s.writeRefused 0x2C50 3 value).isNone && (s.windowWriteRefused value).isNone then
    (s.supersede via.srv).windowWaits via value
  else s.hostWrite via 0x2C50 3 value (ownWindowWrite value)

/-- HOST_WINDOW_WRITE (R373). -/
def execHostWindowWrite (via : Via) (value : Bytes) (s : State) : Out := keepLock s (s.windowWrite via value)

end Sys2Proof.Machine
end

