-- ==== Sys2Proof/Machine/Meter.lean ====
section
/-! DEFINITION. Energy metering and the lease ledger: stream packets, folds, offset nulling, credit tokens, receipts, the import of
a journal (chapter 14). -/

namespace Sys2Proof.Machine

/-! ## Sample records (R378, R379) -/

/-- The HVIL state of a record (R378). -/
def hvilOfCode : Nat → Hvil
  | 0 => .closed
  | 1 => .opened
  | 2 => .fault
  | _ => .unknown

/-- The insulation state of a record (R378). -/
def insulationOfCode : Nat → Insulation
  | 1 => .good
  | 2 => .warning
  | 3 => .low
  | _ => .unknown

/-- The codes 0x2D00:05 and :07 read (R401). -/
def Hvil.code : Hvil → Nat
  | .unknown => 0 | .closed => 1 | .opened => 2 | .fault => 3
def Insulation.code : Insulation → Nat
  | .unknown => 0 | .good => 1 | .warning => 2 | .low => 3

/-- The values of a record that conditions read (R378, R379). -/
def sampleView (r : Bytes) : SampleView :=
  { tick := field r 2 6, vpack := leInt (slice r 8 4), vlink := leInt (slice r 12 4), ish := leInt (slice r 16 4),
    freeRun := bit (byteAt r 0) 0, vOver := bit (byteAt r 0) 1 }

/-- |ISH| is below 0.5 % of FS, FS being 300 mV over the shunt resistance in nΩ (R376, R381). -/
def State.quietCurrent (s : State) (ish : Int) : Bool := ish.natAbs * s.seenNum 0x2D10 2 * 200 < 300000000000

/-- A record's current counted for the offset's nulling (R381). -/
def Ledger.countCurrent (l : Ledger) (ish : Int) (quiet : Bool) : Ledger :=
  { l with
    quiet := if quiet then min 4000 (l.quiet + 1) else 0
    zeroing := l.zeroing.map fun z => if z.1 = 0 then z else (z.1 - 1, z.2 + ish) }

/-- The fields of the last record at 0x2D00 (R378). -/
def State.showSample (s : State) (r : Bytes) : State :=
  ((((((((s.put 0x2D01 0 r).put 0x2D00 1 (slice r 8 4)).put 0x2D00 2 (slice r 12 4)).put 0x2D00 3 (slice r 16 4)).put 0x2D00 4
    (slice r 20 2)).putNum 0x2D00 5 (hvilOfCode (byteAt r 1)).code).put 0x2D00 6 (slice r 24 2)).putNum 0x2D00 7
    (insulationOfCode (byteAt r 22)).code).putNum 0x2D00 8 (field r 2 6) |>.putNum 0x2C02 3 (field r 2 6)

/-- A sample record commits (R368, R378, R379; log entry 108). -/
def State.commitSample (s : State) (record : Bytes) : State :=
  let r := padTo 32 record
  let v := sampleView r
  { s.showSample r with ledger :=
      { s.ledger.countCurrent v.ish (s.quietCurrent v.ish) with
        sample := some v
        hvil := hvilOfCode (byteAt r 1)
        insulation := insulationOfCode (byteAt r 22)
        freeRunSeen := s.ledger.freeRunSeen || v.freeRun } }

/-! ## Eptan events (R386, R389, R390) -/

/-- The HVIL state an event declares (R386). -/
def eventHvil (code : Code) : Option Hvil :=
  if code = Ev.hvilOpened then some .opened
  else if code = Ev.hvilClosed then some .closed
  else if code = Ev.hvilFault then some .fault
  else none

/-- The insulation state an event declares (R389). -/
def eventInsulation (code : Code) : Option Insulation :=
  if code = Ev.isoWarning then some .warning
  else if code = Ev.isoLow then some .low
  else if code = Ev.isoRecovered then some .good
  else none

/-- The events the Eptan die raises (R390, R402). -/
def eptanEvents : List Code :=
  [Ev.hvilOpened, Ev.hvilClosed, Ev.hvilFault, Ev.isoWarning, Ev.isoLow, Ev.freeRunning, Ev.tickRelocked, Ev.isoRecovered]

/-- HVIL open or fault: the withdrawal is due at the next commit where the lock is released (R202, R386; log entry 108). -/
def Vehicle.hvilEvent (v : Vehicle) (h : Option Hvil) (released : Bool) : Vehicle :=
  { v with hvilDue := v.hvilDue || (released && (h == some .opened || h == some .fault)) }

/-- An Eptan event commits and is logged (R368, R386, R389, R390). -/
def State.commitEvent (s : State) (event : Bytes) : State :=
  let e := padTo 16 event
  let code : Code := BitVec.ofNat 16 (field e 0 2)
  if !eptanEvents.contains code then s
  else
    let h := eventHvil code
    let i := eventInsulation code
    let t := { s with
      ledger := { s.ledger with hvil := h.getD s.ledger.hvil, insulation := i.getD s.ledger.insulation }
      vehicle := s.vehicle.hvilEvent h s.lock.released }
    let u := (t.putNum 0x2D00 5 t.ledger.hvil.code).putNum 0x2D00 7 t.ledger.insulation.code
    if code = Ev.hvilFault ∨ code = Ev.isoLow then u.alarm code (byteAt e 2) (slice e 4 10) else u.event code (byteAt e 2) (slice e 4 10)

/-- A stream packet commits (R368, R369). -/
def State.commitPacket (s : State) (p : Landed) : State :=
  let b := s.bridge.through (.stream p.seq)
  let t := { s with bridge := { b with committedSeq := p.seq, landed := b.landed.filter fun q => q.seq != p.seq } }
  let u := t.streamGap p.lost
  match p with
  | .sample _ _ record => u.commitSample record
  | .event _ _ event => u.commitEvent event

/-- Landed packets commit in sequence order as far as there is no gap (R368); `fuel` bounds them by the buffer's places. -/
def State.commitStream : Nat → State → State
  | 0, s => s
  | fuel + 1, s =>
    match s.bridge.landed.find? fun p => p.seq == s.nextStream with
    | some p => (s.commitPacket p).commitStream fuel
    | none => s

/-- The tail commits what has landed in order and acknowledges it with the highest sequence number committed (R368, R369). -/
def State.commitLanded (s : State) : State :=
  let t := s.commitStream 16
  if t.bridge.landed.length < s.bridge.landed.length then t.sends (sahunPacket 0x07 0 t.bridge.committedSeq []) else t

/-- SAMPLE_PACKET_LANDED (R368, R369, R378): the packet waits in the landing buffer for the tail of the tick. -/
def execSamplePacketLanded (seq lost : Nat) (record : Bytes) (s : State) : Out :=
  keepLock s (if s.linkServes then s.land (.sample (seq % 2 ^ 32) lost record) else s)

/-- EVENT_PACKET_LANDED (R368, R369, R390). -/
def execEventPacketLanded (seq lost : Nat) (event : Bytes) (s : State) : Out :=
  keepLock s (if s.linkServes then s.land (.event (seq % 2 ^ 32) lost event) else s)

/-! ## The fold (R383, R384) -/

/-- The increase of a 64-bit counter. -/
def counterRise (new old : Nat) : Nat := (new + 2 ^ 64 - old) % 2 ^ 64

/-- The totals, the remainder and the credit after increases of charge and discharge in µWh (R384, R391). -/
def Ledger.fold (l : Ledger) (charge discharge : Nat) (sn : Snapshot) : Ledger :=
  let rest := l.remainder + discharge
  { l with
    charge := l.charge + charge
    discharge := l.discharge + discharge
    remainder := rest % 1000000
    credit := l.credit - ((rest / 1000000 : Nat) : Int)
    snapshot := some sn
    graceSaved := l.graceTicks }

/-- METER_GAP (R384). -/
def State.meterGap (s : State) (old new : Tick) : State :=
  (((s.bump 0x2D20 5).alarm Ev.meterGap 0 (leBytes 6 old ++ leBytes 6 new)).occasion .gap)

/-- A good snapshot is folded (R384; log entry 111). -/
def State.foldSnapshot (s : State) (sn : Snapshot) : State :=
  let t := match s.ledger.snapshot with
    | none => { s with ledger := s.ledger.fold sn.charge sn.discharge sn }
    | some old =>
      if old.epoch = sn.epoch then
        { s with ledger := s.ledger.fold (counterRise sn.charge old.charge) (counterRise sn.discharge old.discharge) sn }
      else ({ s with ledger := s.ledger.fold sn.charge sn.discharge sn }).meterGap old.tick sn.tick
  (t.putNum 0x2D20 3 sn.epoch).settleCredit

/-- A receipt in flight that has not folded yet (R397). -/
def Slot.unfolded (sl : Slot) : Bool := sl.inFlight && (match sl.work with | .receipt _ folded => !folded | _ => false)

/-- A fold is due: its period has passed, the lock has changed since the last, or a receipt waits for it (R384). -/
def State.foldDue (s : State) : Bool :=
  s.running && (s.seenNum 0x2D20 4 * ticksPerMs ≤ s.sinceTick s.ledger.foldFrom
    || s.sinceTick s.lock.changeTick ≤ s.sinceTick s.ledger.foldFrom || !(s.tilth.find Slot.unfolded).isEmpty)

/-- A fold has been made or skipped: its period begins again, and the receipts that waited for it go on (R384, R397). -/
def State.folded (s : State) : State :=
  { s with
    ledger := { s.ledger with foldFrom := s.tick }
    tilth := { s.tilth with slots := s.tilth.slots.map fun (sl : Slot) =>
      match sl.work with
      | .receipt r _ => { sl with work := .receipt r true }
      | _ => sl } }

/-- METER_FOLD (R384): a fold whose snapshot read failed is skipped. -/
def execMeterFold (snapshot : Option Snapshot) (s : State) : Out :=
  keepLock s <|
    if !s.foldDue then s
    else
      match snapshot with
      | some sn => if s.mode ≠ .retired ∧ s.linkServes ∧ s.isOn .ept then s.folded.foldSnapshot sn else s.folded
      | none => s.folded

/-- GRACE_TIME_EXPIRY (R391). -/
def execGraceTimeExpiry (s : State) : Out := keepLock s (if s.ledger.state = .grace then s.settleCredit else s)

/-! ## Eptan configuration and the current offset (R380, R381) -/

/-- A register that differs is written again and logged (R380; log entry 107). -/
def State.restoreConfig (s : State) (i : Nat) : State := (s.alarm Ev.configRestored 0 (leBytes 1 i)).postConstant i

/-- The registers of a read-back that differ from the dictionary. -/
def State.configDiffers (s : State) (readBack : List Bytes) : List Nat :=
  (List.range 8).filter fun i => readBack[i]?.any fun b => some b != s.eptanConstants[i]?

/-- The read-back of the constants is due: after LINK_UP, then every second (R380). -/
def State.configDue (s : State) : Bool := s.linkServes && s.ledger.configFrom.all fun t => ticksPerSecond ≤ s.sinceTick t

/-- EPTAN_CONFIG_CHECK (R380; log entry 107). -/
def execEptanConfigCheck (readBack : List Bytes) (s : State) : Out :=
  keepLock s (if s.configDue then
      (s.configDiffers readBack).foldl State.restoreConfig { s with ledger := { s.ledger with configFrom := some s.tick } }
    else s)

/-- A write to 0x2D10 by its own rule (R380): the constant is stored and carried over the bridge. -/
def ownEptanConstant (sub : Nat) (value : Bytes) : Own := fun s => ((s.put 0x2D10 sub value).postConstant sub, Rc.ok)

/-- A write to 0x2D12:01 by its own rule (R381; log entry 109). -/
def ownZeroOffset (_value : Bytes) : Own := fun s =>
  if s.lock.released || s.ledger.quiet < 4000 then (s.putCode 0x2D12 2 Rc.zeroRefused, Rc.zeroRefused)
  else if s.ledger.zeroing.isSome then (s, Rc.busy)
  else (({ s with ledger := { s.ledger with zeroing := some (4000, 0) } }).putCode 0x2D12 2 Rc.pending, Rc.ok)

/-- ZERO_CURRENT_OFFSET (R381). -/
def execZeroCurrentOffset (via : Via) (value : Bytes) (s : State) : Out :=
  keepLock s (s.hostWrite via 0x2D12 1 value (ownZeroOffset value))

/-- The mean current of 4,000 records in mA, as an offset in 0.1 µV over the shunt (R381; rounding: log entry 6). -/
def State.offsetOf (s : State) (sum : Int) : Int := sum * ((s.seenNum 0x2D10 2 : Nat) : Int) / 400000000

/-- ZERO_OFFSET_END (R381; log entry 109). -/
def execZeroOffsetEnd (s : State) : Out :=
  keepLock s <|
    match s.ledger.zeroing with
    | some (0, sum) =>
      ((({ s with ledger := { s.ledger with zeroing := none } }).putInt 0x2D12 3 (s.offsetOf sum)).postConstant 7).putCode 0x2D12 2 Rc.ok
    | _ => s

/-! ## Credit tokens (R392 to R394, R399) -/

/-- AMOUNT of a token (R392). -/
def tokenAmount (b : Bytes) : Int := leInt (slice b 28 8)

/-- AMOUNT and the grace fields fit the KIND (R392, R393 check 1, R399). -/
def State.amountOk (s : State) (b : Bytes) : Bool :=
  let a := tokenAmount b
  match byteAt b 1 with
  | 1 => 1 ≤ a && a ≤ 1000000000
  | 2 => a == 0
  | 3 => a != 0 && -1000000000 ≤ a && a ≤ 1000000000
  | 4 => (s.ledger.ackSeq : Int) ≤ a && a < (s.ledger.nextSeq : Int)
  | _ => false

/-- Check 1 of R393 (log entry 110). -/
def State.tokenWellFormed (s : State) (b : Bytes) : Bool :=
  b.length == 192 && byteAt b 0 == 1 && field b 2 2 == 0 && s.amountOk b && allZero (slice b 68 10)
    && (byteAt b 1 == 2 || allZero (slice b 44 8))

/-- Check 6 of R393. -/
def State.tokenTime (s : State) (b : Bytes) : Option Code :=
  let from_ := field b 36 4
  let until_ := field b 40 4
  if from_ = 0 ∧ until_ = 0 then none
  else if !s.power.rtcValid then some Rc.tokenTimeUnknown
  else if (from_ ≠ 0 ∧ s.rtcSeconds < from_) ∨ (until_ ≠ 0 ∧ until_ < s.rtcSeconds) then some Rc.tokenExpired
  else none

/-- The checks of R393 in order; none where the token is accepted. -/
def State.tokenRefused (s : State) (b : Bytes) : Option Code :=
  if !s.tokenWellFormed b then some Rc.tokenMalformed
  else if !tokensTaken s.mode then some Rc.modeForbids
  else if allZero (s.seenBytes 0x2D41 0) then some Rc.noLessorKey
  else if slice b 4 16 != deviceBinding then some Rc.tokenBinding
  else if field b 20 8 ≤ s.ledger.serial then some Rc.tokenReplay
  else
    match s.tokenTime b with
    | some c => some c
    | none =>
      if s.sig.failed then some Rc.sheFailed
      else if !sigHolds (s.seenBytes 0x2D41 0) (ascii "BLS9640-CREDIT") (b.take 78) (b.drop 78) then some Rc.sigInvalid
      else if byteAt b 1 ≠ 4 ∧ s.ledger.free < 4 then some Rc.journalFull
      else none

/-- The body of a TOKEN record (R396). -/
def tokenBody (b : Bytes) (outcome : Code) : Bytes :=
  slice b 20 8 ++ slice b 28 8 ++ codeBytes outcome ++ slice b 1 1 ++ zeros 5 ++ slice b 52 8

/-- What an accepted token changes (R393, R394, R399). -/
def Ledger.takeToken (l : Ledger) (b : Bytes) (held : Bool) : Ledger :=
  let m := { l with serial := field b 20 8 }
  match byteAt b 1 with
  | 2 => { m with graceEnergy := field b 44 4, graceTime := field b 48 4 }
  | 4 => { m with ackSeq := (tokenAmount b).toNat }
  | _ => if held then { m with held := m.held + tokenAmount b } else { m with credit := m.credit + tokenAmount b }

/-- A TOPUP or ADJUST is held in QUARANTINE (R394). -/
def State.holdsToken (s : State) (b : Bytes) : Bool := s.mode == .quarantine && (byteAt b 1 == 1 || byteAt b 1 == 3)

/-- An accepted token takes effect: TOKEN record, credit state, receipt (R393, R394, R396). -/
def State.acceptToken (s : State) (b : Bytes) : State :=
  let held := s.holdsToken b
  let t := { s with ledger := s.ledger.takeToken b held }
  (((t.appendRecord 0x02 0 (tokenBody b (if held then Rc.tokenHeld else Rc.ok))).settleCredit).occasion .token)

/-- A write to 0x2D40:01 by its own rule (R393, R396): of the refused tokens only those with SIG_INVALID are journalled. -/
def ownToken (value : Bytes) : Own := fun s =>
  match s.tokenRefused value with
  | some c =>
    let t := if c = Rc.sigInvalid then (s.she 1).appendRecord 0x02 0 (tokenBody value c)
      else if c = Rc.journalFull then s.she 1 else s
    (t.putCode 0x2D40 2 c, c)
  | none => (((s.she 1).acceptToken value).putCode 0x2D40 2 Rc.ok, Rc.ok)

/-- A token whose mode does not take it reads MODE_FORBIDS at 0x2D40:02 as well (R393 check 2; log entry 110). -/
def State.reportToken (s : State) (via : Via) (value : Bytes) : State :=
  if s.portServes via.port && s.writeRefused 0x2D40 1 value == some Rc.modeForbids then s.putCode 0x2D40 2 Rc.modeForbids else s

/-- A credit token written by a host (R392). -/
def State.tokenWrite (s : State) (via : Via) (value : Bytes) : State :=
  (s.reportToken via value).hostWrite via 0x2D40 1 value (ownToken value)

/-- TOKEN_TOPUP (R393). -/
def execTokenTopup (via : Via) (value : Bytes) (s : State) : Out := keepLock s (s.tokenWrite via value)

/-- TOKEN_TERMS (R393). -/
def execTokenTerms (via : Via) (value : Bytes) (s : State) : Out := keepLock s (s.tokenWrite via value)

/-- TOKEN_ADJUST (R393). -/
def execTokenAdjust (via : Via) (value : Bytes) (s : State) : Out := keepLock s (s.tokenWrite via value)

/-- TOKEN_JOURNAL_ACK (R393, R399). -/
def execTokenJournalAck (via : Via) (value : Bytes) (s : State) : Out := keepLock s (s.tokenWrite via value)

/-! ## Receipts (R396, R397, R399) -/

/-- A write to 0x2D51:00 by its own rule (R397). -/
def ownReceiptRequest (_value : Bytes) : Own := fun s => (s.occasion .hostRequest, Rc.ok)

/-- RECEIPT_REQUEST (R397). -/
def execReceiptRequest (via : Via) (value : Bytes) (s : State) : Out :=
  keepLock s (s.hostWrite via 0x2D51 0 value (ownReceiptRequest value))

/-- The journal's state now (R399). -/
def State.journalNow (s : State) : Nat := journalStateOf s.ledger.free (s.seenNum 0x2D53 1)

/-- PERIODIC_RECEIPT (R397, R399): from RESERVE on they stop. -/
def execPeriodicReceipt (s : State) : Out :=
  keepLock s (if s.running && s.seenNum 0x2D50 1 * ticksPerSecond ≤ s.sinceTick s.ledger.receiptFrom then
      let t := { s with ledger := { s.ledger with receiptFrom := s.tick } }
      if t.journalNow < 2 then t.occasion .periodic else t
    else s)

/-- STATE of a METER record (R396). -/
def State.meterState (s : State) (nonceOk : Bool) : Nat :=
  flag s.lock.released 0 + flag (s.ledger.hvil == .closed) 1 + s.ledger.insulation.code * 4 + flag s.ledger.freeRunSeen 4
    + flag (!nonceOk) 5

/-- The body of a METER record (R396). -/
def State.meterBody (s : State) (reason : Nat) (nonce : Option Bytes) : Bytes :=
  leBytes 8 (s.ledger.charge / 1000) ++ leBytes 8 (s.ledger.discharge / 1000) ++ intBytes 8 s.ledger.credit
    ++ leBytes 1 s.ledger.state.code ++ leBytes 1 s.mode.code ++ leBytes 1 (s.meterState nonce.isSome) ++ leBytes 1 reason
    ++ nonce.getD (zeros 4)

/-- SIG_A and SIG_B of a METER record at a SEQ (R396). -/
def sigRecord (type seq : Nat) (half : Bytes) : Bytes := leBytes 1 type ++ leBytes 1 0 ++ leBytes 4 seq ++ half ++ leBytes 1 0

/-- The signature over a METER record (R397). -/
def receiptSignature (meter : Bytes) : Bytes := identitySign (ascii "BLS9640-RCPT") meter

/-- The two SIG records of a METER record. -/
def sigRecords (seq : Nat) (meter : Bytes) : List Bytes :=
  [sigRecord 0x10 seq ((receiptSignature meter).take 57), sigRecord 0x11 seq ((receiptSignature meter).drop 57)]

/-- The nonce of a receipt, from ST4, and the state after the draw (R322, R396). -/
def State.receiptNonce (s : State) : Option Bytes × State :=
  if (s.drawFails 9).isSome then (none, s) else (some (s.fresh 4), (s.used 4).countCall 9)

/-- METER, SIG_A and SIG_B written in SEQ order and copied to 0x2D52:00; in FULL only the copy (R397, R399). -/
def State.writeReceipt (s : State) (n reason : Nat) : State :=
  let (nonce, t) := s.receiptNonce
  let full := t.ledger.free < 4
  let seq := if full then 0xFFFFFFFF else t.ledger.nextSeq
  let meter := t.recordHeader 0x01 0 seq ++ t.meterBody reason nonce
  let records := meter :: sigRecords seq meter
  let u := if full then t else { t with ledger := records.foldl Ledger.append t.ledger }
  ({ u.sheSigned with ledger := { u.sheSigned.ledger with latestReceipt := records.flatten, freeRunSeen := false } }).finish n Rc.ok

/-- A RECEIPT session whose signature is in operation: it has folded, and its step has begun on SIG (R47, R397). -/
def Slot.signing (sl : Slot) : Bool :=
  sl.state == .waitingEngine && sl.engine == some .sig && sl.unsigned && !sl.unfolded

/-- The oldest RECEIPT session whose signature is in operation. -/
def State.receiptSlot (s : State) : Option (Nat × Nat) :=
  let ns := s.tilth.find Slot.signing
  (ns.foldl (fun best n => match best with
    | none => some n
    | some b => if (s.slot n).since < (s.slot b).since then some n else some b) none).bind fun n =>
      match (s.slot n).work with
      | .receipt r _ => some (n, r)
      | _ => none

/-- RECEIPT_WRITE (R397, R306, R312, R436). -/
def execReceiptWrite (s : State) : Out :=
  keepLock s <|
    match s.receiptSlot with
    | none => s
    | some (n, reason) =>
      if s.sig.failed then s.finish n Rc.sheFailed
      else if s.identityBad then s.finish n Rc.hwFault
      else if !s.sig.identity ∨ s.mode = .retired then s.finish n Rc.modeForbids
      else s.writeReceipt n reason

/-! ## Journal import (R400) -/

/-- The checks of R400 on the header and the length; none where the import is accepted (log entry 89). -/
def State.importRefused (s : State) (length : Nat) (h : Bytes) : Option Code :=
  let count := field h 12 4
  if !(s.mode == .enrol || s.mode == .repurpose) then some Rc.modeForbids
  else if h.take 4 ≠ ascii "BLSJ" ∨ field h 4 2 ≠ 1 ∨ field h 6 2 ≠ 0 ∨ count = 0 ∨ length ≠ 48 + 64 * count then some Rc.importRefused
  else if field h 8 4 ≠ s.ledger.importSeq + 1 ∨ s.ledger.free < count + 5 + 96 then some Rc.importRefused
  else if s.ledger.importing.isSome then some Rc.busy
  else none

/-- An accepted import: the transfer stays open, a CIPHER session is requested (R353, R400). -/
def State.startImport (s : State) (via : Via) (h : Bytes) : State :=
  match s.holdServer via with
  | none => s.noSession via 0x2D60 true
  | some t =>
    let i : Import := { iseq := field h 8 4, count := field h 12 4, source := slice h 16 16, srv := via.srv, begun := false }
    (({ t with ledger := { t.ledger with importing := some i } }).putCode 0x2D60 2 Rc.pending).requestJob .journal

/-- The first frames of an import (R400, R450). -/
def State.takeImport (s : State) (via : Via) (length : Nat) (h : Bytes) : State :=
  let s := s.supersede via.srv
  let fails := fun (c : Code) => (s.putCode 0x2D60 2 c).endTransfer via true c (abortCodeOf c 0x2D60 true)
  if length < 112 ∨ 2097200 < length then fails Rc.lengthMismatch
  else if s.sig.recovery then fails Rc.modeForbids
  else
    match s.importRefused length h with
    | some c => fails c
    | none => s.startImport via h

/-- JOURNAL_IMPORT (R400). -/
def execJournalImport (via : Via) (length : Nat) (header : Bytes) (s : State) : Out :=
  keepLock s (if s.portServes via.port && header.length == 32 then s.takeImport via length header else s)

/-- A record with FLAGS bit 0 set (R400). -/
def markImported (r : Bytes) : Bytes :=
  let b := padTo 64 r
  setField b 1 [(b.getD 1 0) ||| 1]

/-- The imported records in the ring slots that follow (R400; log entry 88). -/
def Ledger.appendImported (l : Ledger) (plain : Bytes) : Nat → Ledger
  | 0 => l
  | n + 1 => (l.append (markImported (plain.take 64))).appendImported (plain.drop 64) n

/-- The extent is FINAL: IMPORT_END with OK, the sequence raised, a receipt (R400; log entries 88 and 89). -/
def State.finishImport (s : State) (i : Import) (n : Nat) (plain : Bytes) : State :=
  let t := { s with ledger := { (s.ledger.appendImported plain i.count) with importing := none, importSeq := i.iseq } }
  ((((t.appendRecord 0x05 0 (importBody i Rc.ok)).putCode 0x2D60 2 Rc.ok).occasion .imported).dropTransfer i.srv Rc.ok).finish n Rc.ok

/-- JOURNAL_IMPORT_END (R400): the ciphertext and its tag are whole. -/
def execJournalImportEnd (cipher tag : Bytes) (s : State) : Out :=
  keepLock s <|
    match s.jobSlot .journal with
    | none => s
    | some n =>
      let len := s.jobLength .journal
      if (s.slot n).state ≠ .waitingEngine ∨ cipher.length ≠ len ∨ tag.length ≠ 16 then s
      else
        let t := s.endJobOpen n (s.jobTagHolds .journal cipher tag)
        match t.ledger.importing with
        | some i => t.finishImport i n (s.jobPlain .journal cipher)
        | none => t

end Sys2Proof.Machine
end

