-- ==== Sys2Proof/Machine/Domains.lean ====
section
/-! DEFINITION. Power domains, wake events, the RTC, cap electrodes and the temperature guard (chapter 15), and the wake patterns of
a CAN port in standby (R337). -/

namespace Sys2Proof.Machine

/-! ## Levels and dependencies (R404, R405) -/

/-- The domain of an index. -/
def domainOf (i : Nat) : Option Domain := Domain.all[i]?

/-- The domain a domain depends on directly (R404). -/
def parent? : Domain → Option Domain
  | .aon | .fld | .core => none
  | .ept => some .brg
  | _ => some .core

/-- The level a domain stands at, or is moving to: 0 off, 1 retention, 2 on (R405). -/
def DomainCell.level (c : DomainCell) : Nat :=
  match c.state with
  | .off | .fault => 0
  | .retention => 1
  | .on => 2
  | .rising | .falling => c.target

/-- The state a level names. -/
def levelState : Nat → DomainState
  | 0 => .off
  | 1 => .retention
  | _ => .on

/-- The domains that depend on a domain directly. -/
def dependents (d : Domain) : List Domain := Domain.all.filter fun e => parent? e == some d

/-! ## Refusal reasons (R408) -/

/-- Engines of a domain (R45, R404; log entry 115). -/
def enginesOf (d : Domain) : List Engine :=
  match d with
  | .fld => [.kt] | .core => [.nvm, .cpu] | .sec => [.aes, .sig] | .rns => [.rng] | .lfa => [.lf] | .rfx => [.rf]
  | .hfr => [.hf] | .canv | .canp => [.can] | .brg => [.brg] | .aon | .ept => []

/-- The CAN port a slot's step serves: that of its exchange, or of its server's client (R45). -/
def State.slotPort (s : State) (sl : Slot) : Option Port :=
  match sl.work with
  | .release x => some x.port
  | .dictionary v => (s.server v).client.map (·.1)
  | _ => none

/-- A slot's step on an engine lies in a domain; a CAN step in that of its port (R45). -/
def State.stepIn (s : State) (sl : Slot) (e : Engine) (d : Domain) : Bool :=
  (enginesOf d).contains e && (e != .can || (s.slotPort sl).all fun pt => canDomain pt == d)

/-- A slot holds an engine of a domain, or waits for its wake (R408; log entry 115). -/
def State.slotUses (s : State) (d : Domain) (sl : Slot) : Bool :=
  sl.engine.any (fun e => s.stepIn sl e d)
    && (sl.state == .running || sl.state == .carried || sl.state == .waitingEngine || sl.state == .waitingResource)

/-- A USDO transfer is open on the port of a CAN domain (R336). -/
def State.transferOn (s : State) (d : Domain) : Bool :=
  [s.net.server1, s.net.server2].any fun v => v.client.any fun c => canDomain c.1 == d

/-- The first of the reasons 0x01 to 0x07 of the table Refusal reasons that holds against lowering a domain to a level (R408; log entry
115). -/
def State.useReason (s : State) (d : Domain) (level : Nat) : Option Nat :=
  if s.lock.released ∧ (d = .core ∨ s.vehicle.releasePort.any fun pt => canDomain pt == d) then some 0x01
  else if s.lock.released ∧ (d = .brg ∨ d = .ept) then some 0x02
  else if s.tilth.slots.any (s.slotUses d) ∨ (d = .rfx ∧ s.radio.raw.isSome) ∨ s.transferOn d then some 0x03
  else if d = .sec ∧ (s.cipher.lock = some .kaolin ∨ s.cipher.lock = some .selfTest ∨ s.cipher.contexts ≠ []) then some 0x04
  else if d = .sec ∧ level = 0 ∧ s.cipher.registers ≠ [] then some 0x05
  else if d = .rns ∧ (s.rng.testing ∨ s.rng.instances.any fun g => !g.queue.isEmpty) then some 0x06
  else if d = .core ∧ (s.tilth.slots.any (fun sl => sl.state != .free) ∨ s.net.server1.client.isSome ∨ s.net.server2.client.isSome)
    then some 0x07
  else none

/-- The reason against lowering a domain (R408): the table's conditions are those of the state visible in this head, the dependency is
the manager's own. -/
def State.loweringReason (s : State) (d : Domain) (level : Nat) : Option Nat :=
  if let some r := s.asSeen.useReason d level then some r
  else if (dependents d).any fun e => level < (s.cell e).level then some 0x08
  else none

/-- A domain's parent stands below a level (R405; log entry 113). -/
def State.parentBelow (s : State) (d : Domain) (level : Nat) : Bool := (parent? d).any fun p => (s.cell p).level < level

/-! ## What a transition does to the domain's own state (R403, R404, R413) -/

/-- A transition down begins (R329, R361, R369, R418). -/
def State.leaveOn (s : State) (d : Domain) : State :=
  match d with
  | .core => { s with power := { s.power with rtcLeft := s.power.rtc } }
  | .brg | .ept => s.bridgeLeft
  | .rns => s.setRng fun r => { r with source := .off, testing := false, recovering := false, pool := 0, conditioned := 0 }
  | _ => s

/-- A CAN port off (R336): its state, TPDOs and EMCY messages are lost. -/
def CanPort.off (p : CanPort) : CanPort := { CanPort.reset with lastSent := p.lastSent, bootUps := p.bootUps }

/-- The port of a CAN domain. -/
def domainPort : Domain → Port
  | .canp => .p
  | _ => .v

/-- RFX is off (R128, R134, R135): the band table and the temperature of its last calibration outlive it, what is pending or in progress and
the background corrections do not. -/
def State.radioOff (s : State) : State :=
  let r := s.radio
  let u := { s with radio :=
    { State.reset.radio with
      bands := r.bands, failed := r.failed, chainOk := r.chainOk, lastAir := r.lastAir
      synth := { State.reset.radio.synth with temp := r.synth.temp, lastTry := r.synth.lastTry }
      cxMask := r.cxMask, cxMaskedAt := r.cxMaskedAt, cxHeld := r.cxHeld, cxDrops := r.cxDrops } }
  (u.putNum 0x2421 5 0).putNum 0x2404 2 (s.num 0x2404 2 &&& 16)

/-- A domain has reached off: what it does not keep is lost (R299, R326, R336, R403, R404). -/
def State.enterOff (s : State) (d : Domain) : State :=
  match d with
  | .sec =>
    { s with
      cipher := { s.cipher with registers := [], contexts := [], opens := [], registerWaits := [], cycled := true }
      sig := { s.sig with cycled := true } }
  | .rns => s.setRng fun r => { r with instances := State.reset.rng.instances }
  | .lfa => { s with lf := { State.reset.lf with channels := (List.range 8).map s.restoredChannel } }
  | .rfx => s.radioOff
  | .canv | .canp => s.setPort (domainPort d) CanPort.off
  | .ept =>
    { s with
      bridge := { s.bridge with streamOn := false }
      ledger := { s.ledger with hvil := .unknown, insulation := .unknown, sample := none, quiet := 0, zeroing := none } }
  | .core => { s.loseVolatile with platform := { s.loseVolatile.platform with boot := .coreOff } }
  | _ => s

/-- SEC's self-tests begin with its transition to on (R298, R307). -/
def State.beginRise (s : State) (d : Domain) : State :=
  match d with
  | .sec =>
    let t := { s with sig := { s.sig with testing := true } }
    if t.cipher.lock.isNone then t.startCipherTest else t
  | _ => s

/-- The source starts, or tests itself to clear the latch (R320, R326, R329). -/
def State.startSource (s : State) : State :=
  s.setRng fun r =>
    { r with source := if 3 ≤ r.failures then .latched else .starting, testing := true, recovering := 3 ≤ r.failures, onFrom := s.tick }

/-- RFX powers up (R144, R167): background calibrations are due; chain tables that do not hold are reported. -/
def State.powerRadio (s : State) (chainsHold : Bool) : State :=
  let t := { s with radio :=
    { s.radio with chainOk := chainsHold, bg := s.radio.bg.map fun (b : BgState) => { b with forced := true } } }
  if chainsHold then t else t.alarm Ev.rangingCalInvalid 0 []

/-- The Eptan die powers up: HVIL and insulation are unknown (R379, R389). -/
def State.powerEptan (s : State) : State := (s.putNum 0x2D00 5 Hvil.unknown.code).putNum 0x2D00 7 Insulation.unknown.code

/-- The first filtered level of SVPANEL as CORE reports ready (R206): an open one counts as an edge, but not in SERVICE nor where SERVICE has
resumed as DEPOT (log entry 69). -/
def State.firstPanel (s : State) (open_ resumed : Bool) : State :=
  if !open_ then s.setPanel fun p => { p with open_ := false }
  else if resumed then s.setPanel fun p => { p with open_ := true, since := s.tick }
  else s.openPanel

/-- The tick counter of AON's count: while CORE is not on it has gone on with the RTC (R34, R416, R418). -/
def State.aonTick (s : State) : Tick :=
  if s.domain .core = .on ∨ s.domain .core = .off then s.tick else (s.tick + (s.power.rtc - s.power.rtcLeft)) % tickModulus

/-- AON's count goes on while CORE is in retention, by ticks that no command carries: a free value (R418; log entries 2 and 116). -/
def State.sleepOn (s : State) : State :=
  if s.domain .core = .retention then
    ({ s with power := { s.power with rtc := s.power.rtc + Config.freeNat s.free } }).used 1
  else s

/-- The controller wakes from CORE retention (R34, R414, R418): the counter is advanced by what the RTC's count shows elapsed since CORE
left on, the last of it a free value; the panel's first level is read and a touch that woke it is committed (R206; log entries 2, 116
and 117). -/
def State.resumeCore (s : State) (panelOpen : Bool) : State :=
  let rtc := s.power.rtc + Config.freeNat s.free
  let t := (({ s with
    tilth := { s.tilth with tick := (s.tick + (rtc - s.power.rtcLeft)) % tickModulus }
    power := { s.power with rtc := rtc } }).used 1).pushHighWater
  (t.firstPanel panelOpen (s.mode == .service)).wakingTouch

/-- A domain reports ready, from off or from retention (R298, R326, R336, R341, R361). -/
def State.enterOn (s : State) (fromOff : Bool) (found : PowerUp) : State :=
  match found.dom with
  | .rns => s.startSource
  | .rfx => if fromOff then s.powerRadio found.chainsHold else s
  | .canv | .canp => if fromOff then s.restartPort (domainPort found.dom) else s
  | .brg => s.startTraining
  | .ept => (if fromOff then s.powerEptan else s).startTraining
  | .core => if fromOff then s else s.resumeCore found.panelOpen
  | _ => s

/-! ## Transitions (R406, R407) -/

/-- A transition begins: up or down to a level (R407). -/
def State.beginMove (s : State) (d : Domain) (level : Nat) : State :=
  let c := s.cell d
  let up := c.level < level || c.state == .fault
  let t := s.setCell d fun c =>
    { c with
      state := if up then .rising else .falling
      prior := if c.state = .fault then .off else c.state
      target := level, pending := none, result := Rc.pending, reason := 0, began := s.now }
  if up then (if level = 2 then t.beginRise d else t) else t.leaveOn d

/-- A lowering is refused (R408). -/
def State.refuseMove (s : State) (d : Domain) (reason : Nat) : State :=
  let c := s.cell d
  (s.setCell d fun c => { c with pending := none, result := Rc.domainRefused, reason := reason }).event Ev.domainRefusedLogged 0
    (leBytes 1 (domainIndex d) ++ leBytes 1 reason ++ leBytes 1 c.source.code)

/-- The evaluation of a domain's pending target (R406, R408, R411): what a host asks above the parent is refused, what an access or a wake
asks waits for the parent (log entry 113). -/
def State.evaluate (s : State) (d : Domain) (level : Nat) : State :=
  let c := s.cell d
  if c.moving then s
  else if c.state = levelState level then s.setCell d fun c => { c with pending := none, result := Rc.ok, reason := 0 }
  else if level < c.level then
    match s.loweringReason d level with
    | some r => s.refuseMove d r
    | none => s.beginMove d level
  else if s.parentBelow d level then (if c.source = .host then s.refuseMove d 0x08 else s)
  else if (parent? d).any fun p => (s.cell p).moving then s
  else s.beginMove d level

/-- The pending target of a domain, once it is due. -/
def State.evaluatePending (s : State) (d : Domain) : State :=
  match (s.cell d).pending with
  | some l => if (s.cell d).pendingFrom ≤ s.now then s.evaluate d l else s
  | none => s

/-- The group's result (R409; log entry 114). -/
def State.endGroup (s : State) (result : Code) (domain : Nat) : State :=
  (({ s with power := { s.power with group := none } }).putCode 0x2E02 2 result).putNum 0x2E02 3 domain

/-- The domains a stopped group leaves unattempted (R409). -/
def State.notAttempted (s : State) (ds : List Domain) : State :=
  ds.foldl (fun u d => u.setCell d fun c => { c with result := Rc.notAttempted, reason := 0 }) s

/-- The level a group asks of a domain. -/
def Group.level (g : Group) (d : Domain) : Nat := ((g.targets.find? fun e => e.1 == d).map (·.2)).getD 2

/-- A group's domain has been carried out: it stands at its level, or faulted under the group (R407, R409; log entry 114). -/
def DomainCell.doneFor (c : DomainCell) (level began : Nat) : Bool :=
  c.state == levelState level || (c.state == .fault && c.result == Rc.domainFault && began ≤ c.began)

/-- The group in progress, one domain at a time (R409); `fuel` bounds the domains that need no transition (log entry 114). -/
def State.advanceGroup : Nat → State → State
  | 0, s => s
  | fuel + 1, s =>
    match s.power.group with
    | none => s
    | some g =>
      if s.now < g.from_ then s
      else
        match g.todo with
        | [] => s.endGroup Rc.ok 0xFF
        | d :: rest =>
          let c := s.cell d
          if c.moving then s
          else if c.doneFor (g.level d) g.from_ then
            let t := if c.state = .fault then s else s.setCell d fun c => { c with result := Rc.ok, reason := 0 }
            State.advanceGroup fuel { t with power := { t.power with group := some { g with todo := rest } } }
          else if g.level d < c.level then
            match s.loweringReason d (g.level d) with
            | some r => ((s.refuseMove d r).notAttempted rest).endGroup Rc.domainRefused (domainIndex d)
            | none => s.beginMove d (g.level d)
          else if s.parentBelow d (g.level d) then ((s.refuseMove d 0x08).notAttempted rest).endGroup Rc.domainRefused (domainIndex d)
          else s.beginMove d (g.level d)

/-- The head of a tick: pending targets that are due, and the group (R406, R409). -/
def State.moveDomains (s : State) : State := (Domain.all.foldl State.evaluatePending s).advanceGroup 13

/-- A transition ends (R407): the domain stands at its target, with what it finds there. -/
def State.endMove (s : State) (found : PowerUp) : State :=
  let c := s.cell found.dom
  let t := s.setCell found.dom fun c =>
    { c with state := levelState c.target, result := if c.pending.isSome then c.result else Rc.ok, reason := 0 }
  if c.state = .falling then (if c.target = 0 then t.enterOff found.dom else t)
  else if c.target = 2 then t.enterOn (c.prior != .retention) found
  else t

/-- The bound of a transition in ticks (R404, R407). -/
def moveBound (d : Domain) (c : DomainCell) : Nat :=
  if c.state = .falling then (if c.target = 0 then 8 else 4)
  else
    let us : Nat × Nat := match d with
      | .aon => (0, 0) | .fld => (20, 50) | .core => (50, 30000) | .sec => (6300, 6500) | .rns => (20, 900) | .lfa => (30, 200)
      | .rfx => (60, 400) | .hfr => (50, 300) | .canv => (40, 1000) | .canp => (40, 1000) | .brg => (20, 100)
      | .ept => (1500, 4000)
    ((if c.prior = .retention then us.1 else us.2) + 24) / 25

/-- DOMAIN_TRANSITION_END (R404, R407): within the bound. -/
def execDomainTransitionEnd (found : PowerUp) (s : State) : Out :=
  let c := s.cell found.dom
  keepLock s (if c.moving ∧ s.now ≤ c.began + moveBound found.dom c ∧ (s.running ∨ found.dom = .core) then s.endMove found else s)

/-- DOMAIN_FAULTED (R407). -/
def execDomainFaulted (dom : Domain) (s : State) : Out :=
  keepLock s (if s.running ∧ (s.cell dom).moving ∧ (s.cell dom).began + moveBound dom (s.cell dom) ≤ s.now then
      (s.setCell dom fun c => { c with state := .fault, result := Rc.domainFault, reason := 0 }).alarm Ev.domainFaulted 0
        (leBytes 1 (domainIndex dom))
    else s)

/-! ## Requests (R406, R409) -/

/-- A group that is in progress has not finished a domain (R409). -/
def State.inGroup (s : State) (d : Domain) : Bool := s.power.group.any fun g => g.todo.contains d

/-- A target set by a host (R406): evaluated two ticks later. -/
def DomainCell.ask (c : DomainCell) (level now : Nat) : DomainCell := c.request level (now + 2) .host

/-- A write to 0x2E01:n+1 by its own rule (R406). -/
def ownDomainRequest (sub : Nat) (value : Bytes) : Own := fun s =>
  match domainOf (sub - 1) with
  | none => (s, Rc.entryUnknown)
  | some .aon => (s.setCell .aon fun c => { c with result := Rc.alwaysOn, source := .host, target := leNat value }, Rc.alwaysOn)
  | some d =>
    if s.inGroup d then (s, Rc.busy) else ((s.setCell d fun c => c.ask (leNat value) s.now).put 0x2E01 sub value, Rc.ok)

/-- DOMAIN_REQUEST (R406). -/
def execDomainRequest (via : Via) (sub : Nat) (value : Bytes) (s : State) : Out :=
  keepLock s (s.hostWrite via 0x2E01 sub value (ownDomainRequest sub value))

/-- The order in which a group lowers (R409). -/
def loweringOrder : List Domain := [.hfr, .rfx, .lfa, .canp, .canv, .ept, .brg, .sec, .rns, .fld, .core]

/-- The target of a group's word for a domain; 3 leaves it as it is (R409). -/
def State.groupTarget (s : State) (word : Nat) (d : Domain) : Nat :=
  let t := word / 4 ^ (domainIndex d) % 4
  if t = 3 then (s.cell d).level else t

/-- The first domain of a group's final states that would stand above its parent (R405, R409). -/
def State.groupConflict (s : State) (word : Nat) : Option Domain :=
  Domain.all.find? fun d => (parent? d).any fun p => s.groupTarget word p < s.groupTarget word d

/-- An accepted group (R409): lowerings in order, then raisings in the reverse order. -/
def State.acceptGroup (s : State) (word : Nat) : State :=
  let named := Domain.all.filter fun d => d != .aon && word / 4 ^ (domainIndex d) % 4 != 3
  let lower := loweringOrder.filter fun d => named.contains d && s.groupTarget word d < (s.cell d).level
  let rest := loweringOrder.reverse.filter fun d => named.contains d && !(s.groupTarget word d < (s.cell d).level)
  let t := named.foldl (fun u d => u.setCell d fun c =>
    { c with pending := none, source := .group, reason := 0, result := Rc.pending
             target := if c.moving then c.target else s.groupTarget word d }) s
  let g : Group := { from_ := s.now + 2, targets := named.map fun d => (d, s.groupTarget word d), todo := lower ++ rest }
  ({ t with power := { t.power with group := some g } }).putCode 0x2E02 2 Rc.pending

/-- A write to 0x2E02:01 by its own rule (R409). -/
def ownGroupRequest (value : Bytes) : Own := fun s =>
  let word := leNat value
  if s.power.group.isSome then (s, Rc.busy)
  else if word % 4 < 2 then ((s.putCode 0x2E02 2 Rc.alwaysOn).putNum 0x2E02 3 0, Rc.alwaysOn)
  else
    match s.groupConflict word with
    | some d =>
      (((s.setCell d fun c => { c with result := Rc.domainRefused, reason := 0x08, source := .group }).putCode 0x2E02 2
        Rc.domainRefused).putNum 0x2E02 3 (domainIndex d), Rc.domainRefused)
    | none => ((s.acceptGroup word).put 0x2E02 1 value, Rc.ok)

/-- GROUP_REQUEST (R409). -/
def execGroupRequest (via : Via) (value : Bytes) (s : State) : Out :=
  keepLock s (s.hostWrite via 0x2E02 1 value (ownGroupRequest value))

/-! ## Wake events (R414 to R416) -/

/-- The CAN domains a source raises (R414). -/
def State.wakes (s : State) (source : Nat) : List Domain :=
  match source with
  | 1 | 2 => [.canv]
  | 3 | 4 => [.canp]
  | _ => (if bit (s.seenNum 0x2E21 0) 0 then [.canv] else []) ++ (if bit (s.seenNum 0x2E21 0) 1 then [.canp] else [])

/-- A source fires while CORE, or a CAN domain it would raise, is not on (R414). -/
def State.wakeFires (s : State) (source : Nat) : Bool := !s.isOn .core || (s.wakes source).any fun d => !s.isOn d

/-- A wake source. -/
def State.wakeSource (s : State) (source : Nat) : WakeSource :=
  (s.power.sources[source - 1]?).getD { mask := .armed, maskedAt := 0, events := [] }

/-- A wake source changed. -/
def State.setSource (s : State) (source : Nat) (f : WakeSource → WakeSource) : State :=
  { s with power := { s.power with sources := s.power.sources.modify (source - 1) f } }

/-- The two filter rules do not apply to the RTC alarm (R415). -/
def filtered (source : Nat) : Bool := 1 ≤ source && source ≤ 10 && source != 7

/-- Ticks of AON's count since an instant. -/
def State.aonSince (s : State) (t : Tick) : Nat := (s.aonTick + (tickModulus - t)) % tickModulus

/-- An event of a source counts towards its rate; the eighth within 1 s masks it for 10 s (R415). -/
def State.wakeRate (s : State) (source : Nat) : State :=
  if !filtered source then s
  else
    let es := s.aonTick :: (s.wakeSource source).events.filter fun t => s.aonSince t < ticksPerSecond
    if 8 ≤ es.length then
      (s.setSource source fun w => { w with mask := .rate, maskedAt := s.aonTick, events := [] }).event Ev.wakeSourceRate source
        (leBytes 1 source)
    else s.setSource source fun w => { w with events := es }

/-- CORE is raised: from retention it rises, from off the start-up sequence runs (R414, R425; log entry 116). -/
def State.raiseCore (s : State) : State :=
  match s.domain .core with
  | .retention => s.setCell .core fun c =>
      { c with state := .rising, prior := .retention, target := 2, pending := none, result := Rc.pending, reason := 0, source := .wake, began := s.now }
  | .off => if s.platform.boot = .coreOff then { s with platform := { s.platform with boot := .resetting .wake 0 } } else s
  | _ => s

/-- A domain asked for by a wake event (R410, R414). -/
def State.raiseFor (s : State) (d : Domain) : State :=
  s.setCell d fun c => if c.comesOn && !(c.pending.any (· < 2)) then c else c.request 2 s.now .wake

/-- The last-wake record (R416), stamped with the tick of AON's count. -/
def State.recordWake (s : State) (source subject : Nat) : State :=
  ((((s.putNum 0x2E10 1 source).putNum 0x2E10 2 subject).putNum 0x2E10 3 s.aonTick).putNum 0x2E10 4 s.rtcSeconds).event Ev.wake source
    (leBytes 1 source ++ leBytes 1 subject)

/-- A wake event of a source whose bit is set in the enable mask (R414, R416; log entry 117). -/
def State.wakeUp (s : State) (source subject : Nat) : State :=
  let asleep := !s.isOn .core
  let t := (s.recordWake source subject).raiseCore
  let u := (s.wakes source).foldl State.raiseFor t
  if source = 5 ∧ asleep then ({ u with power := { u.power with wakeTouch := some subject } }).spendTouch subject else u

/-- A source fires (R414 to R416): a masked one raises nothing. -/
def State.fireWake (s : State) (source subject : Nat) : State :=
  if (s.wakeSource source).mask ≠ .armed then s
  else
    let t := s.wakeRate source
    if !s.wakeFires source then t
    else
      let u := t.bump 0x2E11 source
      if bit (s.seenNum 0x2E20 0) source then u.wakeUp source subject else u

/-- A source can assert itself with a subject (R337, R414, R416 to R418): a CAN port while its domain is not on, an electrode whose touch is
declared, the RTC through its alarm alone. -/
def State.canAssert (s : State) (source subject : Nat) : Bool :=
  let watching := fun (pt : Port) => s.domain (canDomain pt) == .retention || s.domain (canDomain pt) == .off
  match source with
  | 1 => watching .v && subject == 0
  | 2 => watching .v && s.isTrue 0x2B05 1 && subject < 2
  | 3 => watching .p && subject == 0
  | 4 => watching .p && s.isTrue 0x2B06 1 && subject < 2
  | 5 => s.touchDeclared subject
  | 6 | 8 | 9 | 10 => subject == 0
  | _ => false

/-- WAKE (R414): sources 0x01 to 0x0A; the RTC's comes with RTC_ALARM. -/
def execWake (source subject : Nat) (s : State) : Out :=
  keepLock s (if s.canAssert source subject then s.sleepOn.fireWake source subject else s)

/-- WAKE_SOURCE_STUCK (R415). -/
def execWakeSourceStuck (source : Nat) (s : State) : Out :=
  keepLock s (if filtered source ∧ (s.wakeSource source).mask = .armed then
      (s.setSource source fun w => { w with mask := .stuck, maskedAt := s.aonTick, events := [] }).event Ev.wakeSourceStuck source
        (leBytes 1 source)
    else s)

/-- WAKE_SOURCE_REARMED (R415). -/
def execWakeSourceRearmed (source : Nat) (s : State) : Out :=
  keepLock s (if filtered source ∧ maskEnds (s.sleepOn.wakeSource source).mask (s.sleepOn.aonSince (s.sleepOn.wakeSource source).maskedAt) then
      (s.sleepOn.setSource source fun w => { w with mask := .armed, events := [] }).event Ev.wakeSourceRearmed source (leBytes 1 source)
    else s)

/-! ## Wake patterns of a CAN port in standby (R337) -/

/-- The index of a port's selective wake entries. -/
def selectiveIndex : Port → Nat
  | .v => 0x2B05
  | .p => 0x2B06

/-- A frame matches the selective wake settings (R337). -/
def State.wufMatches (s : State) (pt : Port) (id dlc : Nat) (data : Bytes) : Bool :=
  let i := selectiveIndex pt
  ((id ^^^ s.num i 2) &&& s.num i 3) == 0 && dlc == s.num i 4
    && (data.zip (s.bytes i 5)).any fun e => (e.1 &&& e.2) != 0

/-- The wake source code and subject of a pattern; none where it does not wake the port (R337, R414, R416). -/
def State.patternWake (s : State) (pt : Port) (p : WakePattern) : Option (Nat × Nat) :=
  let selective := s.isTrue (selectiveIndex pt) 1
  let base := 2 * portCode pt
  match p with
  | .wup => some (base + 1, 0)
  | .wuf id dlc data => if selective && s.wufMatches pt id dlc data then some (base + 2, 0) else none
  | .errorCount => if selective then some (base + 2, 1) else none

/-- CAN_WAKE_PATTERN (R336, R337): a port watches the bus while its domain is in retention or off. -/
def execCanWakePattern (pt : Port) (pattern : WakePattern) (s : State) : Out :=
  keepLock s (if s.domain (canDomain pt) = .retention ∨ s.domain (canDomain pt) = .off then
      match s.patternWake pt pattern with
      | some w => s.sleepOn.fireWake w.1 w.2
      | none => s
    else s)

/-! ## Cap electrodes (R417) -/

/-- An electrode after one scan with a measured capacitance and a threshold, in 0.01 pF. -/
def Electrode.scan (e : Electrode) (cap threshold rate : Nat) : Electrode :=
  if e.reacquire ≠ 0 then
    { e with baseline := Config.baselineAcquire e.reacquire e.baseline cap, touched := false, run := 0, reacquire := e.reacquire - 1, fresh := false }
  else
    let above := threshold ≤ cap - e.baseline
    let below := 2 * (cap - e.baseline) < threshold
    let counts := if e.touched then below else above
    let run := if counts then e.run + 1 else 0
    let turns := run = 2
    { e with
      touched := if turns then !e.touched else e.touched
      fresh := if turns then !e.touched else e.fresh
      run := if turns then 0 else run
      baseline := if e.touched || (turns && !e.touched) then e.baseline else Config.baselineTrack e.baseline cap rate }

/-- The scan rate now (R417). -/
def State.scanRate (s : State) : Nat := if s.isOn .core then s.seenNum 0x2E40 1 else s.seenNum 0x2E40 2

/-- One electrode of a scan: its delta is shown (R417). -/
def State.scanElectrode (s : State) (i cap : Nat) : State :=
  match s.power.electrodes[i]? with
  | none => s
  | some e =>
    if !bit (s.seenNum 0x2E40 3) i then s
    else
      let es := s.power.electrodes.set i (e.scan cap (s.seenNum 0x2E41 (i + 1)) s.scanRate)
      ({ s with power := { s.power with electrodes := es } }).putInt 0x2E42 (i + 1)
        ((cap : Int) - (e.baseline : Int))

/-- CAP_SCAN (R417): the capacitances of CSE0 to CSE3. -/
def execCapScan (caps : List Nat) (s : State) : Out :=
  keepLock s ((List.range 4).foldl (fun u i => match caps[i]? with | some c => u.scanElectrode i c | none => u) s)

/-- A write to 0x2E43:00 by its own rule (R417). -/
def ownReacquire (value : Bytes) : Own := fun s =>
  let named := fun i => bit (leNat value) i
  let es := s.power.electrodes.zipIdx.map fun (e : Electrode × Nat) => if named e.2 then { e.1 with reacquire := 8 } else e.1
  ({ s with power := { s.power with electrodes := es } }, Rc.ok)

/-- BASELINE_REACQUIRE (R417). -/
def execBaselineReacquire (via : Via) (value : Bytes) (s : State) : Out :=
  keepLock s (s.hostWrite via 0x2E43 0 value (ownReacquire value))

/-! ## RTC (R418) -/

/-- The RTC set to a value, logged with the old and the new one (log entry 118). -/
def State.setRtc (s : State) (value : Nat) : State :=
  ({ s with power := { s.power with rtc := value * ticksPerSecond, rtcValid := true } }).event Ev.rtcSet 0
    (leBytes 4 s.rtcSeconds ++ leBytes 4 value)

/-- A write to 0x2E14:02 by its own rule (R418). -/
def ownRtcSet (value : Bytes) : Own := fun s =>
  if s.power.rtcValid ∧ leNat value + 300 < s.rtcSeconds then (s, Rc.rtcBackward) else (s.setRtc (leNat value), Rc.ok)

/-- RTC_SET (R418). -/
def execRtcSet (via : Via) (value : Bytes) (s : State) : Out := keepLock s (s.hostWrite via 0x2E14 2 value (ownRtcSet value))

/-- A write to 0x2E14:04 by its own rule (R418). -/
def ownRtcSealed (value : Bytes) : Own := fun s =>
  if s.signer = some .owner then (s.setRtc (leNat value), Rc.ok) else (s, Rc.envelopeSigner)

/-- RTC_SET_SEALED (R418). -/
def execRtcSetSealed (via : Via) (value : Bytes) (s : State) : Out :=
  keepLock s (s.hostWrite via 0x2E14 4 value (ownRtcSealed value))

/-- A write to 0x2E15:00 by its own rule (R418): a new alarm may fire. -/
def ownAlarm (value : Bytes) : Own := fun s =>
  (({ s with power := { s.power with alarmFired := false } }).put 0x2E15 0 value, Rc.ok)

/-- The alarm is set, the RTC valid, and it has not fired yet (R418). -/
def State.alarmSet (s : State) : Bool := s.power.rtcValid && s.num 0x2E15 0 != 0 && !s.power.alarmFired

/-- The RTC as the alarm finds it: while CORE is not on it has gone on in AON until it reached the alarm (R418; log entry 116). -/
def State.alarmRtc (s : State) : Nat :=
  if s.isOn .core then s.power.rtc else max s.power.rtc (s.num 0x2E15 0 * ticksPerSecond)

/-- The alarm fires its wake source, once (R414, R418; log entry 45). -/
def State.fireAlarm (s : State) : State :=
  ({ s with power := { s.power with rtc := s.alarmRtc, alarmFired := true } }).fireWake 7 0

/-- RTC_ALARM (R418). -/
def execRtcAlarm (s : State) : Out :=
  keepLock s (if s.alarmSet && (s.num 0x2E15 0 ≤ s.rtcSeconds || !s.isOn .core) then s.fireAlarm else s)

/-! ## The temperature guard (R421) -/

/-- THERMAL_GUARD (R421). -/
def execThermalGuard (tempDeci : Int) (s : State) : Out :=
  keepLock s <|
    let t := s.dieReads tempDeci
    if (s.seenNum 0x2E50 3 : Int) * 10 ≤ tempDeci ∧ !s.power.guard then
      ({ t with power := { t.power with guard := true } }).alarm Ev.thermalGuard 0 (intBytes 2 tempDeci)
    else t

/-- THERMAL_GUARD_LEFT (R421). -/
def execThermalGuardLeft (tempDeci : Int) (s : State) : Out :=
  keepLock s { s.dieReads tempDeci with power :=
    { (s.dieReads tempDeci).power with guard := s.power.guard && !decide (tempDeci ≤ (s.seenNum 0x2E50 3 : Int) * 10 - 50) } }

end Sys2Proof.Machine
end

