-- ==== Sys2Proof/Machine/Lifecycle.lean ====
section
/-! DEFINITION. Lifecycle modes, mode requests and their commits, SERVICE, sealed-write envelopes, public keys (chapter 01 and
R305). -/

namespace Sys2Proof.Machine

/-! ## The table Mode transitions, for host requests (R15) -/

/-- What a row of the table asks of a request. -/
structure Transition where
  /-- The signer the Authority column names; none for a host's own request. -/
  signer : Option Signer
  /-- Enrolment bits of the Precondition column. -/
  bits : List Nat
  needsLock : Bool
  needsClearLatch : Bool
  deriving DecidableEq, Repr

/-- The stored return mode of QUARANTINE is BLANK, so Darith's signer applies (R15, R27; log entry 20). -/
def State.vendorReturn (s : State) : Bool := s.life.quarantineReturn == some .blank

/-- The signer that may take a pack out of QUARANTINE (R15; log entry 20). -/
def State.exitSigner (s : State) : Signer := if s.vendorReturn then .vendor else .owner

/-- The mode is one of ENROL to DORMANT, QUARANTINE included (R15). -/
def fromEnrolToDormant (m : Mode) : Bool := m != .factory && m != .blank && m != .retired

/-- The row of the table for the current mode and a target a host may request (R15), if there is one (log entry 20). -/
def State.transition? (s : State) (target : Mode) : Option Transition :=
  match s.mode, target with
  | .factory, .blank => some ⟨some .vendor, [], false, false⟩
  | .blank, .enrol => some ⟨some .vendor, [], false, false⟩
  | .enrol, .transit => some ⟨some .owner, [0, 1, 2, 4], true, false⟩
  | .enrol, .bound => some ⟨some .owner, [0, 1, 2, 3, 4], false, false⟩
  | .transit, .bound => some ⟨some .owner, [3], false, false⟩
  | .transit, .enrol => some ⟨some .owner, [], true, false⟩
  | .bound, .depot => some ⟨none, [], false, false⟩
  | .depot, .bound => some ⟨none, [], false, false⟩
  | .bound, .repurpose | .depot, .repurpose | .transit, .repurpose => some ⟨some .owner, [], true, false⟩
  | .repurpose, .stationary => some ⟨some .owner, [0, 1, 2, 4, 5], false, false⟩
  | .repurpose, .bound => some ⟨some .owner, [0, 1, 2, 3, 4], false, false⟩
  | .transit, .dormant | .depot, .dormant | .stationary, .dormant => some ⟨some .owner, [], true, false⟩
  | .quarantine, .retired => some ⟨some s.exitSigner, [], true, false⟩
  | .quarantine, m =>
    if s.life.quarantineReturn = some m ∨ m = .repurpose then some ⟨some s.exitSigner, [], false, true⟩ else none
  | .dormant, .retired => some ⟨some .owner, [], true, false⟩
  | .dormant, m => if s.life.dormantReturn = some m then some ⟨some .owner, [], true, false⟩ else none
  | m, .retired => if fromEnrolToDormant m then some ⟨some .owner, [], true, false⟩ else none
  | _, _ => none

/-- The rest of the Precondition column (R15, R312): identity certified for FACTORY to BLANK, the owner key committed and
visible for BLANK to ENROL. -/
def State.preconditionItems (s : State) (target : Mode) : Bool :=
  match s.mode, target with
  | .factory, .blank => s.sig.certified && chainIdentityKey s.sig.chain == identityKey
  | .blank, .enrol => s.ownerKey && !allZero (s.seenBytes 0x2021 0)
  | _, _ => true

/-- The checks of R12 in order, the envelope's presence apart; none where the request passes. -/
def State.modeCheck (s : State) (target : Mode) (sealed : Bool) : Option Code :=
  match s.transition? target with
  | none => some Rc.transitionInvalid
  | some t =>
    if sealed && t.signer.isSome && t.signer != s.signer then some Rc.envelopeSigner
    else if !(s.enrolled t.bits && s.preconditionItems target) then some Rc.enrolIncomplete
    else if t.needsClearLatch && s.hardpan.set then some Rc.hardpanNotReleased
    else if t.needsLock && !s.lockCondition then some Rc.lockReleased
    else if s.life.pending.isSome then some Rc.busy
    else none

/-- A request that passed: PENDING, with the pending record still to be written (R13). -/
def State.acceptMode (s : State) (target : Mode) : State :=
  ({ s with life := { s.life with pending := some { target := target, since := s.tick, firstCopy := false } } }).putNum 0x2022 0 0

/-- The outcome of a mode request, reported at 0x2001:02 (R12, R13). -/
def State.requestMode (s : State) (target : Mode) (sealed : Bool) : State × Code :=
  match s.modeCheck target sealed with
  | some c => (s.putCode 0x2001 2 c, c)
  | none => ((s.acceptMode target).putCode 0x2001 2 Rc.pending, Rc.pending)

/-- A write to 0x2001:01 by its own rule (R11, R12). -/
def ownModeRequest (value : Bytes) : Own := fun s =>
  match Mode.ofCode (leNat value) with
  | some m => s.requestMode m true
  | none => (s, Rc.valueRange)

/-- A write to 0x2001:03 by its own rule (R11): the two transitions that need no envelope. -/
def ownDepotRequest (value : Bytes) : Own := fun s =>
  match s.mode, Mode.ofCode (leNat value) with
  | .bound, some .depot => s.requestMode .depot false
  | .depot, some .bound => s.requestMode .bound false
  | _, _ => (s.putCode 0x2001 2 Rc.transitionInvalid, Rc.transitionInvalid)

/-- An envelope failure of a mode request reads at 0x2001:02 as well (R12, check 1; log entry 22). -/
def State.reportEnvelope (s : State) (via : Via) (value : Bytes) : State :=
  if s.portServes via.port && (s.writeRefused 0x2001 1 value).isNone then
    match s.envelopeResult 0x2001 1 value with
    | some c => s.putCode 0x2001 2 c
    | none => s
  else s

/-- MODE_REQUEST (R11, R12). -/
def execModeRequest (via : Via) (value : Bytes) (s : State) : Out :=
  keepLock s ((s.reportEnvelope via value).hostWrite via 0x2001 1 value (ownModeRequest value))

/-- DEPOT_REQUEST (R11, R12). -/
def execDepotRequest (via : Via) (value : Bytes) (s : State) : Out :=
  keepLock s (s.hostWrite via 0x2001 3 value (ownDepotRequest value))

/-- The pending change takes effect (R13; log entry 17). -/
def State.commitPending (s : State) : State :=
  match s.life.pending with
  | some p => if p.firstCopy then (s.putCode 0x2001 2 Rc.ok).enterMode p.target else s
  | none => s

/-- MODE_COMMIT (R13): both copies of the record verified. -/
def execModeCommit (s : State) : Out := keepLock s s.commitPending

/-! ## SERVICE (R17 to R19) -/

/-- The exit delay has passed with the panel closed, from SERVICE entry on (R19, R206). -/
def State.exitDelayPassed (s : State) : Bool :=
  !s.vehicle.panel.treatedOpen && s.num 0x2004 3 * ticksPerMs ≤ s.sinceTick s.vehicle.panel.since
    && s.num 0x2004 3 * ticksPerMs ≤ s.sinceTick s.life.serviceFrom

/-- SERVICE is left for DEPOT (R19); a pending change to RETIRED goes first (R33; log entry 23). -/
def State.leaveService (s : State) : State :=
  if s.mode = .service ∧ s.exitDelayPassed ∧ s.life.pending.isNone then (s.enterMode .depot).event Ev.serviceLeft 0 [] else s

/-- SERVICE_EXIT (R19). -/
def execServiceExit (s : State) : Out := keepLock s s.leaveService

/-- The end of a whole period of 0x2004:02 since SERVICE entry (R19). -/
def State.overrunCheck (s : State) : State :=
  if s.mode = .service ∧ (s.life.periods + 1) * (s.num 0x2004 2 * ticksPerSecond) ≤ s.sinceTick s.life.serviceFrom then
    let t := { s with life := { s.life with periods := s.life.periods + 1 } }
    if s.vehicle.panel.treatedOpen then t.event Ev.serviceOverrun 0 [] else t
  else s

/-- SERVICE_OVERRUN (R19). -/
def execServiceOverrun (s : State) : Out := keepLock s s.overrunCheck

/-! ## Envelopes (R25 to R29) -/

/-- One write item of 40 bytes (R26). -/
def parseItem (b : Bytes) : EnvelopeItem :=
  { index := field b 0 2, sub := byteAt b 2, length := field b 4 4, digest := slice b 8 32, used := false }

/-- The signer field of an envelope (R25). -/
def parseSigner (n : Nat) : Option Signer :=
  match n with
  | 1 => some .vendor
  | 2 => some .owner
  | _ => none

/-- The layout and flags of an envelope hold (R25, R27 check 1). -/
def envelopeWellFormed (b : Bytes) : Bool :=
  let n := byteAt b 38
  field b 0 2 == 1 && (parseSigner (byteAt b 2)).isSome && byteAt b 3 == 0 && 1 ≤ field b 36 2 && field b 36 2 ≤ 600
    && 1 ≤ n && n ≤ 16 && byteAt b 39 == 0 && b.length == 40 + 40 * n + 114
    && (List.range n).all fun i => byteAt b (40 + 40 * i + 3) == 0

/-- A signer is allowed in the current mode (R27 check 2). -/
def State.signerAllowed (s : State) (g : Signer) : Bool :=
  match g with
  | .vendor => s.mode == .factory || s.mode == .blank || (s.mode == .quarantine && s.vendorReturn)
  | .owner => fromEnrolToDormant s.mode

/-- The key that verifies an envelope (R27 check 5, R312). -/
def State.envelopeKey (s : State) (g : Signer) : Bytes :=
  match g with
  | .owner => s.bytes 0x2021 0
  | .vendor => if s.sig.certified then chainCaKey s.sig.chain else darithRoot

/-- The checks of R27 in order; none where the envelope is accepted (log entry 21). -/
def State.envelopeCheck (s : State) (b : Bytes) : Option Code :=
  match parseSigner (byteAt b 2) with
  | none => some Rc.envelopeMalformed
  | some g =>
    if !envelopeWellFormed b then some Rc.envelopeMalformed
    else if !s.signerAllowed g then some Rc.envelopeSigner
    else
      match (if (s.drawFails 4).isNone then s.sealing.nonce else none) with
      | none => some Rc.rngFail
      | some nonce =>
        if slice b 20 16 != deviceBinding || slice b 4 16 != nonce then some Rc.envelopeNonce
        else if s.sig.failed then some Rc.sheFailed
        else if !sigHolds (s.envelopeKey g) (ascii "BLS9640-SWE") (b.take (b.length - 114)) (b.drop (b.length - 114)) then
          some Rc.sigInvalid
        else none

/-- An accepted envelope replaces any earlier one; a fresh nonce is drawn (R27). The nonce it carries is kept for the
root import (R270). -/
def State.acceptEnvelope (s : State) (b : Bytes) : State :=
  ({ s with sealing :=
      { s.sealing with
        active := some
          { signer := if byteAt b 2 = 1 then .vendor else .owner
            items := (List.range (byteAt b 38)).map fun i => parseItem (slice b (40 + 40 * i) 40)
            expiry := s.tickIn (field b 36 2 * ticksPerSecond)
            nonce := slice b 4 16 }
        expired := false } }).newNonce

/-- A write to 0x2020:01 by its own rule (R27). -/
def ownEnvelope (value : Bytes) : Own := fun s =>
  match s.envelopeCheck value with
  | some c => ((if c = Rc.sigInvalid then s.she 1 else s).putCode 0x2020 2 c, c)
  | none => (((s.she 1).acceptEnvelope value).putCode 0x2020 2 Rc.ok, Rc.ok)

/-- ENVELOPE_WRITE (R27). -/
def execEnvelopeWrite (via : Via) (value : Bytes) (s : State) : Out :=
  keepLock s (s.hostWrite via 0x2020 1 value (ownEnvelope value))

/-- A write to 0x2020:06 by its own rule (R28): TRUE ends the active envelope. -/
def ownEnvelopeCancel (value : Bytes) : Own := fun s =>
  (if leNat value = 1 ∧ s.sealing.active.isSome then s.endEnvelope false else s, Rc.ok)

/-- ENVELOPE_CANCEL (R28). -/
def execEnvelopeCancel (via : Via) (value : Bytes) (s : State) : Out :=
  keepLock s (s.hostWrite via 0x2020 6 value (ownEnvelopeCancel value))

/-- The active envelope's lifetime has run out (R28). -/
def State.expireEnvelope (s : State) : State :=
  match s.sealing.active with
  | some e => if s.reached e.expiry then s.endEnvelope true else s
  | none => s

/-- ENVELOPE_EXPIRY (R28). -/
def execEnvelopeExpiry (s : State) : Out := keepLock s s.expireEnvelope

/-! ## Public keys (R305, R486) -/

/-- The public keys a host writes: owner, lessor, site and origin keys (R305). -/
def isPublicKey (idx sub : Nat) : Bool :=
  (idx == 0x2021 && sub == 0) || (idx == 0x2D41 && sub == 0) || (idx == 0x2660 && 1 ≤ sub && sub ≤ 8)
    || (idx == 0x2720 && 1 ≤ sub && sub ≤ 4)

/-- The mode accepts a key of this entry (R486). -/
def keyModeAccepts (m : Mode) (idx : Nat) : Bool :=
  if idx = 0x2021 then m == .enrol || m == .repurpose || m == .blank
  else if idx = 0x2D41 then m == .enrol || m == .repurpose
  else if idx = 0x2660 then m == .repurpose
  else true

/-- A key write by its own rule (R305, R486). -/
def ownPublicKey (idx sub : Nat) (value : Bytes) : Own := fun s =>
  if !keyModeAccepts s.mode idx then (s, Rc.modeForbids)
  else if allZero value then
    if idx = 0x2021 then (s, Rc.publicKeyInvalid) else (s.put idx sub value, Rc.ok)
  else if s.sig.failed then (s, Rc.sheFailed)
  else if Config.keyAcceptable value then ((s.she 1).put idx sub value, Rc.ok)
  else (s.she 1, Rc.publicKeyInvalid)

/-- PUBLIC_KEY_WRITE (R305, R486). -/
def execPublicKeyWrite (via : Via) (idx sub : Nat) (value : Bytes) (s : State) : Out :=
  keepLock s (if isPublicKey idx sub then s.hostWrite via idx sub value (ownPublicKey idx sub value) else s)

end Sys2Proof.Machine
end

