-- ==== Sys2Proof/Machine/Startup.lean ====
section
/-! DEFINITION. Start-up, resets, detected faults, tamper detectors and the Hardpan latch (chapter 16). -/

namespace Sys2Proof.Machine

/-! ## Codes (R425, R431) -/

/-- The code of a start-up kind (R425). -/
def startCode : StartKind → Nat
  | .cold => 0x01 | .supply => 0x02 | .pin => 0x03 | .watchdog => 0x04 | .fault => 0x05 | .activation => 0x06 | .wake => 0x07
  | .nmt => 0x08

/-- The sequence of a kind begins at step 1 or 2, so that the reference is started and checked (R425, R427). -/
def checksClock : StartKind → Bool
  | .cold | .supply | .pin => true
  | _ => false

/-- The code of a detector (R431). -/
def detectorCode : Detector → Nat
  | .lockstep => 0x01 | .ecc => 0x02 | .mram => 0x03 | .aes => 0x04 | .signature => 0x05 | .evaluators => 0x06
  | .watchdog => 0x07 | .supply => 0x08 | .clock => 0x09 | .shield => 0x0A | .glitch => 0x0B | .temperature => 0x0C
  | .selfTest => 0x0D | .fwDigest => 0x0E

/-! ## What is shared with later ticks (R36) -/

/-- Every earlier tick's view is the present state: a start-up runs with what has been committed (R36, R427). -/
def State.shareAll (s : State) : State := { s with hist1 := s.visible, hist2 := s.visible }

/-! ## Tamper detectors (R436) -/

/-- The fault, the event and the latch of a tamper trip (R436, R437, R443). -/
def State.tripped (s : State) (detector : Detector) (c : Cause) : State :=
  ((s.logFault 0x04 (detectorCode detector) Ev.tamper 0 0 []).alarm Ev.tamper 0 (leBytes 1 (detectorCode detector))).cause c

/-- A detector's bit in the enable mask at 0x2F13:00 (R436). -/
def State.detectorOn (s : State) (n : Nat) : Bool := bit (s.seenNum 0x2F13 0) n

/-- The reference has failed (R427 step 2, R436): the internal oscillator takes over. The clock monitor cannot be disabled. -/
def State.loseClock (s : State) : State :=
  ({ s with
    platform := { s.platform with fallbackClock := true }
    hardpan := { s.hardpan with clock := true } }.tripped .clock .clock).event Ev.clockFallback 0 []

/-- Key region items found bad (R436, R487): the functions that need them fail, and cause KEY_STORE is set where the detector is
enabled. -/
def State.keysBad (s : State) (items : List KeyItem) : State :=
  let new := items.filter fun i => !s.hardpan.badItems.contains i
  let t := { s with
    hardpan := { s.hardpan with badItems := s.hardpan.badItems ++ new }
    kaolin := if items.contains .seedCarry then { s.kaolin with carry := none } else s.kaolin }
  if items.isEmpty ∨ !s.detectorOn 3 then t else t.tripped .mram .keyStore

/-- A trip of a detector (R436): glitch excursions are class B faults, the third within 1 s sets the cause. -/
def State.tamperTrip (s : State) : Tamper → State
  | .shield =>
    if s.detectorOn 0 then { s with hardpan := { s.hardpan with shield := true } }.tripped .shield .shield else s
  | .temperature =>
    if s.detectorOn 2 then { s with hardpan := { s.hardpan with temperature := true } }.tripped .temperature .temperature else s
  | .clock => if s.platform.fallbackClock then s else s.loseClock
  | .glitch => if s.detectorOn 1 then s.tripped .glitch .glitch else s
  | .keyStore item =>
    let t := s.keysBad [item]
    if item = .deviceRoot then t.failCipher else t

/-- TAMPER (R436). -/
def execTamper (detector : Tamper) (s : State) : Out := keepLock s (if s.running then s.tamperTrip detector else s)

/-- CLOCK_RESTORED (R436): the reference has been good for 100 ms. -/
def execClockRestored (s : State) : Out :=
  keepLock s (if s.platform.fallbackClock then
      ({ s with
        platform := { s.platform with fallbackClock := false }
        hardpan := { s.hardpan with clock := false } }).event Ev.clockFallback 0 []
    else s)

/-! ## The Hardpan latch (R439, R440) -/

/-- The mesh fault of the shield is present (R438): nothing but the wire itself says when it ends, so its presence at a release is
a free value (log entry 2). -/
def State.meshFault (s : State) : Bool := s.hardpan.shield && Config.freeNat s.free % 2 == 1

/-- The checks of R439 in order; none where the latch is released. -/
def State.releaseFails (s : State) (mask : Nat) : Option Code :=
  if !s.hardpan.set then some Rc.hardpanClear
  else if mask ≠ s.hardpan.causes then some Rc.hardpanCausesChanged
  else if s.activeCauses ≠ 0 then some Rc.hardpanCauseActive
  else none

/-- The latch is released (R439): the mode stays QUARANTINE. -/
def State.clearHardpan (s : State) (mask : Nat) : State :=
  ({ s with hardpan := { s.hardpan with causes := 0, set := false } }).event Ev.hardpanReleased 0 (leBytes 2 mask)

/-- A write to 0x2F12:01 by its own rule (R439; log entry 131). -/
def ownHardpanRelease (value : Bytes) : Own := fun s =>
  if s.signer ≠ some s.exitSigner then (s, Rc.envelopeSigner)
  else
    let t := ({ s with hardpan := { s.hardpan with shield := s.meshFault } }).used 1
    match t.releaseFails (leNat value) with
    | some c => (t.putCode 0x2F12 2 c, c)
    | none => ((t.clearHardpan (leNat value)).putCode 0x2F12 2 Rc.ok, Rc.ok)

/-- HARDPAN_RELEASE (R439). -/
def execHardpanRelease (via : Via) (value : Bytes) (s : State) : Out :=
  keepLock s (s.hostWrite via 0x2F12 1 value (ownHardpanRelease value))

/-- A write to 0x2F11:00 by its own rule (R440; log entry 131). -/
def ownHardpanRequest : Own := fun s =>
  if s.signer ≠ some .owner then (s, Rc.envelopeSigner) else (s.cause .ownerRequest, Rc.ok)

/-- HARDPAN_REQUEST (R440). -/
def execHardpanRequest (via : Via) (value : Bytes) (s : State) : Out :=
  keepLock s (s.hostWrite via 0x2F11 0 value ownHardpanRequest)

/-! ## Resets (R424, R425, R435) -/

/-- AON's own state is lost with its supply (R424, R425): RTC, wake filters, electrodes and the fault records (log entry 123). -/
def State.loseAon (s : State) : State :=
  { s with
    platform := { s.platform with aonRecords := [] }
    power :=
      { s.power with
        rtc := 0, rtcValid := false, alarmFired := false, sources := State.reset.power.sources
        electrodes := State.reset.power.electrodes } }

/-- A supply below its reset threshold (R424, R431): the VIO monitor keeps AON, VBAT and VDD3 keep it above 2.2 V (log entry 120). -/
def State.loseSupply (s : State) (rail : Rail) (aonLost : Bool) : State :=
  if aonLost ∧ rail ≠ .vio then (s.loseAon).resetDie .cold
  else (s.aonRecord (s.faultEntry 0x05 (detectorCode .supply) 0 0 0 [])).resetDie .supply

/-- SUPPLY_RESET (R424). -/
def execSupplyReset (rail : Rail) (aonLost : Bool) (s : State) : Out := resetOnly s (s.loseSupply rail aonLost)

/-- RESET_PIN (R424): pulses shorter than 2 µs are ignored. -/
def execResetPin (lowNs : Nat) (s : State) : Out := resetOnly s (if 2000 ≤ lowNs then s.resetDie .pin else s)

/-- SUPPLY_WARNING (R424). -/
def execSupplyWarning (vbatMv : Nat) (s : State) : Out :=
  keepLock s (if s.running ∧ (5800 ≤ vbatMv ∧ vbatMv ≤ 7000 ∨ 36000 < vbatMv) then s.event Ev.supplyWarning 0 (leBytes 2 vbatMv) else s)

/-- The watchdog's record and reset (R435). -/
def State.watchdog (s : State) : State :=
  ((s.bump 0x2F02 4).aonRecord (s.faultEntry 0x05 (detectorCode .watchdog) 0 0 0 [])).resetDie .watchdog

/-- TICK_WATCHDOG (R435): no tick has committed for 1 ms. -/
def execTickWatchdog (s : State) : Out := resetOnly s (if s.running then s.watchdog else s)

/-! ## Detected faults (R431 to R435, R443) -/

/-- A class B fault (R284, R306, R432, R436, R445): compare failures and glitches have counts of their own (log entries 128 and 129). -/
def State.faultB (s : State) (detector : Detector) (slot engine : Nat) (detail : Bytes) : State :=
  match detector with
  | .aes => if s.cipher.failed then s else s.compareFail slot (detail.headD 0)
  | .signature => if s.sig.failed then s else s.sheMismatch slot
  | .lockstep => (s.bump 0x2F02 2).reexecute 0x01 0 slot engine detail
  | .ecc => (s.bump 0x2F02 3).reexecute 0x02 0 slot engine detail
  | .glitch =>
    let times := s.tick :: s.lastSecond s.platform.glitches
    let t := { s with platform := { s.platform with glitches := if 3 ≤ times.length then [] else times } }
    (if 3 ≤ times.length then t.tamperTrip .glitch else t).reexecute 0x0B 0 slot engine detail
  | d => s.reexecute (detectorCode d) 0 slot engine detail

/-- A class A fault is counted; a corrected bit of MRAM in its region too, which nothing names: a free value (R431, R445, R462;
log entry 2). -/
def State.faultA (s : State) (detector : Detector) : State :=
  let t := s.bump 0x2F02 1
  if detector = .mram then (t.bump 0x5F11 (Config.freeNat t.free % 8 + 1)).used 1 else t

/-- A class C fault (R431, R443): only those of detector 0x03 enter the fault log. A function that runs in a slot fails with it (log entry
127). -/
def State.faultC (s : State) (detector : Detector) (slot engine : Nat) (detail : Bytes) : State :=
  let t := if detector = .mram then s.logFault 0x03 0x03 Rc.hwFault slot engine detail else s
  if (t.slot slot).inFlight then t.finish slot Rc.hwFault else t

/-- A class D fault (R431, R436 to R438): the latch with the detector's cause (log entry 128). -/
def State.faultD (s : State) (detector : Detector) (slot engine : Nat) (detail : Bytes) : State :=
  match detector with
  | .aes => if s.cipher.failed then s else s.failCipher
  | .signature => if s.sig.failed then s else s.failShe
  | .clock => s.tamperTrip .clock
  | .shield => s.tamperTrip .shield
  | .glitch => s.tamperTrip .glitch
  | .temperature => s.tamperTrip .temperature
  | .mram => if s.detectorOn 3 then s.tripped .mram .keyStore else s
  | d => s.logFault 0x04 (detectorCode d) 0 slot engine detail

/-- A class E fault (R431, R435): the main die is reset, by the detector's own kind of start-up (R425; log entry 128). -/
def State.faultE (s : State) (detector : Detector) (slot engine : Nat) (detail : Bytes) : State :=
  match detector with
  | .watchdog => s.watchdog
  | .supply => s.loseSupply .vbat false
  | d => s.fatal (detectorCode d) 0 slot engine detail

/-- The classes the table Safety mechanisms gives a detector (R431); the self-test and the firmware digest have rules of their own (R318,
R430). -/
def detectorClasses : Detector → List FaultClass
  | .lockstep | .evaluators => [.b]
  | .ecc => [.a, .b]
  | .mram => [.a, .c, .d]
  | .aes | .signature | .glitch => [.b, .d]
  | .watchdog | .supply => [.e]
  | .clock | .shield | .temperature => [.d]
  | .selfTest | .fwDigest => []

/-- FAULT_DETECTED (R431): by its class, one the table gives its detector. -/
def execFaultDetected (detector : Detector) (cls : FaultClass) (slot engine : Nat) (detail : Bytes) (s : State) : Out :=
  resetOnly s <|
    if !s.running || !(detectorClasses detector).contains cls then s
    else
      match cls with
      | .a => s.faultA detector
      | .b => s.faultB detector slot engine detail
      | .c => s.faultC detector slot engine detail
      | .d => s.faultD detector slot engine detail
      | .e => s.faultE detector slot engine detail

/-! ## The start-up sequence (R427 to R430) -/

/-- The tick counter resumes from the high-water mark, of whose copies the later one wins, and which moves ahead of it (R34, R427 step 8;
log entries 116 and 122). -/
def State.restoreTick (s : State) : State :=
  let later := (s.tilth.highWaterCopy + (tickModulus - s.tilth.highWater)) % tickModulus < tickModulus / 2
  { s with tilth := { s.tilth with tick := (if later then s.tilth.highWaterCopy else s.tilth.highWater) % tickModulus } }

/-- The RTC has gone on in AON while the main die was down (R418): how far is a free value (log entry 116). -/
def State.clockRuns (s : State) (kind : StartKind) : State :=
  if kind = .cold then s else ({ s with power := { s.power with rtc := s.power.rtc + Config.freeNat s.free } }).used 1

/-- Steps 1 and 2 (R427): a COLD start marks the RTC invalid and finds new electrode baselines; the reference is checked (log entries 121
and 123). -/
def State.startClock (s : State) (kind : StartKind) (i : StartIn) : State :=
  let t := if kind = .cold then
      { s with power :=
        { s.power with rtcValid := false, electrodes := s.power.electrodes.map fun (e : Electrode) => { e with reacquire := 8 } } }
    else s
  if !checksClock kind then t
  else if i.referenceOk then
    { t with platform := { t.platform with fallbackClock := false }, hardpan := { t.hardpan with clock := false } }
  else t.loseClock

/-- A failed self-test (R430): recorded in AON, repeated after 100 ms, halted at the third in a row (log entry 121). -/
def State.bootFails (s : State) (kind : StartKind) (failures : Nat) : State :=
  let t := s.aonRecord (s.faultEntry 0x05 (detectorCode .selfTest) Ev.bootStepFailed 0 0 [])
  { t with platform := { t.platform with boot := if 2 ≤ failures then .halted else .retry kind (failures + 1) } }

/-- The domains of R429: for WAKE the CAN domains its source raises. -/
def State.startDomains (s : State) (kind : StartKind) : List Domain :=
  let can := if kind = .wake then [Domain.canv, .canp].filter fun d => (s.cell d).pending.isSome else [.canv, .canp]
  [.core, .sec, .rns, .brg, .ept] ++ can

/-- Each domain of a list is on. -/
def State.powerOn (s : State) (ds : List Domain) : State :=
  ds.foldl (fun u d => u.setCell d fun _ => DomainCell.reset .on) s

/-- The domains are on, the source and the link start, partners expected, boot-up sent on each port that is on (R320, R326, R341,
R345, R361, R427 steps 8 and 9, R429). -/
def State.bringUp (s : State) (kind : StartKind) : State :=
  let ds := s.startDomains kind
  let t := s.powerOn ds
  let u := { t with platform := { t.platform with boot := .running } }
  let v := (u.startSource).startTraining
  let w := if ds.contains .canv then v.restartPort .v else v
  let x := if ds.contains .canp then w.restartPort .p else w
  (List.range 32).foldl (fun y k => y.restartPartner (k + 1)) x

/-- Step 5 (R451): persistent entries whose copies are both bad take their defaults again. -/
def State.restoreDefaults (s : State) (keys : List Nat) : State :=
  (keys.filter keptEntry).foldl (fun u k => u.put (k / 256) (k % 256) (defaultAt k)) s

/-- Each restored entry is logged (R451). -/
def State.reportDefaults (s : State) (keys : List Nat) : State :=
  (keys.filter keptEntry).foldl (fun u k => u.alarm Ev.dictRestored 0 (leBytes 2 (k / 256) ++ leBytes 1 (k % 256))) s

/-- The copy of UIDSIG_V found bad at an earlier start is restored from its Kaolin file, where that is good (R487; log entry 125). -/
def State.restoreUidSigV (s : State) : State :=
  match s.hardpan.badItems.contains .uidSigV, s.file 0x0102 with
  | true, some v =>
    { s with sig := { s.sig with uidSigV := v }, hardpan := { s.hardpan with badItems := s.hardpan.badItems.filter (· != KeyItem.uidSigV) } }
  | _, _ => s

/-- A Kaolin file whose copies are both bad is rewritten (R256). -/
def State.rewriteLost (s : State) (fid : Nat) (content : Bytes) : State :=
  if s.fileHeld fid && (s.file fid).isNone then s.commitFile fid content else s

/-- Step 5 (R256, R436, R451, R487): key region, dictionary and passport files. A carry that the field found bad is one more bad
item; it is replaced once SK3 delivers. -/
def State.startStore (s : State) (i : StartIn) : State :=
  let a := s.restoreUidSigV
  let items := if a.kaolin.carry.isNone then (i.badItems.filter (· != KeyItem.seedCarry)) ++ [.seedCarry] else i.badItems
  let b := (a.keysBad items).reportDefaults i.badEntries
  let c := (b.rewriteLost 0x0101 identFile).rewriteLost 0x0104 b.sig.chain
  if c.hardpan.badItems.contains .uidSigV then c else c.rewriteLost 0x0102 c.sig.uidSigV

/-- Step 6 (R267, R298, R307): both self-tests of SEC; a slot 0 that fails its check fails the engine. -/
def State.startSec (s : State) (i : StartIn) : State :=
  let t := { s with cipher := { s.cipher with testing := true, lock := some .selfTest }, sig := { s.sig with testing := true } }
  let u := (t.endCipherTest i.cipherOk).endSheTest i.sheOk
  if u.hardpan.badItems.contains .deviceRoot ∧ !u.cipher.failed then u.failCipher else u

/-- A bank whose digest does not match is INVALID (R318; log entry 124). -/
def State.rejectBank (s : State) (b : Nat) : State :=
  ({ s with sig := { s.sig with banks := s.sig.banks.modify b fun (k : Bank) => { k with state := .invalid } } }).alarm Ev.fwBankInvalid 0
    (leBytes 1 b)

/-- The fallback bank becomes active (R317, R318). -/
def State.startFallback (s : State) (b : Nat) : State :=
  { s with sig :=
    { s.sig with activeBank := b, banks := s.sig.banks.modify b fun (k : Bank) => { k with state := .active } } }

/-- The fallback bank may start: VALID, with an SVN not below the stored one (R318). -/
def State.fallbackUsable (s : State) : Bool :=
  match s.sig.banks[s.sig.inactive]? with
  | some k => k.state == .valid && s.sig.svn ≤ k.svn
  | none => false

/-- Step 7 (R318): the active bank, else the fallback bank, else boot recovery (log entry 124). -/
def State.startFirmware (s : State) (i : StartIn) : State × Bool :=
  if i.digestOk && s.sig.bank.state == .active then (s, false)
  else
    let t := s.rejectBank s.sig.activeBank
    let b := t.sig.inactive
    if !t.fallbackUsable then ({ t with sig := { t.sig with recovery := true } }, false)
    else if i.fallbackOk then (t.startFallback b, true)
    else ({ (t.rejectBank b) with sig := { (t.rejectBank b).sig with recovery := true } }, false)

/-- Step 8 (R14): a pending mode record is completed. -/
def State.completePending (s : State) : State × Bool :=
  match s.life.pending with
  | some p => ((s.putCode 0x2001 2 Rc.ok).enterMode p.target, true)
  | none => (s, false)

/-- Step 8 (R20): SERVICE is resumed as DEPOT. -/
def State.resumeService (s : State) : State × Bool :=
  if s.mode = .service then ((s.enterMode .depot).event Ev.serviceResumedAsDepot 0 [], true) else (s, false)

/-- The SIG records missing behind the last METER record (R398): their SEQ and METER record, and how many are there (log entry 112). -/
def Ledger.unsigned (l : Ledger) : Option (Nat × Bytes × Nat) :=
  match l.records with
  | (q, r) :: rest =>
    if byteAt r 0 = 0x01 then some (q, r, 0)
    else if byteAt r 0 = 0x10 then
      match rest with
      | (p, m) :: _ => if byteAt m 0 = 0x01 then some (p, m, 1) else none
      | [] => none
    else none
  | [] => none

/-- Step 8 (R398): a receipt without its SIG records is signed again, before the journal accepts any record of this start; SHE and the
identity key must be good (log entry 112). -/
def State.completeReceipt (s : State) (i : StartIn) : State × Bool :=
  match s.ledger.unsigned with
  | some (q, m, have_) =>
    if !i.sheOk ∨ !s.sig.identity ∨ s.identityBad ∨ i.badItems.contains .identityKey then (s, false)
    else
      let t := s.sheSigned
      ({ t with ledger := ((sigRecords q m).drop have_).foldl Ledger.append t.ledger }, true)
  | none => (s, false)

/-- Step 8 (R398): a broken link of the journal's chain is logged with its SEQ. -/
def State.startJournal (s : State) (broken : Option Nat) : State :=
  match broken with
  | some q => s.alarm Ev.chainBroken 0 (leBytes 4 q)
  | none => s

/-- One field log entry copied as FIELD_SESSION: reader and counts (R262, R264, R441). -/
def State.copyFieldEntry (s : State) (e : Bytes) : State :=
  if allZero e then s else s.logWith Ev.fieldSession 0 (slice e 7 8) true false

/-- Step 8 (R262): new field log entries are copied. -/
def State.copyFieldLog (s : State) : State :=
  let t := (s.kaolin.log.drop (s.kaolin.log.length - s.kaolin.fresh)).foldl State.copyFieldEntry s
  { t with kaolin := { t.kaolin with fresh := 0 } }

/-- An AON record's event (R430, R435): RESET_REPORTED with its EMCY for a watchdog or fatal reset, BOOT_STEP_FAILED for a failed
self-test, nothing for a supply reset (log entry 120). -/
def State.reportRecord (s : State) (r : Bytes) : State :=
  let t := { s with logs := s.logs.enterFault r }
  if byteAt r 1 = 0x0D then t.logWith Ev.bootStepFailed 0 [] true false
  else if byteAt r 1 = 0x08 then t
  else (t.logWith Ev.resetReported 0 (slice r 0 2) true true).raise 0xFF16 Ev.resetReported 0

/-- The records of AON are moved to the fault log (R430, R435). -/
def State.moveRecords (s : State) : State :=
  let t := s.platform.aonRecords.foldl State.reportRecord s
  { t with platform := { t.platform with aonRecords := [] } }

/-- The last-wake record of a COLD or SUPPLY start (R414, R416, R425). -/
def State.supplyReturned (s : State) (kind : StartKind) : State :=
  if kind = .cold ∨ kind = .supply then (s.bump 0x2E11 0x0B).recordWake 0x0B 0 else s

/-- Kind, duration, count and work at 0x2F00, and START_UP (R425, R428, R445). -/
def State.recordStart (s : State) (kind : StartKind) (us work : Nat) : State :=
  let t := { s with platform := { s.platform with starts := counterAfter 0x2F0003 4 s.platform.starts 1 } }
  (((t.putNum 0x2F00 1 (startCode kind)).putNum 0x2F00 2 us).putNum 0x2F00 4 work).event Ev.startUp 0
    (leBytes 1 (startCode kind) ++ leBytes 4 us ++ leBytes 1 work)

/-- What the new start draws and counts afresh: the wake sequence, the carry's refresh, the high-water mark (R34, R102, R261; log entries
80 and 126). -/
def State.freshStart (s : State) : State :=
  let n := s.tickIn 8192
  ({ s with
    badges := { s.badges with ws := s.freshBelow 16 }
    kaolin := { s.kaolin with carryFrom := (s.tick + (tickModulus - 3600 * ticksPerSecond)) % tickModulus }
    tilth := { s.tilth with highWater := n, highWaterCopy := n } }).used 1

/-- The sequence from step 5 on, its self-test passed (R427 to R429; log entries 122 and 124). -/
def State.startSequence (s : State) (kind : StartKind) (failures : Nat) (i : StartIn) : State :=
  let (r, signed) := s.shareAll.completeReceipt i
  let a := (r.restoreDefaults i.badEntries).bringUp kind
  let b := if failures = 0 then a.startClock kind i else a
  let c := (b.startStore i).startSec i
  let (d, fallback) := c.startFirmware i
  let (e, completed) := d.freshStart.completePending
  let (f, resumed) := e.resumeService
  let h := (((f.startJournal i.brokenSeq).copyFieldLog.moveRecords).supplyReturned kind).firstPanel i.panelOpen resumed
  let work := flag completed 0 + flag resumed 1 + flag fallback 2 + flag signed 3
  let k := (h.recordStart kind i.durationUs work).wakingTouch
  k.shareAll

/-- STARTUP (R427): from the reset of the main die to the boot-up message (log entry 121). -/
def execStartup (i : StartIn) (s : State) : Out :=
  keepLock s <|
    match s.platform.boot with
    | .resetting kind failures =>
      let t := s.restoreTick.clockRuns kind
      if i.selfTestOk then t.startSequence kind failures i
      else (if failures = 0 then t.startClock kind i else t).bootFails kind failures
    | _ => s

/-- BOOT_RETRY (R430): 100 ms after the failure. -/
def execBootRetry (s : State) : Out :=
  keepLock s (match s.platform.boot with
    | .retry kind failures => { s with platform := { s.platform with boot := .resetting kind failures } }
    | _ => s)

end Sys2Proof.Machine
end

