-- ==== Sys2Proof/Machine/Tilth.lean ====
section
/-! DEFINITION. Tilth outside the frame tick itself: step timeouts, deadlines, admission, clods, page-ins, engine operations and the
abort path (chapter 02). -/

namespace Sys2Proof.Machine

/-! ## Step timeout and deadlines (R46, R49) -/

/-- An engine's place in the table Step engines, from 1 (R45, R443; log entry 38). -/
def engineNumber : Engine → Nat
  | .lf => 1 | .rf => 2 | .hf => 3 | .kt => 4 | .aes => 5 | .sig => 6 | .rng => 7 | .can => 8 | .brg => 9 | .nvm => 10
  | .cpu => 11

/-- A step unfinished at the end of its fourth body ends its session (R46, R67): the carry count reads 4 at that commit; logged with slot,
kind and the step's engine, with an EMCY for class 0 (log entry 38). -/
def State.stepTimesOut (s : State) (n : Nat) : State :=
  let sl := s.slot n
  match sl.kind with
  | none => s
  | some k =>
    let data := leBytes 1 n ++ leBytes 1 k.code ++ leBytes 1 ((sl.engine.map engineNumber).getD 0)
    let t := s.bump 0x2102 4
    let u := if k.cls = 0 then t.alarm Ev.stepTimeoutLogged n data else t.event Ev.stepTimeoutLogged n data
    (u.finish n Rc.stepTimeout).setSlot n fun sl => if sl.state = .closing then { sl with carry := 4 } else sl

/-- STEP_TIMEOUT (R46). -/
def execStepTimeout (slot : Nat) (s : State) : Out :=
  keepLock s (if (s.slot slot).state = .carried ∧ 3 ≤ (s.slot slot).carry then s.stepTimesOut slot else s)

/-- A step of the session waits to be dispatched (R42, R48). -/
def Slot.awaitsDispatch (sl : Slot) : Bool := sl.state == .ready || sl.state == .admitted || sl.state == .waitingResource

/-- The tick a class 1 step names has gone by without it (R49). -/
def State.missedTick (s : State) (sl : Slot) : Bool :=
  sl.awaitsDispatch && (sl.kind.map (·.cls)) == some 1 && sl.named.any fun t => s.reached t && t != s.tick

/-- DEADLINE_MISSED (R49): retried as a missing reply. -/
def execDeadlineMissed (slot : Nat) (s : State) : Out :=
  keepLock s (if s.missedTick (s.slot slot) then (s.bump 0x2102 5).retryStep slot else s)

/-- The ticks within which a step of a slot is to be dispatched (R49). -/
def State.deadlineOf (s : State) (sl : Slot) : Nat :=
  match sl.kind.map (·.cls) with
  | some 0 => 4
  | some 2 => s.seenNum 0x2106 2
  | _ => s.seenNum 0x2106 1

/-- A class 0 or class 2 step dispatched now is past its deadline (R49). -/
def State.pastDeadline (s : State) (sl : Slot) : Bool :=
  ((sl.kind.map (·.cls)) == some 0 || (sl.kind.map (·.cls)) == some 2) && decide (sl.readyAt + s.deadlineOf sl < s.now)

/-- DEADLINE_LATE (R49): a step was dispatched after its deadline; it still runs, and that is logged once. -/
def execDeadlineLate (slot : Nat) (s : State) : Out :=
  keepLock s <|
    if (s.slot slot).late then
      ((s.setSlot slot fun sl => { sl with late := false }).bump 0x2102 5).event Ev.deadlineLate slot (leBytes 1 slot)
    else s

/-- TICK_HIGH_WATER_UPDATE (R34): both copies. -/
def execTickHighWaterUpdate (s : State) : Out :=
  keepLock s (if s.running ∧ s.reached ((s.tilth.highWater + (tickModulus - 4096)) % tickModulus) then s.pushHighWater else s)

/-! ## Admission (R22, R43) -/

/-- The mode permits a session of a kind with its work, as this head sees the mode (R22, R36, R43 check 1); FACTORY has APPROACH and BADGE
for tests (R22; log entry 147). In boot recovery only an installation's job is admitted (R318; log entry 133). -/
def State.kindPermitted (s : State) (r : Request) : Bool :=
  let m := s.seen.life.mode
  match r.work with
  | .inventory p _ => purposeAllowed m p && !s.sig.recovery
  | .cipher .firmware => m != .retired
  | .cipher .journal => (m == .enrol || m == .repurpose) && !s.sig.recovery
  | _ =>
    !s.sig.recovery &&
      match r.kind with
      | .approach | .badge => m == .factory || m == .depot || m == .enrol || m == .repurpose
      | .passport => m == .enrol || m == .repurpose
      | .receipt => m != .factory && m != .blank && m != .retired
      | _ => true

/-- The kind's limit, for BADGE also the 16 of one APPROACH (R41, R43 check 2). -/
def State.kindFull (s : State) (r : Request) : Bool :=
  r.kind.limit ≤ (s.ofKind r.kind).length
    || (r.kind == .badge && 16 ≤ (s.tilth.find fun sl => sl.inFlight && sl.kind == some .badge && sl.parent == r.parent).length)

/-- Checks 1 to 3 of R43: the code with which the request fails. -/
def State.requestFails (s : State) (r : Request) : Option Code :=
  if !s.kindPermitted r then some Rc.modeForbids
  else if s.kindFull r then some Rc.busy
  else if (r.kind == .approach || r.kind == .badge) && s.gateShut then some Rc.busy
  else none

/-- Checks 4 and 5 of R43: the slot the request is given, none where it waits; a host session that meets a field session waits as well
(R259). -/
def State.placeOf (s : State) (r : Request) : Option Nat :=
  if r.kind == .passport && s.kaolin.field.any (·.active) then none
  else if s.tilth.gateAdmits r.kind && r.kind.initialClods ≤ s.tilth.available r.kind then s.freeSlot r.kind else none

/-- A refusal is counted where it is BUSY or NO_RESOURCE (0x2102:03). -/
def State.countRefused (s : State) (code : Code) : State :=
  if code = Rc.busy ∨ code = Rc.noResource then s.bump 0x2102 3 else s

/-- A host's file write is requested again once its session's admission has timed out; any other refusal ends it (R43, R257, R259). -/
def State.refusePassport (s : State) (code : Code) : State :=
  if code = Rc.noResource ∧ s.kaolin.hostWrite.isSome then (s.requestSession .passport none .passport).1
  else ({ s with kaolin := { s.kaolin with hostWrite := none } }).putCode 0x2820 3 code

/-- A request that fails at admission leaves its kind's result (R43, R101, R108, R231, R257, R292). -/
def State.refuseRequest (s : State) (r : Request) (code : Code) : State :=
  let t := s.countRefused code
  match r.work with
  | .approach a => t.reportApproach 0 a code
  | .inventory _ _ => t.putCode 0x2710 3 code
  | .badge b => t.event Ev.answerDropped b.roundSlot (leBytes 1 b.roundSlot)
  | .passport => t.refusePassport code
  | .cipher c => t.failConsumer c code
  | _ => t

/-- A waiting request leaves the queue. -/
def State.dequeue (s : State) (r : Request) : State :=
  { s with tilth := { s.tilth with waiting := s.tilth.waiting.erase r } }

/-- What a session does first (R42, R102, R110, R223, R257, R292, R397). -/
def State.beginSession (s : State) (n : Nat) (w : Work) : State :=
  match w with
  | .approach _ => s.startApproach n
  | .badge _ => s.startBadge n
  | .inventory p mask => s.startWalk n p mask
  | .cipher _ => s.firstStep n .aes none
  | .passport => s.firstStep n .kt none
  | .receipt _ _ => s.firstStep n .sig none
  | _ => s

/-- A session starts; its slot stays ADMITTED until its first step is dispatched (R42). -/
def State.startSession (s : State) (n : Nat) (w : Work) : State :=
  (s.beginSession n w).setSlot n fun sl => if sl.state = .ready then { sl with state := .admitted } else sl

/-- Waiting requests in class order, then in order of arrival (R43). -/
def Tilth.inTurn (t : Tilth) : List Request :=
  (List.range 4).flatMap fun c => t.waiting.filter fun r => r.kind.cls == c

/-- Requests are tried in turn: those that fail are refused, the first that passes is admitted (R43; log entry 35). -/
def State.tryRequests (s : State) : List Request → State
  | [] => s
  | r :: rest =>
    match s.requestFails r with
    | some code => ((s.dequeue r).refuseRequest r code).tryRequests rest
    | none =>
      match s.placeOf r with
      | some n => (((s.dequeue r).admitAt n r.kind r.work r.parent).startSession n r.work).watermark
      | none => s.tryRequests rest

/-- SESSION_ADMITTED (R43). -/
def execSessionAdmitted (s : State) : Out := keepLock s (if s.running then s.tryRequests s.tilth.inTurn else s)

/-- A request has waited for its kind's admission timeout (R41, R43). -/
def Request.expired (r : Request) (now : Nat) : Bool := r.kind.admission.any fun t => r.arrival + t ≤ now

/-- ADMISSION_TIMEOUT (R43): NO_RESOURCE. -/
def execAdmissionTimeout (s : State) : Out :=
  keepLock s ((s.tilth.inTurn.filter fun r => r.expired s.now).foldl (fun u r => (u.dequeue r).refuseRequest r Rc.noResource) s)

/-! ## Clods (R53) -/

/-- A session asks for further clods: above its kind's maximum it ends with NO_RESOURCE, granted at once where they are free, else
it waits (R53). -/
def State.askClods (s : State) (n want : Nat) : State :=
  match (s.slot n).kind with
  | none => s
  | some k =>
    let e := ((s.slot n).engine.getD .cpu)
    if k.maxClods < (s.slot n).clods + want then s.finish n Rc.noResource
    else if want ≤ s.tilth.available k then
      (s.setSlot n fun sl => { sl with clods := sl.clods + want }).makeReady n e none
    else s.setSlot n fun sl => { sl with state := .waitingResource, wants := want, waitFrom := s.now, carry := 0, named := none }

/-- A session waits for clods (R53). -/
def Slot.waitsClods (sl : Slot) : Bool := sl.state == .waitingResource && sl.wants != 0

/-- CLOD_GRANTED (R53). -/
def execClodGranted (slot : Nat) (s : State) : Out :=
  keepLock s <|
    match (s.slot slot).kind with
    | none => s
    | some k =>
      if (s.slot slot).waitsClods ∧ (s.slot slot).wants ≤ s.tilth.available k then
        ((s.setSlot slot fun sl => { sl with clods := sl.clods + sl.wants, wants := 0 }).makeReady slot
          ((s.slot slot).engine.getD .cpu) none).watermark
      else s

/-- CLOD_WAIT_TIMEOUT (R53). -/
def execClodWaitTimeout (slot : Nat) (s : State) : Out :=
  keepLock s (if (s.slot slot).waitsClods ∧ (s.slot slot).waitFrom + 8 ≤ s.now then s.finish slot Rc.noResource else s)

/-! ## The credential cache (R55 to R58) -/

/-- A slot goes on once its page-in has been committed: the one that asked for it from the next tick, another one a tick later
(R37, R56). -/
def State.pagedIn (s : State) (first n i : Nat) : State :=
  let t := (s.pinOrEnd n i)
  if (t.slot n).state ≠ .waitingResource then t
  else
    (t.makeReady n ((t.slot n).engine.getD .aes) none).setSlot n fun sl => { sl with readyAt := if n = first then s.now else s.now + 1 }

/-- A page-in is committed (R56); a record whose check fails reads as empty and is a class C fault (R457). -/
def State.commitPage (s : State) (p : PageIn) : State :=
  let t := s.readRecord (p.slots.headD 0) p.index
  let u := { t with tilth := { t.tilth with pageIns := t.tilth.pageIns.filter fun q => q.index != p.index } }
  p.slots.foldl (fun v n => v.pagedIn (p.slots.headD 0) n p.index) u

/-- CREDENTIAL_PAGE_IN_DONE (R56). -/
def execCredentialPageInDone (index : Nat) (s : State) : Out :=
  keepLock s <|
    match s.tilth.pageIns.find? fun p => p.index == index with
    | some p => if p.requested < s.now then s.commitPage p else s
    | none => s

/-- The cache at the head of a tick: a copy a host has changed is discarded where no session pins it (R58). -/
def Tilth.dropChanged (t : Tilth) (now : Nat) : List CacheLine :=
  t.cache.filter fun l => !(l.dropAt.any (· ≤ now)) || t.pinned l.index

/-! ## Engine operations (R47, R57) -/

/-- The operation of a slot ends by an event of its own: LF, RF, a frame of a walk, a tag check, the bridge, a random request (R83, R105,
R165, R219, R292, R323, R365). -/
def State.ownEnd (s : State) (n : Nat) : Bool :=
  s.lf.run.any (fun r => r.slot == n) || s.radio.air.any (fun a => a.slot == n) || (s.slot n).fuses
    || ((s.slot n).kind == some .inventory && (s.slot n).engine == some .hf)
    || s.cipher.opens.any (fun o => o.slot == n) || s.bridge.reads.any (fun r => r.slot == n)
    || s.bridge.roomWaits.any (fun w => w.slot == n) || s.rng.instances.any (fun g => g.queue.contains n)

/-- An operation has ended well: a change of a credential is written, an attestation is signed, any other session's next step is ready
(R47, R57, R313). -/
def State.endOperation (s : State) (n : Nat) : State :=
  match (s.slot n).through, (s.slot n).work with
  | some w, _ => s.throughDone n w
  | none, .attestation c => s.attest n c
  | none, _ => s.operationDone n

/-- An operation has failed: it ends its session with the result, a failed write of a credential with HW_FAULT (R47, R57). -/
def State.failOperation (s : State) (n : Nat) (result : Code) : State :=
  match (s.slot n).through with
  | some w => s.throughFails n w
  | none => s.finish n result

/-- ENGINE_OPERATION_END (R47, R57); the signature of a receipt ends well by RECEIPT_WRITE alone (R397). -/
def execEngineOperationEnd (slot : Nat) (result : Code) (s : State) : Out :=
  keepLock s <|
    if (s.slot slot).state = .waitingEngine ∧ !s.ownEnd slot then
      (if result ≠ Rc.ok then s.failOperation slot result else if (s.slot slot).signing then s else s.endOperation slot)
    else s

/-! ## The abort path (R61 to R64) -/

/-- The domain of a function of the table Abort entries; a USDO server's port decides its own. -/
def abortDomain : Nat → Option Domain
  | 1 => some .lfa | 2 => some .rfx | 3 => some .rfx | 4 => some .hfr | 5 => some .fld | 6 => some .sec | 7 => some .sec
  | 8 => some .rns | 11 => some .brg | 12 => some .ept | _ => none

/-- A session that ranges: its sweep or its probes are due (R157 to R163). -/
def Slot.ranges (sl : Slot) : Bool :=
  match sl.work with
  | .badge b => b.phase == .confirmed && b.probes.isNone
  | _ => false

/-- A session's sweep or probes are under way on RF (R158 to R162). -/
def State.onRf (s : State) (sl : Slot) : Bool :=
  match sl.work with
  | .badge b => sl.ranges && b.confirmTick + b.start ≤ s.now
  | _ => false

/-- The sessions that hold or wait for a function's engine (R61, R62; log entry 47). -/
def State.abortSessions (s : State) (fn : Nat) : List Nat :=
  let on := fun e => s.tilth.find fun sl => sl.inFlight && sl.engine == some e
  match fn with
  | 1 => on .lf
  | 2 => s.tilth.find fun sl => sl.inFlight && (sl.engine == some .rf || s.onRf sl)
  | 3 => s.tilth.find fun sl => sl.inFlight && sl.ranges
  | 4 => s.ofKind .inventory
  | 5 => s.ofKind .passport
  | 6 => (s.cipherSessions ++ (match s.cipher.lock with | some (.slot n) => [n] | _ => [])).eraseDups
  | 7 => on .sig
  | 8 => on .rng
  | 9 => s.net.server1.slot.toList
  | 10 => s.net.server2.slot.toList
  | 11 => ((s.bridge.reads.map (·.slot)) ++ (s.bridge.roomWaits.map (·.slot)) ++ on .brg).eraseDups
  | 12 => ((s.bridge.reads.filter fun r => isAux r.addr).map (·.slot)).eraseDups
  | _ => []

/-- Sessions are marked ABORTING, for an abort accepted in an executed tick (R62, R63; log entry 47). -/
def State.markAborting (s : State) (ns : List Nat) (at_ : Nat) : State :=
  ns.foldl (fun u n => u.setSlot n fun sl => if sl.acts then { sl with state := .aborting, endedAt := at_ } else sl) s

/-- The sessions an abort ends (R62, R63). -/
def State.abortTargets (s : State) : AbortTarget → List Nat
  | .fn k => s.abortSessions k
  | .slot n => [n]

/-- In the head of A + 1 the sessions of an abort accepted in tick A are marked (R62). -/
def State.markAborts (s : State) : State :=
  (s.tilth.aborts.filter fun a => a.2 + 1 == s.now).foldl (fun u a => u.markAborting (u.abortTargets a.1) a.2) s

/-- An abort of a target is in progress (R64). -/
def Tilth.abortingOf (t : Tilth) (target : AbortTarget) : Bool := t.aborts.any fun a => a.1 == target

/-- An abort is accepted; a second one completes with the first (R62 to R64). -/
def State.acceptAbort (s : State) (target : AbortTarget) : State :=
  if s.tilth.abortingOf target then s else { s with tilth := { s.tilth with aborts := s.tilth.aborts ++ [(target, s.now)] } }

/-- The engine a function's local reset holds (R61). -/
def abortEngine : Nat → Option Engine
  | 1 => some .lf | 2 => some .rf | 4 => some .hf | 5 => some .kt | 6 => some .aes | 7 => some .sig | 8 => some .rng
  | 11 => some .brg | _ => none

/-- An engine's function is under its local reset, from the head of A + 1 until it is idle: nothing is dispatched to it (R62). -/
def State.underReset (s : State) (e : Engine) : Bool :=
  s.tilth.aborts.any fun a => decide (a.2 < s.now) && match a.1 with | .fn k => abortEngine k == some e | .slot _ => false

/-- A write to 0x2110:fn by its own rule (R61, R62, R64; log entry 47). -/
def ownAbort (fn : Nat) (value : Bytes) : Own := fun s =>
  if leNat value ≠ 1 then (s, Rc.denied) else (s.acceptAbort (.fn fn), Rc.ok)

/-- ABORT_REQUEST (R62). -/
def execAbortRequest (via : Via) (fn : Nat) (value : Bytes) (s : State) : Out :=
  keepLock s (s.hostWrite via 0x2110 fn value (ownAbort fn value))

/-- A write to 0x2111:nn by its own rule (R63, R64): nothing where the slot holds no session. -/
def ownSessionAbort (n : Nat) : Own := fun s => (if (s.slot n).acts then s.acceptAbort (.slot n) else s, Rc.ok)

/-- SESSION_ABORT (R63). -/
def execSessionAbort (via : Via) (slot : Nat) (value : Bytes) (s : State) : Out :=
  keepLock s (s.hostWrite via 0x2111 slot value (ownSessionAbort slot))

/-- The bridge's requests given up: held reads, writes that wait or have not been sent, packets landed and not committed (R61, R369). -/
def State.idleBridge (s : State) : State :=
  { s with bridge :=
    { s.bridge with reads := [], roomWaits := [], landed := [], writes := s.bridge.writes.filter (·.sent.isSome) } }

/-- The auxiliary SPI given up: an outstanding write ends with ABORTED, the prefetch line goes (R61, R371, R372). -/
def State.idleAux (s : State) : State :=
  let lost := s.bridge.writes.filter fun w => w.sent.isSome && isAux w.addr
  (lost.foldl (fun u w => (u.endWrite w.tag).logWriteError w Rc.aborted) s).discardLine 5

/-- Kaolin's host side given up: the shadow writes of the host and of the field, the secured state with its keys (R61, R246). -/
def State.idleKaolin (s : State) : State :=
  let t := { s with kaolin := { s.kaolin.leaveSecured with hostWrite := none } }.dropFieldKeys
  if s.kaolin.hostWrite.isSome then t.putCode 0x2820 3 Rc.aborted else t

/-- The radio given up: nothing on the air, a raw command ended (R61). -/
def State.idleRadio (s : State) : State :=
  let t := { s with radio := { s.radio with air := none, lastAir := s.tick } }
  if t.radio.raw.isSome then t.endRaw Rc.aborted else t

/-- The function is reset to idle (R61). -/
def State.idleFunction (s : State) (fn : Nat) : State :=
  match fn with
  | 1 => s.abortLf
  | 2 => s.idleRadio
  | 5 => s.idleKaolin
  | 6 => { s with cipher := { s.cipher with lock := none, contexts := [], registerWaits := [] } }
  | 9 => if s.net.server1.client.isSome ∨ s.net.server1.slot.isSome then s.endServer .one Rc.aborted else s
  | 10 => if s.net.server2.client.isSome ∨ s.net.server2.slot.isSome then s.endServer .two Rc.aborted else s
  | 11 => s.idleBridge
  | 12 => s.idleAux
  | _ => s

/-- The result and the event of an abort (R62, R67). -/
def State.abortDone (s : State) (fn : Nat) (code : Code) : State :=
  let t := s.putCode 0x2112 fn code
  let data := leBytes 1 fn ++ codeBytes code
  if code = Rc.ok then t.event Ev.abortCompleted 0 data
  else (t.logWith Ev.abortCompleted 0 data false true).raise 0xFF02 code 0

/-- An abort is no longer in progress. -/
def State.dropAbort (s : State) (target : AbortTarget) : State :=
  { s with tilth := { s.tilth with aborts := s.tilth.aborts.filter fun a => a.1 != target } }

/-- The sessions of an abort that are marked end with ABORTED (R62). -/
def State.endAborted (s : State) (ns : List Nat) : State :=
  (ns.filter fun n => (s.slot n).state == .aborting).foldl (fun u n => u.finish n Rc.aborted) s

/-- A function's abort completes (R61, R62): its sessions end with ABORTED. -/
def State.completeFunction (s : State) (fn : Nat) (idle : Bool) : State :=
  let off := (abortDomain fn).any fun d => !s.isOn d
  (((s.endAborted (s.abortSessions fn)).idleFunction fn).dropAbort (.fn fn)).abortDone fn (if idle ∨ off then Rc.ok else Rc.hwFault)

/-- A slot's abort completes (R63). -/
def State.completeSlot (s : State) (n : Nat) : State :=
  ((s.endAborted [n]).dropAbort (.slot n)).event Ev.abortCompleted n (leBytes 1 n ++ codeBytes Rc.aborted)

/-- An abort accepted in an earlier tick, or a session ABORTING since an earlier tick (R62, R63). -/
def State.completable (s : State) (target : AbortTarget) : Bool :=
  (s.tilth.aborts.any fun a => a.1 == target && decide (a.2 < s.now))
    || match target with
       | .fn _ => false
       | .slot n => (s.slot n).state == .aborting && decide ((s.slot n).endedAt < s.now)

/-- ABORT_COMPLETION (R62, R63): from the tick after the acceptance on, whose head marks the sessions first. -/
def execAbortCompletion (target : AbortTarget) (idle : Bool) (s : State) : Out :=
  keepLock s <|
    if s.completable target then
      let t := s.markAborts
      match target with
      | .fn sub => t.completeFunction sub idle
      | .slot n => t.completeSlot n
    else s

end Sys2Proof.Machine
end

