-- ==== Sys2Proof/Machine/Dictionary.lean ====
section
/-! DEFINITION. The dictionary's own writes and reads: the rule each entry's write follows, a credential record's write, the
selectors, the journal's block read and the raw capture (chapters 16 and 17). -/

namespace Sys2Proof.Machine

/-! ## Credential records (R454 to R458) -/

/-- The store index of a record's entry (R454). -/
def storeIndex (idx sub : Nat) : Nat := (idx - 0x3000) * 128 + (sub - 1)

/-- The RIGHTS a kind admits: badges bits 0 and 1, vehicles bits 0 to 2 (R454). -/
def rightsOk (kind rights : Nat) : Bool := if kind = 3 then rights < 8 else rights < 4

/-- The reserved fields of R454 hold 0. -/
def reservedZero (r : Bytes) : Bool :=
  allZero (slice r 10 2) && allZero (slice r 26 2) && allZero (slice r 38 2) && allZero (slice r 45 1) && allZero (slice r 68 44)

/-- Check 1 of R455; CREDID and a badge's ENROLNO hold what the table of R454 says as well (log entry 25). -/
def contentOk (r : Bytes) : Bool :=
  if byteAt r 4 = 0 then allZero r
  else
    byteAt r 4 ≤ 3 && byteAt r 5 ≤ 2 && rightsOk (byteAt r 4) (field r 6 2) && reservedZero r && allZero (slice r 112 16)
      && 1 ≤ field r 0 4 && field r 0 4 ≤ 0xFFFFFFFE && (byteAt r 4 == 3 || field r 8 2 == 0)

/-- The modes that accept vehicle records (R184). -/
def vehicleWrites (m : Mode) : Bool :=
  m == .enrol || m == .transit || m == .bound || m == .depot || m == .service || m == .repurpose

/-- Check 2 of R455 for one of the two records. -/
def recordModeOk (m : Mode) (r : Bytes) : Bool := if byteAt r 4 = 3 then vehicleWrites m else fromEnrolToDormant m

/-- Another store index holds the CREDID (R455 check 3). -/
def State.duplicate (s : State) (i credId : Nat) : Bool := s.credentials.any fun e => e.1 != i && field e.2 0 4 == credId

/-- The checks of R455 in order; none where the record is accepted (log entry 25). -/
def State.recordRefused (s : State) (i : Nat) (r : Bytes) : Option Code :=
  if !contentOk r then some Rc.credentialInvalid
  else if !(recordModeOk s.mode r && recordModeOk s.mode (s.credential i)) then some Rc.modeForbids
  else if byteAt r 4 != 0 && s.duplicate i (field r 0 4) then some Rc.credentialDuplicate
  else none

/-- The fields the controller keeps (R456): those of the same credential stay, with the higher count; otherwise they start at zero. -/
def keptRecord (old r : Bytes) : Bytes :=
  if field old 0 4 = field r 0 4 ∧ byteAt r 4 ≠ 0 then
    setField (setField (setField r 28 (leBytes 4 (max (field r 28 4) (field old 28 4)))) 32 (slice old 32 6)) 40 (slice old 40 12)
  else setField (setField r 32 (zeros 6)) 40 (zeros 12)

/-- What a host's change of a record does to its cached copy and to the sessions that pin it: from the head of N + 2 on (R58). -/
def Tilth.markChanged (t : Tilth) (i now : Nat) : Tilth :=
  { t with
    cache := t.cache.map fun l => if l.index = i then { l with dropAt := some (l.dropAt.getD (now + 2)) } else l
    slots := t.slots.map fun sl => if sl.pins.contains i then { sl with staleFrom := some (sl.staleFrom.getD (now + 2)) } else sl }

/-- An accepted record is committed and logged (R456). -/
def State.commitRecord (s : State) (i : Nat) (r : Bytes) : State :=
  let t := s.putCredential i (withCheck (keptRecord (s.credential i) r))
  ({ t with tilth := t.tilth.markChanged i t.now }).event Ev.credentialWritten 0 (leBytes 2 i ++ leBytes 4 (field r 0 4))

/-- A write to a credential record by its own rule (R455, R456); its result reads at 0x3F02:00 (R458). -/
def ownCredential (idx sub : Nat) (value : Bytes) : Own := fun s =>
  match s.recordRefused (storeIndex idx sub) value with
  | some c => (s.putCode 0x3F02 0 c, c)
  | none => ((s.commitRecord (storeIndex idx sub) value).putCode 0x3F02 0 Rc.ok, Rc.ok)

/-- An index of the credential store. -/
def isCredentialIndex (idx : Nat) : Bool := 0x3000 ≤ idx && idx ≤ 0x301F

/-- CREDENTIAL_RECORD_WRITE (R455). -/
def execCredentialRecordWrite (via : Via) (idx sub : Nat) (value : Bytes) (s : State) : Out :=
  keepLock s (if isCredentialIndex idx then s.hostWrite via idx sub value (ownCredential idx sub value) else s)

/-! ## The rule of every entry's write (R450 step 7) -/

/-- A fleet or pack tag is stored and the sync word computed again (R99). -/
def ownTag (sub : Nat) (value : Bytes) : Own := fun s => ((s.put 0x2300 sub value).computeSync, Rc.ok)

/-- A geometry write is stored and logged (R155). -/
def ownGeometry (idx sub : Nat) (value : Bytes) : Own := fun s => ((s.put idx sub value).event Ev.geometryChanged 0 [], Rc.ok)

/-- The raw command a code at 0x2450:01 names (R149). -/
def rawCode : Nat → Option RawCommand
  | 1 => some .txCw | 2 => some .txPrbs | 3 => some .txPacket | 4 => some .rx | 5 => some .scan | 6 => some .capture | _ => none

/-- A write to 0x2450:01 by its own rule (R149, R151). -/
def ownRawWrite (value : Bytes) : Own :=
  match rawCode (leNat value) with
  | some c => ownRaw c
  | none => ownRawStop

/-- A write to 0x2710:01 by its own rule (R223). -/
def ownInventoryWrite (value : Bytes) : Own :=
  match leNat value with
  | 1 => ownInventory .read
  | 2 => ownInventory .bind
  | _ => ownInventory .check

/-- A message written to a carrier's inbound entry (R191, R192, R196; log entry 27). -/
def ownInbound (via : Via) (idx : Nat) (value : Bytes) : Own := fun s =>
  if idx = 0x2610 then (s.inbound via.port (.usdo via.srv) value, Rc.ok)
  else ((s.put 0x2611 1 value).inbound via.port .pdo value, Rc.ok)

/-- The rules of chapters 01 to 05 (R11 to R63, R86 to R101, R136 to R151). -/
def ownRuleA (key : Nat) (value : Bytes) : Option Own :=
  match key with
  | 0x200101 => some (ownModeRequest value)
  | 0x200103 => some (ownDepotRequest value)
  | 0x202001 => some (ownEnvelope value)
  | 0x202006 => some (ownEnvelopeCancel value)
  | 0x220001 => some (ownLfNominal value)
  | 0x220100 => some (ownLfEnable value)
  | 0x222000 => some (ownLfCalibrate value)
  | 0x230001 => some (ownTag 1 value)
  | 0x230002 => some (ownTag 2 value)
  | 0x231000 => some ownHostApproach
  | 0x242000 => some (ownSynthCalibrate value)
  | 0x245001 => some (ownRawWrite value)
  | 0x250100 => some (ownToneMask value)
  | _ => none

/-- The rules of chapters 08 to 11 (R223 to R329). -/
def ownRuleB (key : Nat) (value : Bytes) : Option Own :=
  match key with
  | 0x271001 => some (ownInventoryWrite value)
  | 0x271203 => some (ownBindingCommit value)
  | 0x280200 => some (ownOwnerUidSignature value)
  | 0x281001 => some (ownPinDigest value)
  | 0x282002 => some (ownHostFileWrite value)
  | 0x291100 => some (ownRootImport value)
  | 0x292000 => some ownCipherSelftest
  | 0x2A0401 => some (ownChain value)
  | 0x2A0402 => some (ownUidSigV value)
  | 0x2A2001 => some (ownAttestation value)
  | 0x2A3101 => some (ownActivate value)
  | 0x2A4006 => some ownRestartSource
  | _ => none

/-- The rules of chapters 12 to 16 (R335 to R440). -/
def ownRuleC (key : Nat) (value : Bytes) : Option Own :=
  match key with
  | 0x2B0303 => some (ownBusOffRecover value)
  | 0x2C5003 => some (ownWindowWrite value)
  | 0x2D1201 => some (ownZeroOffset value)
  | 0x2D4001 => some (ownToken value)
  | 0x2D5100 => some (ownReceiptRequest value)
  | 0x2E0201 => some (ownGroupRequest value)
  | 0x2E1402 => some (ownRtcSet value)
  | 0x2E1404 => some (ownRtcSealed value)
  | 0x2E1500 => some (ownAlarm value)
  | 0x2E4300 => some (ownReacquire value)
  | 0x2F1100 => some ownHardpanRequest
  | 0x2F1201 => some (ownHardpanRelease value)
  | _ => none

/-- The rules of entries that come in ranges of sub-indices or indices. -/
def ownRuleD (via : Via) (idx sub : Nat) (value : Bytes) : Option Own :=
  if isPublicKey idx sub then some (ownPublicKey idx sub value)
  else if isPdoMapping idx then some (ownMapping idx sub value)
  else if isCredentialIndex idx then some (ownCredential idx sub value)
  else if 0x2510 ≤ idx ∧ idx ≤ 0x2513 then some (ownGeometry idx sub value)
  else
    match idx with
    | 0x1016 => some (ownConsumer 0x1016 sub value)
    | 0x2110 => some (ownAbort sub value)
    | 0x2111 => some (ownSessionAbort sub)
    | 0x2203 => some (ownLfFaultClear sub)
    | 0x2610 => some (ownInbound via 0x2610 value)
    | 0x2611 => some (ownInbound via 0x2611 value)
    | 0x2811 => some (ownReaderEntry sub value)
    | 0x2B00 => some (ownNodeId sub value)
    | 0x2B01 => some (ownBitrate sub value)
    | 0x2B40 => some (ownConsumer 0x2B40 sub value)
    | 0x2D10 => some (ownEptanConstant sub value)
    | 0x2E01 => some (ownDomainRequest sub value)
    | _ => none

/-- The rule a write to an entry follows once it has passed steps 1 to 6 of R450; without one of its own it is stored (R451). -/
def ownRule (via : Via) (idx sub : Nat) (value : Bytes) : Own :=
  ((ownRuleA (entryKey idx sub) value).orElse fun _ =>
    (ownRuleB (entryKey idx sub) value).orElse fun _ =>
      (ownRuleC (entryKey idx sub) value).orElse fun _ => ownRuleD via idx sub value).getD (storeValue idx sub value)

/-- A host's write whose value is streamed: an image or an import is taken from its first frames on (R315, R353, R400). -/
def State.streamedWrite (s : State) (via : Via) (idx : Nat) (value : Bytes) : State :=
  if idx = 0x2A30 then s.takeImageHeader via (value.take 558) else s.takeImport via value.length (value.take 32)

/-- A value that is streamed and passes steps 1 to 5 of R450. -/
def State.streams (s : State) (idx sub : Nat) (value : Bytes) : Bool :=
  (entryKey idx sub == 0x2A3001 || entryKey idx sub == 0x2D6001) && (s.writeRefused idx sub value).isNone

/-- DICTIONARY_WRITE (R450). -/
def execDictionaryWrite (via : Via) (idx sub : Nat) (value : Bytes) (s : State) : Out :=
  keepLock s <|
    if s.portServes via.port && s.streams idx sub value then s.streamedWrite via idx value
    else if entryKey idx sub = 0x200101 then (s.reportEnvelope via value).hostWrite via idx sub value (ownRule via idx sub value)
    else if entryKey idx sub = 0x2D4001 then s.tokenWrite via value
    else if entryKey idx sub = 0x2C5003 then s.windowWrite via value
    else if idx = 0x2B01 then s.bitrateWrite via sub value
    else s.hostWrite via idx sub value (ownRule via idx sub value)

/-! ## Selectors (R441, R458, R460) -/

/-- EVENT_SELECT (R441). -/
def execEventSelect (via : Via) (value : Bytes) (s : State) : Out :=
  keepLock s (s.hostWrite via 0x2F20 3 value (storeValue 0x2F20 3 value))

/-- CREDENTIAL_FIND (R458). -/
def execCredentialFind (via : Via) (value : Bytes) (s : State) : Out :=
  keepLock s (s.hostWrite via 0x3F00 1 value (storeValue 0x3F00 1 value))

/-- JOURNAL_SELECT (R460). -/
def execJournalSelect (via : Via) (value : Bytes) (s : State) : Out :=
  keepLock s (s.hostWrite via 0x3800 1 value (storeValue 0x3800 1 value))

/-! ## Block read and raw capture (R460, R461) -/

/-- The record of a SEQ; 64 zero bytes where it is not held (R459, R460). -/
def Ledger.record (l : Ledger) (seq : Nat) : Bytes := (lookup seq l.records).getD (zeros 64)

/-- `count` records from a start on, one per SEQ in order (R460; log entry 32). -/
def Ledger.block (l : Ledger) (start count : Nat) : Bytes := (List.range count).flatMap fun i => l.record (start + i)

/-- A read of 0x3810:03 by its own rule (R460): served from a copy taken at admission (log entry 32). -/
def ownBlockRead : Own := fun s =>
  (s.put 0x3810 3 (s.ledger.block (s.seenNum 0x3810 1) (s.seenNum 0x3810 2)), Rc.ok)

/-- JOURNAL_BLOCK_READ (R460). -/
def execJournalBlockRead (via : Via) (s : State) : Out := keepLock s (s.hostRead via 0x3810 3 ownBlockRead)

/-- A read of 0x5F00 by its own rule (R319, R461): 65,536 raw bits of one cell, in FACTORY alone (log entry 33). -/
def ownRawCapture (sub : Nat) : Own := fun s =>
  if sub = 0 ∨ 2 < sub then (s, Rc.entryUnknown)
  else if s.mode ≠ .factory then (s, Rc.modeForbids)
  else (((s.firstAccess .rns 0).put 0x5F00 sub (s.fresh 8192)).used 8192, Rc.ok)

/-- GRIT_RAW_CAPTURE (R461). -/
def execGritRawCapture (via : Via) (sub : Nat) (s : State) : Out := keepLock s (s.hostRead via 0x5F00 sub (ownRawCapture sub))

end Sys2Proof.Machine
end

