-- ==== Sys2Proof/Machine/View.lean ====
section
/-! DEFINITION. What each dictionary entry reads as: the entries whose value the machine holds in a field of its own, chapter by
chapter, and the stored value of every other one (R39, R449). -/

namespace Sys2Proof.Machine

/-! ## Codes -/

/-- The code of a channel state (R94). -/
def ChannelState.code : ChannelState → Nat
  | .disabled => 0 | .uncalibrated => 1 | .ready => 2 | .detuned => 3 | .faultOpen => 4 | .faultCal => 5
  | .faultOvercurrent => 6 | .faultDetune => 7

/-- The code of a bank state (0x2A32). -/
def BankState.code : BankState → Nat
  | .empty => 0 | .writing => 1 | .valid => 2 | .active => 3 | .invalid => 4

/-- The code of a source state (R325). -/
def SourceState.code : SourceState → Nat
  | .off => 0 | .starting => 1 | .ready => 2 | .restarting => 3 | .latched => 4

/-- The state of an instance (0x2A42). A background reseed takes no time of its own here. -/
def Generator.code (g : Generator) : Nat := if !g.seeded then 0 else if g.spent then 3 else 1

/-- The code of an NMT state (R339). -/
def Nmt.code : Nmt → Nat
  | .initialising => 0x00 | .stopped => 0x04 | .operational => 0x05 | .preOperational => 0x7F

/-- The code of a link state (R361). -/
def LinkState.code : LinkState → Nat
  | .down => 0 | .training => 1 | .up => 2 | .degraded => 3 | .failed => 4

/-- The code of a partner state (R344). -/
def PartnerState.code : PartnerState → Nat
  | .expected => 0 | .present => 1 | .lost => 2

/-- The partner entry layout (R344). -/
def partnerEntry (e : Option Partner) : Bytes :=
  match e with
  | none => [0xFF] ++ zeros 11
  | some p =>
    leBytes 1 (portCode p.port) ++ leBytes 1 p.node ++ leBytes 1 p.state.code
      ++ leBytes 1 (flag p.operational 1 + flag p.configured.isSome 0) ++ leBytes 6 p.last ++ leBytes 2 p.losses

/-- A port's state at 0x2B02 (R335, R336): standby while its domain is in retention; off while it is off. -/
def State.portState (s : State) (pt : Port) : Nat :=
  if s.domain (canDomain pt) = .retention then 1
  else if !s.isOn (canDomain pt) then 0
  else match (s.port pt).bus with | .active => 2 | .passive => 3 | .busOff => 4

/-- A server's state at 0x2B30 (R351 to R353). -/
def UsdoServer.code (v : UsdoServer) : Nat :=
  if v.slot.isSome then (if v.segmented then 2 else 3) else if v.client.isSome then 1 else 0

/-- The engine state at 0x2900:01 (R300). -/
def State.cipherState (s : State) : Nat :=
  if !s.isOn .sec then 0 else if s.cipher.failed then 4 else if s.cipher.testing then 1 else if s.cipher.lock.isNone then 2 else 3

/-- SHE's state at 0x2A00:01. -/
def State.sheState (s : State) : Nat :=
  if !s.isOn .sec then 0 else if s.sig.failed then 4 else if s.sig.testing then 1
  else if (s.onEngine .sig).isEmpty && !s.kaolin.signing then 2 else 3

/-- Major, minor, patch and build of a release, as text (R314, R453). -/
def releaseText (r : Nat) : Bytes :=
  ascii (toString (r % 256) ++ "." ++ toString (r / 256 % 256) ++ "." ++ toString (r / 65536 % 256) ++ "." ++ toString (r / 16777216 % 256))

/-- A number nobody fixes, as the n bytes of an entry no rule of the manual sets (log entry 2). -/
def State.unstated (s : State) (key n : Nat) : Bytes := leBytes n (Config.freeNat (s.free + key))

/-- The bytes of an entry written in FACTORY (log entry 4). -/
def factoryEntry (key n : Nat) : Bytes := bytesOf (Config.factoryEntryByte key) n

/-! ## The entries by chapter -/

/-- Chapters 01 and 02 (R30, R65, R66). -/
def State.viewA (s : State) (idx sub : Nat) : Option Bytes :=
  match idx, sub with
  | 0x2000, 0 => some (leBytes 1 s.mode.code)
  | 0x2002, 1 => some (leBytes 1 s.life.prev.code)
  | 0x2002, 2 => some (leBytes 8 s.life.changeTick)
  | 0x2002, 3 => some (leBytes 4 s.life.changeCount)
  | 0x2002, 4 => some (leBytes 1 ((s.life.dormantReturn.map Mode.code).getD 0))
  | 0x2002, 5 => some (leBytes 1 ((s.life.quarantineReturn.map Mode.code).getD 0))
  | 0x2003, 0 => some (leBytes 2 s.enrolment)
  | 0x2020, 3 => some (s.sealing.nonce.getD (zeros 16))
  | 0x2020, 4 => some (leBytes 1 ((s.sealing.active.map fun e => (e.items.filter fun i => !i.used).length).getD 0))
  | 0x2020, 5 => some (leBytes 8 ((s.sealing.active.map (·.expiry)).getD 0))
  | 0x2100, 0 => some (leBytes 8 s.tick)
  | 0x2102, 1 => some (leBytes 1 (s.tilth.find fun sl => sl.state != .free).length)
  | 0x2103, 1 => some (leBytes 2 (512 - s.tilth.clodsHeld))
  | 0x2104, 3 => some (leBytes 2 (s.tilth.cache.filter fun l => s.tilth.pinned l.index).length)
  | 0x2120, n => some (leBytes 4 (s.slot n).status)
  | 0x2122, n => some (codeBytes (s.slot n).result)
  | _, _ => none

/-- Chapters 03 to 06 (R96, R123, R152). -/
def State.viewB (s : State) (idx sub : Nat) : Option Bytes :=
  match idx, sub with
  | 0x2202, n => some (leBytes 1 (s.channel (n - 1)).state.code)
  | 0x2204, n => some (leBytes 1 (s.channel (n - 1)).ceiling)
  | 0x2231, n => some (leBytes 2 ((s.channel (n - 1)).budget / 900000))
  | 0x2400, 1 => some (leBytes 1 s.radioState)
  | 0x2405, n => some (factoryEntry (entryKey 0x2405 n) 17)
  | 0x2421, 3 => some (intBytes 2 s.radio.synth.temp)
  | 0x2421, 4 => some (leBytes 1 s.synthStatus)
  | 0x2430, 5 => some (leBytes 1 s.radio.cxMask.code)
  | 0x2504, n => some (chainTable (n - 1))
  | _, _ => none

/-- Chapters 07 to 09 (R209, R210, R232, R263). -/
def State.viewC (s : State) (idx sub : Nat) : Option Bytes :=
  match idx, sub with
  | 0x2600, 1 => some (leBytes 1 s.lockState)
  | 0x2600, 2 => some (leBytes 8 s.lock.changeTick)
  | 0x2600, 3 => some (leBytes 1 s.lock.cause)
  | 0x2600, 4 => some (leBytes 4 s.lock.credential)
  | 0x2651, 1 => some (leBytes 1 s.vehicle.panel.code)
  | 0x2700, 1 => some (leBytes 1 s.readerState)
  | 0x2740, n => some (((s.inv.bindings[n - 1]?).map Binding.entry).getD (zeros 24))
  | 0x2741, n => some (((s.inv.results[n - 1]?).map Tag.entry).getD (zeros 32))
  | 0x2742, 0 => some (leBytes 1 s.inv.results.length)
  | 0x2800, 1 => some (leBytes 1 s.kaolinState)
  | 0x2800, 2 => some (leBytes 1 s.powerSource)
  | 0x2800, 3 => some (leBytes 2 s.kaolin.power)
  | 0x2800, 4 => some (leBytes 2 s.kaolin.reservoir)
  | 0x2801, 1 => some uid
  | 0x2810, 3 => some (leBytes 1 s.kaolin.pinTries)
  | 0x2812, n => some (leBytes 1 (s.kaolin.failures.getD (n - 1) 0))
  | 0x2820, 4 => some ((s.fieldFile (s.num 0x2820 1)).getD [])
  | 0x2820, 5 => some (leBytes 2 ((s.fieldFile (s.num 0x2820 1)).getD []).length)
  | 0x2823, n => some (s.kaolin.log.getD (n - 1) (zeros 32))
  | 0x2824, 0 => some (leBytes 4 s.kaolin.carryCount)
  | _, _ => none

/-- Chapters 10 and 11 (R301, R330). -/
def State.viewD (s : State) (idx sub : Nat) : Option Bytes :=
  match idx, sub with
  | 0x2900, 1 => some (leBytes 1 s.cipherState)
  | 0x2901, 0 => some (leBytes 4 s.lockRegister)
  | 0x2902, 1 => some (leBytes 1 s.cipher.contexts.length)
  | 0x2903, 1 => some (leBytes 1 s.cipher.registers.length)
  | 0x2904, 1 => some (leBytes 1 s.cipher.siltFree)
  | 0x2904, 3 => some (leBytes 1 (16 - (s.cipher.opens.map (·.annex)).sum))
  | 0x2910, n => some (leBytes 1 (if s.hasRoot (n - 1) then 1 else 0))
  | 0x2A00, 1 => some (leBytes 1 s.sheState)
  | 0x2A01, 0 => some identityKey
  | 0x2A02, 0 => some s.sig.chain
  | 0x2A03, 0 => some (bytesOf Config.darithRootByte 57)
  | 0x2A32, n => some (leBytes 1 (((s.sig.banks[n - 1]?).map (·.state.code)).getD 0))
  | 0x2A33, n => some (leBytes 4 (((s.sig.banks[n - 1]?).map (·.release)).getD 0))
  | 0x2A34, n => some (padTo 16 (((s.sig.banks[n - 1]?).map (·.imageId)).getD []))
  | 0x2A35, 0 => some (leBytes 4 s.sig.svn)
  | 0x2A36, 0 => some (leBytes 1 s.sig.activeBank)
  | 0x2A40, 1 => some (leBytes 1 s.rng.source.code)
  | 0x2A40, 2 => some (leBytes 1 s.rng.failures)
  | 0x2A40, 7 => some (leBytes 1 s.rng.pool)
  | 0x2A42, n => some (leBytes 1 (((s.instance? n).map Generator.code).getD 0))
  | 0x2A43, n => some (leBytes 4 (((s.instance? n).map (·.calls)).getD 0))
  | _, _ => none

/-- Chapters 12 and 13 (R358, R374). Frame, error and back-off counts are kept by the bus and link hardware: what they read is not
fixed by any command (log entry 2). -/
def State.viewE (s : State) (idx sub : Nat) : Option Bytes :=
  match idx, sub with
  | 0x2B00, 1 => some (leBytes 1 (s.nodeSet .v))
  | 0x2B00, 2 => some (leBytes 1 (s.nodeSet .p))
  | 0x2B02, 1 => some (leBytes 1 (s.portState .v))
  | 0x2B02, 2 => some (leBytes 1 (s.portState .p))
  | 0x2B02, 3 => some (leBytes 1 s.net.portV.nmt.code)
  | 0x2B02, 4 => some (leBytes 1 s.net.portP.nmt.code)
  | 0x2B30, 3 => some (leBytes 1 s.net.server1.code)
  | 0x2B30, 4 => some (leBytes 1 s.net.server2.code)
  | 0x2B32, 5 => none
  | 0x2B32, n => some (s.unstated (entryKey 0x2B32 n) 4)
  | 0x2B33, n => some (s.unstated (entryKey 0x2B33 n) 1)
  | 0x2B41, n => some (partnerEntry (s.partner n))
  | 0x2B43, 0 => some (leBytes 1 (partnerNumbers.filter fun n => (s.partner n).any fun p => p.state == .present).length)
  | 0x2C00, 1 => some (leBytes 1 s.bridge.link.code)
  | 0x2C00, 2 => some (leBytes 1 s.bridge.lanes)
  | 0x2C00, 5 => some (s.unstated 0x2C0005 4)
  | 0x2C01, 2 => some (leBytes 1 (s.bridge.writes.filter (·.sent.isSome)).length)
  | 0x2C02, 1 => some (leBytes 4 s.bridge.committedSeq)
  | _, _ => none

/-- Chapters 14 and 15 (R401, R422). -/
def State.viewF (s : State) (idx sub : Nat) : Option Bytes :=
  match idx, sub with
  | 0x2D11, 0 => some (bytesOf Config.eptanConstantByte 64)
  | 0x2D20, 1 => some (leBytes 8 (s.ledger.charge / 1000))
  | 0x2D20, 2 => some (leBytes 8 (s.ledger.discharge / 1000))
  | 0x2D42, 1 => some (intBytes 8 s.ledger.credit)
  | 0x2D42, 2 => some (leBytes 1 s.ledger.state.code)
  | 0x2D42, 3 => some (leBytes 4 s.ledger.graceEnergy)
  | 0x2D42, 4 => some (leBytes 4 s.ledger.graceTime)
  | 0x2D42, 5 => some (leBytes 4 (s.ledger.graceTicks / ticksPerSecond))
  | 0x2D42, 6 => some (leBytes 8 s.ledger.serial)
  | 0x2D42, 7 => some (intBytes 8 s.ledger.held)
  | 0x2D52, 0 => some s.ledger.latestReceipt
  | 0x2D53, 2 => some (leBytes 4 s.ledger.nextSeq)
  | 0x2D53, 3 => some (leBytes 4 s.ledger.ackSeq)
  | 0x2D53, 4 => some (leBytes 2 s.ledger.free)
  | 0x2D53, 5 => some (leBytes 1 s.journalNow)
  | 0x2D60, 3 => some (leBytes 4 s.ledger.importSeq)
  | 0x2E00, n => some (leBytes 1 (((domainOf (n - 1)).map fun d => (s.domain d).code).getD 0))
  | 0x2E03, n => some (leBytes 4 (((domainOf (n - 1)).map fun d => (s.cell d).record).getD 0))
  | 0x2E04, n => some (leBytes 1 (((domainOf (n - 1)).bind fun d => (s.cell d).pending).getD 0xFF))
  | 0x2E14, 1 => some (leBytes 4 s.rtcSeconds)
  | 0x2E14, 3 => some (leBytes 1 (if s.power.rtcValid then 1 else 0))
  | 0x2E31, n => some (leBytes 1 (s.wakeSource n).mask.code)
  | 0x2E51, 1 => some (leBytes 2 (s.power.thermal / 40000))
  | 0x2E51, 2 => some (intBytes 2 s.power.die)
  | _, _ => none

/-- The journal record at a position; all zeros where none has been written (R459). -/
def Ledger.atPosition (l : Ledger) (p : Nat) : Bytes := ((l.records.find? fun e => e.1 % 32768 == p).map (·.2)).getD (zeros 64)

/-- Chapters 16 and 17 (R445, R453, R462). -/
def State.viewG (s : State) (idx sub : Nat) : Option Bytes :=
  match idx, sub with
  | 0x2F00, 3 => some (leBytes 4 s.platform.starts)
  | 0x2F01, 0 => some (leBytes 4 s.outstanding)
  | 0x2F03, n => some (s.unstated (entryKey 0x2F03 n) 2)
  | 0x2F10, 1 => some (leBytes 1 (if s.hardpan.set then 1 else 0))
  | 0x2F10, 2 => some (leBytes 2 s.hardpan.causes)
  | 0x2F10, 3 => some (leBytes 2 s.activeCauses)
  | 0x2F10, 4 => some (leBytes 8 s.hardpan.tick)
  | 0x2F20, 1 => some (leBytes 4 s.logs.nextEvent)
  | 0x2F20, 2 => some (leBytes 4 ((s.logs.events.getLast?.map (·.1)).getD 0))
  | 0x2F20, 4 => some ((lookup (s.num 0x2F20 3) s.logs.events).getD (zeros 32))
  | 0x2F30, n => some ((lookup n s.logs.faults).getD (zeros 32))
  | 0x2F31, 0 => some (leBytes 1 s.logs.nextFault)
  | 0x100A, 0 => some (releaseText (s.sig.bank.release))
  | 0x1018, n => some (leBytes 4 (s.lssPart (n - 1)))
  | 0x3800, 2 => some (s.ledger.record (s.num 0x3800 1))
  | 0x3F00, 2 => some (leBytes 2 ((findCredential s.credentials (s.num 0x3F00 1)).getD 0xFFFF))
  | 0x3F01, 0 => some (leBytes 2 s.credentials.length)
  | 0x5F10, n => some (s.unstated (entryKey 0x5F10 n) 4)
  | 0x5F21, 0 => some (s.unstated 0x5F2100 2)
  | _, _ => none

/-- What an entry that exists reads as, of every class but wo (R39, R449; log entry 30). -/
def State.entryValue (s : State) (idx sub : Nat) : Bytes :=
  if isCredentialIndex idx then s.credential (storeIndex idx sub)
  else if 0x3400 ≤ idx ∧ idx ≤ 0x34FF then s.ledger.atPosition ((idx - 0x3400) * 128 + (sub - 1))
  else
    ((s.viewA idx sub).orElse fun _ => (s.viewB idx sub).orElse fun _ => (s.viewC idx sub).orElse fun _ =>
      (s.viewD idx sub).orElse fun _ => (s.viewE idx sub).orElse fun _ => (s.viewF idx sub).orElse fun _ => s.viewG idx sub).getD
      (s.bytes idx sub)

/-- The outbound message of a server as committed (R191; log entry 30). -/
def State.outbound (s : State) (v : Srv) : Bytes :=
  s.presented v (match v with | .one => s.vehicle.out1 | .two => s.vehicle.out2)

/-- What a simple read returns: the value as committed two ticks ago (R39); at 0x2610:02 the message of the reader's own server (R191). -/
def State.readValue (s : State) (v : Srv) (idx sub : Nat) : Bytes :=
  if entryKey idx sub = 0x261002 then s.asSeen.outbound v else s.asSeen.entryValue idx sub

end Sys2Proof.Machine
end

