-- ==== Sys2Proof/Machine/Pdo.lean ====
section
/-! DEFINITION. Process data: an RPDO applied as one write, event-driven and synchronous TPDOs, and what a port transmits in its
CAN step (R347 to R350). -/

namespace Sys2Proof.Machine

/-! ## RPDOs (R348) -/

/-- One mapped value: index, sub-index, and its bytes. -/
structure MappedWrite where
  idx : Nat
  sub : Nat
  value : Bytes
  deriving DecidableEq, Repr

/-- A payload cut along a mapping; an empty mapping slot takes no bytes. -/
def cutPayload (payload : Bytes) : List Nat → List MappedWrite
  | [] => []
  | m :: ms =>
    if m = 0 then cutPayload payload ms
    else
      { idx := mappedIdx m, sub := mappedSub m, value := payload.take (mappedLen m) } :: cutPayload (payload.drop (mappedLen m)) ms

/-- The write of a mapped value does not pass: its range, or the current mode, refuses it (R348; log entry 26). -/
def State.mappedRefuses (s : State) (via : Via) (w : MappedWrite) : Bool :=
  (s.writeRefused w.idx w.sub w.value).isSome || (ownRule via w.idx w.sub w.value s).2 == Rc.modeForbids

/-- The first mapped value that is missing bytes, or is refused (log entry 26). -/
def State.failingWrite (s : State) (via : Via) (short : Bool) (ms : List Nat) (ws : List MappedWrite) : Option MappedWrite :=
  if short then (ws.zip (ms.filter (· != 0))).findSome? fun e => if e.1.value.length < mappedLen e.2 then some e.1 else none
  else ws.find? (s.mappedRefuses via)

/-- The data of RPDO_DISCARDED: the PDO's number and the failing entry (R348). -/
def discardData (n : Nat) (w : MappedWrite) : Bytes := leBytes 1 n ++ leBytes 2 w.idx ++ leBytes 1 w.sub

/-- A valid RPDO: all its values are written, or none (R348; log entry 26). -/
def State.applyRpdo (s : State) (pt : Port) (n : Nat) (payload : Bytes) : State :=
  let via : Via := { port := pt, srv := .one }
  let ms := s.mapped (0x1600 + (n - 1))
  let ws := cutPayload payload ms
  let short := payload.length < mappingBytes ms
  match s.failingWrite via short ms ws with
  | some w =>
    if short then s.alarmAs 0x8210 Ev.rpdoDiscarded 0 (discardData n w) else s.event Ev.rpdoDiscarded 0 (discardData n w)
  | none => ws.foldl (fun u w => (ownRule via w.idx w.sub w.value u).1) s

/-- An RPDO is taken on a port that is on and operational, where it is valid and belongs to that port (R339, R347, R348). -/
def State.rpdoTaken (s : State) (pt : Port) (n : Nat) : Bool :=
  s.portHears pt && (s.port pt).nmt == .operational && 1 ≤ n && n ≤ 16 && s.pdoValid (0x1400 + (n - 1))
    && s.seenNum 0x2B10 n == portCode pt

/-- RPDO_RECEIVED (R348). -/
def execRpdoReceived (pt : Port) (num : Nat) (payload : Bytes) (s : State) : Out :=
  keepLock s (if s.rpdoTaken pt num then s.applyRpdo pt num payload else s)

/-! ## TPDOs (R349) -/

/-- The payload of a TPDO from the committed values (R347, R349; log entry 29). -/
def State.tpdoPayload (s : State) (n : Nat) : Bytes :=
  (s.mapped (0x1A00 + (n - 1))).flatMap fun m => if m = 0 then [] else padTo (mappedLen m) (s.entryValue (mappedIdx m) (mappedSub m))

/-- A TPDO queued on a port: it replaces an instance of its own that is still unsent (R349). -/
def CanPort.queueTpdo (p : CanPort) (n : Nat) (payload : Bytes) : CanPort :=
  { p with tpdos := (p.tpdos.filter fun e => e.1 != n) ++ [(n, payload)] }

/-- A port queues a TPDO: one of its ports, in operational, on or in retention (R336, R339, R347). -/
def State.tpdoPort (s : State) (n : Nat) (pt : Port) : Bool :=
  s.tpdoOn n pt && (s.port pt).nmt == .operational && (s.isOn (canDomain pt) || s.domain (canDomain pt) == .retention)

/-- A TPDO queued on each of its ports (log entry 29). -/
def State.queueTpdo (s : State) (n : Nat) : State :=
  let payload := s.tpdoPayload n
  let t := if s.tpdoPort n .v then s.setPort .v fun p => p.queueTpdo n payload else s
  if s.tpdoPort n .p then t.setPort .p fun p => p.queueTpdo n payload else t

/-- The transmission type of a TPDO (CiA 1301). -/
def State.tpdoType (s : State) (n : Nat) : Nat := s.num (0x1800 + (n - 1)) 2

/-- A valid TPDO. -/
def State.tpdoValid (s : State) (n : Nat) : Bool := 1 ≤ n && n ≤ 16 && s.pdoValid (0x1800 + (n - 1))

/-- TPDO_TRIGGER (R349): of an event-driven TPDO, types 0xFE and 0xFF. -/
def execTpdoTrigger (num : Nat) (s : State) : Out :=
  keepLock s (if s.running && s.tpdoValid num && 0xFE ≤ s.tpdoType num then s.queueTpdo num else s)

/-- The number of SYNCs counted for a TPDO; none while it waits for its SYNC start value. -/
def State.syncCount (s : State) (n : Nat) : Option Nat := (s.net.syncCounts.find? fun e => e.1 == n).map (·.2)

/-- The count of a TPDO noted. -/
def State.setSyncCount (s : State) (n c : Nat) : State :=
  { s with net := { s.net with syncCounts := (s.net.syncCounts.filter fun e => e.1 != n) ++ [(n, c)] } }

/-- A SYNC's counter starts the count of a TPDO: it has no start value, or the counter carries it (CiA 1301; log entry 8). -/
def State.syncStarts (s : State) (n : Nat) (counter : Option Nat) : Bool :=
  s.num (0x1800 + (n - 1)) 6 == 0 || s.seenNum 0x1019 0 == 0 || counter == some (s.num (0x1800 + (n - 1)) 6)

/-- A SYNC counts for one synchronous TPDO; when its count is due it is queued (R349; log entry 28). -/
def State.syncTpdo (s : State) (n : Nat) : State :=
  let c := (s.syncCount n).getD 0 + 1
  if s.tpdoType n ≤ c then (s.setSyncCount n 0).queueTpdo n else s.setSyncCount n c

/-- A TPDO that a SYNC on a port counts for: valid, synchronous, sent on that port, and started (log entry 28). -/
def State.syncCounted (s : State) (pt : Port) (counter : Option Nat) (n : Nat) : Bool :=
  s.tpdoValid n && s.tpdoType n ≤ 240 && s.tpdoPort n pt && ((s.syncCount n).isSome || s.syncStarts n counter)

/-- SYNC_RECEIVED (R349). -/
def execSyncReceived (pt : Port) (counter : Option Nat) (s : State) : Out :=
  keepLock s <|
    if s.portHears pt && (s.port pt).nmt == .operational then
      (((List.range 16).map (· + 1)).filter (s.syncCounted pt counter)).foldl (fun u n => u.syncTpdo n) s
    else s

/-! ## The CAN step (R335, R339, R349, R350) -/

/-- A port may transmit EMCY messages: on, not bus-off, pre-operational or operational (R335, R339, R350; log entry 48). -/
def State.mayTransmit (s : State) (pt : Port) : Bool :=
  s.portHears pt && ((s.port pt).nmt == .operational || (s.port pt).nmt == .preOperational)

/-- Ticks of an inhibit time in units of 100 µs. -/
def inhibitTicks (n : Nat) : Nat := n * 4

/-- The oldest EMCY message of a port goes out once the inhibit time has passed since the last one (R350; log entry 48). -/
def State.sendEmcy (s : State) (pt : Port) : State :=
  let p := s.port pt
  match p.emcy with
  | [] => s
  | e :: rest =>
    if s.mayTransmit pt && (p.lastSent.isEmpty || inhibitTicks (s.seenNum 0x1015 0) ≤ s.sinceTick p.emcyFrom) then
      s.setPort pt fun q =>
        { q with emcy := rest, overflow := q.overflow && 16 ≤ rest.length, lastSent := (e :: q.lastSent).take 4, emcyFrom := s.tick }
    else s

/-- The tick from which a TPDO's inhibit time counts, if it has been sent before (log entry 48). -/
def State.inhibitFrom (s : State) (n : Nat) : Option Tick := (s.net.inhibit.find? fun e => e.1 == n).map (·.2)

/-- A queued TPDO may go out now (R349). -/
def State.tpdoDue (s : State) (n : Nat) : Bool :=
  match s.inhibitFrom n with
  | none => true
  | some t => inhibitTicks (s.num (0x1800 + (n - 1)) 3) ≤ s.sinceTick t

/-- The queued TPDOs of a port that go out now (R339, R349). -/
def State.dueTpdos (s : State) (pt : Port) : List Nat :=
  if s.portHears pt && (s.port pt).nmt == .operational then ((s.port pt).tpdos.map (·.1)).filter s.tpdoDue else []

/-- A port's TPDOs that have gone out leave its queue, and their inhibit times begin (R349). -/
def State.dropTpdos (s : State) (pt : Port) (due : List Nat) : State :=
  let t := s.setPort pt fun p => { p with tpdos := p.tpdos.filter fun e => !due.contains e.1 }
  { t with net := { t.net with inhibit := (t.net.inhibit.filter fun e => !due.contains e.1) ++ due.map fun n => (n, t.tick) } }

/-- What the CAN step of a tick transmits. -/
def State.canStep (s : State) : State :=
  let t := (s.sendEmcy .v).sendEmcy .p
  (t.dropTpdos .v (t.dueTpdos .v)).dropTpdos .p (t.dueTpdos .p)

end Sys2Proof.Machine
end

