-- ==== Sys2Proof/Machine/Steps.lean ====
section
/-! DEFINITION. The head and the body of a frame tick: which slots go on, how engines are granted, and what a step begins and leaves
(R35, R42 to R58, R78, R138 to R147, R265 to R280). -/

namespace Sys2Proof.Machine

/-! ## Slots and cache at the head (R42, R48, R58, R273) -/

/-- A CLOSING slot is FREE from the head of the second tick after; its result stays readable (R42). A carry count of 4 shows in the commit
of a step timeout alone (R46). -/
def Slot.reopen (sl : Slot) (now : Nat) : Slot :=
  if sl.state = .closing ∧ sl.endedAt + 2 ≤ now then { Slot.empty with result := sl.result }
  else if sl.state = .closing ∧ sl.endedAt < now then { sl with carry := 0 }
  else sl

/-- Cached copies that become stale in this head: pinned, and changed two ticks ago (R58). -/
def Tilth.newlyStale (t : Tilth) (now : Nat) : Nat := (t.cache.filter fun l => l.dropAt == some now && t.pinned l.index).length

/-- What the head finds of slots and cache, with the sessions an abort marks in it (R42, R58, R62). -/
def State.openHead (s : State) : State :=
  let t := s.count 0x2104 4 (s.tilth.newlyStale s.now)
  let u : State := { t with tilth :=
    { t.tilth with slots := t.tilth.slots.map fun (sl : Slot) => sl.reopen t.now, cache := t.tilth.dropChanged t.now } }
  u.markAborts

/-- A domain is on as this head sees it: it has reported ready two ticks ago, and has not left on since (R36, R48). -/
def State.powered (s : State) (d : Domain) : Bool :=
  s.isOn d && (s.seen.power.domains.any fun e => e.1 == d && e.2.state == .on)

/-- The domain of the engine of a slot's step: on CAN that of its port (R45). -/
def State.stepDomain (s : State) (n : Nat) (e : Engine) : Domain :=
  if e = .can then ((s.slotPort (s.slot n)).map canDomain).getD .canv else engineDomain e

/-- The domain of a slot's step is on (R45, R48). -/
def State.engineOn (s : State) (n : Nat) (e : Engine) : Bool := s.powered (s.stepDomain n e)

/-- A slot in WAITING_RESOURCE waits for its engine's domain, and for nothing else (R48); a held read waits for the end of the link's
training as well (R361). -/
def State.waitsDomain (s : State) (n : Nat) : Bool :=
  (s.slot n).state == .waitingResource && (s.slot n).wants == 0 && !(s.tilth.pageIns.any fun p => p.slots.contains n)
    && !(s.bridge.roomWaits.any fun w => w.slot == n) && !(s.cipher.registerWaits.any fun w => w.1 == n)
    && ((s.heldRead n).isNone || s.bridge.link != .training)

/-- A slot whose domain has come on, or that a key register has come free for, is READY again (R48, R273). -/
def State.wakeSlot (s : State) (n : Nat) : State :=
  if s.waitsDomain n && ((s.slot n).engine.any (s.engineOn n)) then s.setSlot n fun sl => { sl with state := .ready }
  else if (s.slot n).state == .waitingResource && (s.cipher.registerWaits.any fun w => w.1 == n) && s.cipher.freeRegister.isSome then
    ({ s with cipher := { s.cipher with registerWaits := s.cipher.registerWaits.filter fun w => w.1 != n } }).makeReady n .aes none
  else s

/-- Numbers of all slots. -/
def slotNumbers : List Nat := (List.range 64).map (· + 1)

/-- Waiting slots that can go on. -/
def State.wakeSlots (s : State) : State := (s.tilth.find fun sl => sl.state == .waitingResource).foldl State.wakeSlot s

/-! ## Grants and dispatch (R45, R48 to R51, R275 to R280) -/

/-- The session has a step to be dispatched: READY, or its first step in ADMITTED (R42); a receipt's waits for its fold (R397). -/
def Slot.hasStep (sl : Slot) : Bool := (sl.state == .ready || (sl.state == .admitted && sl.engine.isSome)) && !sl.unfolded

/-- A step can be dispatched in this tick: carried, or READY since an earlier tick and in the tick it names (R46, R49; log entry 36). -/
def State.dispatchable (s : State) (sl : Slot) : Bool :=
  sl.state == .carried || (sl.hasStep && sl.readyAt < s.now && sl.named.all (· == s.tick))

/-- The rank of a slot in the order of R50; a class 3 step past its deadline counts as class 2 (R49). -/
def State.rank (s : State) (sl : Slot) : Nat :=
  if sl.state = .carried then 0
  else
    match sl.kind.map (·.cls) with
    | some 3 => if sl.readyAt + s.deadlineOf sl < s.now then 3 else 4
    | some c => c + 1
    | none => 5

/-- The tick by which a step is due (R49): a named one in the tick it names. -/
def State.dueBy (s : State) (sl : Slot) : Nat :=
  match sl.kind.map (·.cls) with
  | some 1 => if sl.named.isSome then s.now else sl.readyAt
  | _ => sl.readyAt + s.deadlineOf sl

/-- A slot goes before another: rank, then deadline, then number (R50). -/
def State.goesFirst (s : State) (a b : Nat) : Bool :=
  let x := s.slot a
  let y := s.slot b
  s.rank x < s.rank y || (s.rank x == s.rank y && (s.dueBy x < s.dueBy y || (s.dueBy x == s.dueBy y && a ≤ b)))

/-- A slot put into the order of R50. -/
def State.insertSlot (s : State) (n : Nat) : List Nat → List Nat
  | [] => [n]
  | m :: l => if s.goesFirst n m then n :: m :: l else m :: s.insertSlot n l

/-- The slots with a step to dispatch, in the order of R50 (log entry 36). -/
def State.dispatchOrder (s : State) : List Nat := (s.tilth.find s.dispatchable).foldr (fun n l => s.insertSlot n l) []

/-- A suspended operation keeps its slot from holding the engine (R278; log entry 39). -/
def State.suspended (s : State) (n : Nat) : Bool := s.cipher.contexts.any fun c => c.slot == n

/-- An operation of a slot holds its engine (R47). -/
def State.holdsEngine (s : State) (n : Nat) (e : Engine) : Bool :=
  (s.slot n).state == .waitingEngine && (s.slot n).engine == some e && !s.suspended n

/-- An engine is held: by an operation of a slot, LF by a calibration of its own, and while its function is under local reset (R47, R62,
R68). -/
def State.engineHeld (s : State) (e : Engine) : Bool :=
  (slotNumbers.any fun n => s.holdsEngine n e) || (e == .lf && s.lf.calibrating.isSome) || s.underReset e

/-- The cipher engine's lock can be granted to a slot: its own already, or free with nothing suspended (R276, R280). -/
def State.lockGrants (s : State) (n : Nat) : Bool :=
  s.cipher.lock == some (.slot n) || (s.cipher.lock.isNone && s.cipher.contexts.isEmpty)

/-- The holder a class 0 step pre-empts: a slot of a lower class, with a saved context free (R51, R278, R279). -/
def State.preempts (s : State) : Option Nat :=
  match s.cipher.lock with
  | some (.slot m) =>
    if s.cipher.contexts.length < 4 && ((s.slot m).kind.any fun k => k.cls != 0) && (s.slot m).busy then some m else none
  | _ => none

/-- The first class 0 step that needs the cipher engine now. -/
def State.urgentSlot (s : State) : Option Nat :=
  s.dispatchOrder.find? fun n => (s.slot n).hasStep && (s.slot n).engine == some .aes && ((s.slot n).kind.map (·.cls)) == some 0

/-- A class 0 step suspends the holder into a saved context; the lock is kept for it, to be granted in the next tick (R51, R278). The slot
it is kept for is answered with the state (log entry 39). -/
def State.preempt (s : State) : State × Option Nat :=
  match s.urgentSlot, s.preempts with
  | some n, some m =>
    let c : SavedContext := { slot := m, cls := ((s.slot m).kind.map (·.cls)).getD 3, since := s.now }
    let t := ({ s with cipher :=
      { s.cipher with contexts := s.cipher.contexts ++ [c], lock := some (.slot n), lockFrom := s.now } }).bump 0x2902 2
    (t.setSlot m fun sl => { sl with state := .waitingEngine }, some n)
  | _, _ => (s, none)

/-- A session whose pinned credential a host has changed ends at its next step (R58); an exchange says so to its counterpart. -/
def State.endChanged (s : State) (n : Nat) : State :=
  match (s.slot n).work with
  | .release x => s.refuseExchange n x Rc.credentialChanged
  | _ => s.finish n Rc.credentialChanged

/-- A step runs in this tick's body (R45, R276; log entry 36): on AES its slot takes the lock; one dispatched after its deadline is noted
(R49). -/
def State.grant (s : State) (n : Nat) (e : Engine) : State :=
  let late := (s.slot n).late || ((s.slot n).hasStep && s.pastDeadline (s.slot n))
  let t := s.setSlot n fun sl => { sl with state := .running, late := late }
  if e = .aes then
    { t with cipher :=
        { t.cipher with
          lock := some (.slot n), lockFrom := if t.cipher.lock = some (.slot n) then t.cipher.lockFrom else t.now } }
  else t

/-- The head's decision on one slot (R48, R50, R58); `kept` is the slot the lock has been kept for, whose turn is the next tick. -/
def State.dispatchSlot (kept : Option Nat) (acc : State × List Engine) (n : Nat) : State × List Engine :=
  let s := acc.1
  let e := ((s.slot n).engine).getD .cpu
  if !s.dispatchable (s.slot n) || acc.2.contains e || s.engineHeld e || kept == some n then acc
  else if (s.slot n).hasStep && s.changed n then (s.endChanged n, acc.2)
  else if !s.engineOn n e then
    ((s.firstAccess (s.stepDomain n e) n).setSlot n fun sl => { sl with state := .waitingResource }, acc.2)
  else if e = .aes && !s.lockGrants n then acc
  else (s.grant n e, e :: acc.2)

/-- The head of a tick (R35): slots and cache, domains, grants. The slot the lock is kept for is answered with the state. -/
def State.head (s : State) : State × Option Nat :=
  let t := s.openHead.moveDomains.wakeSlots
  let p := t.preempt
  ((p.1.dispatchOrder.foldl (State.dispatchSlot p.2) (p.1, [])).1, p.2)

/-! ## What a step begins on its engine (R45, R47) -/

/-- What the start of an operation leaves, and whether the step goes on to its own end. -/
abbrev Begun := State × Bool

/-- An operation of a slot is in progress on an engine: it holds the engine until it ends (R47). -/
def State.operating (s : State) (n : Nat) (e : Engine) : State :=
  s.setSlot n fun sl => { sl with state := .waitingEngine, engine := some e, named := none, carry := 0 }

/-- An LF operation begins (R78, R80, R82, R103); one that fails at its start ends as one that fails later (R113, R119). -/
def State.beginLf (s : State) (n : Nat) (op : LfOp) (electrode : Nat) (payload : Bytes) (i : TickIn) : State :=
  let r := (s.dieReads i.tempDeci).lfStart n op electrode payload i.vlfMv i.tempDeci
  match r.2 with
  | some c => r.1.lfResult n op c []
  | none => r.1.operating n .lf

/-- The LF step of an approach (R80, R103, R113): its wake frame, or in a round the vector operation, on its own electrode. -/
def State.approachLf (s : State) (n : Nat) (a : Approach) (i : TickIn) : State :=
  if a.vectors = .running then s.beginLf n .vector a.electrode [] i
  else
    let t := s.beginLf n .wake a.electrode (s.wakePayload a) i
    { t with badges := { t.badges with wake := s.wakePayload a } }

/-- A COMMAND frame by the step of a session (R77): a length it cannot have is not sent. -/
def State.lfCommand (s : State) (n electrode : Nat) (payload : Bytes) (i : TickIn) : State :=
  if LfOp.lenSent .command payload.length then s.beginLf n .command (electrode % 4) payload i else s.finish n Rc.valueRange

/-- A key register of a slot. -/
def State.registerOf (s : State) (n reg : Nat) : Option KeyRegister :=
  s.cipher.registers.find? fun r => r.reg == reg && r.owner == .slot n

/-- A register's key may be used for a GCM seal (R272). -/
def KeyUse.seals : KeyUse → Bool
  | .derived .mramKey | .derived .round | .derived .sess | .derived .vex | .derived .ksess => true
  | _ => false

/-- A GCM seal under a register (R272, R274, R284). -/
def State.beginSeal (s : State) (n reg : Nat) (iv : Bytes) : Begun :=
  if s.cipher.failed then (s.finish n Rc.cipherFailed, false)
  else
    match s.registerOf n reg with
    | none => (s.finish n Rc.keyUsage, false)
    | some r =>
      if !r.use.seals then (s.finish n Rc.keyUsage, false)
      else if r.ivs.contains iv then (((s.bump 0x2941 0).event Rc.ivReused n (leBytes 1 n)).finish n Rc.ivReused, false)
      else
        (({ s with cipher :=
          { s.cipher with registers := s.cipher.registers.map fun (k : KeyRegister) =>
              if k.reg = reg then { k with ivs := (iv :: k.ivs).take 64 } else k } }).gcm 1, true)

/-- The parent a label is derived from: a root slot, or the label of a register's key (R272). -/
def parentOk (fact : Bool) (label : Label) (root : Option Nat) (use : Option KeyUse) : Bool :=
  match label with
  | .mramKey => root == some 0
  | .wrap => root == some (if fact then 14 else 1)
  | .fwImg => root == some 3
  | .jImport | .fleet | .badge | .badge7100 | .vehicle | .reader => root == some 2
  | .sync | .round => use == some (.derived .fleet)
  | .sess => use == some (.derived .badge)
  | .tone => use == some (.derived .sess)
  | .vex => use == some (.derived .vehicle)
  | .ksess => use == some (.derived .reader)

/-- The parent's value, or the code with which the derivation fails (R268, R272, R273). -/
def State.parentKey (s : State) (n : Nat) (label : Label) (p : Parent) : Except Code Bytes :=
  match p with
  | .root slot =>
    if !parentOk (s.mode == .factory) label (some slot) none then .error Rc.keyUsage
    else match s.rootFails slot with
      | some c => .error c
      | none => .ok ((lookup slot s.cipher.roots).getD [])
  | .register reg =>
    match s.registerOf n reg with
    | some r => if parentOk false label none (some r.use) then .ok r.value else .error Rc.keyUsage
    | none => .error Rc.keyUsage

/-- Key registers a slot holds. -/
def State.registersHeld (s : State) (n : Nat) : Nat := (s.cipher.registers.filter fun r => r.owner == .slot n).length

/-- A derivation to a register waits for one that is free (R273; log entry 81). -/
def State.waitRegister (s : State) (n : Nat) : State :=
  ({ s with cipher := { s.cipher with registerWaits := s.cipher.registerWaits ++ [(n, s.now)] } }).setSlot n fun sl =>
    { sl with state := .waitingResource, named := none, carry := 0 }

/-- A derivation (R268, R271 to R273, R284): the label SYNC is released to the caller, every other result goes to a register. -/
def State.beginDerive (s : State) (n : Nat) (label : Label) (p : Parent) (context : Bytes) : Begun :=
  if s.cipher.failed then (s.finish n Rc.cipherFailed, false)
  else
    match s.parentKey n label p with
    | .error c => (s.finish n c, false)
    | .ok key =>
      if label = .sync then (s.bump 0x2940 4, true)
      else if 6 ≤ s.registersHeld n then (s.finish n Rc.noResource, false)
      else if s.cipher.freeRegister.isNone then (s.waitRegister n, false)
      else (s.deriveKey (.slot n) label (derive label key context), true)

/-- A cached copy is used by a lookup (R55, R56): a copy that is stale ends the session with its next step (R58). -/
def State.hitLine (s : State) (n i : Nat) (stale : Bool) : State :=
  let u := ((s.useLine i).bump 0x2104 1).pinOrEnd n i
  if stale then u.setSlot n fun sl => { sl with staleFrom := some (sl.staleFrom.getD s.now) } else u

/-- A slot waits for a page-in of an index (R56). -/
def State.waitPage (s : State) (n : Nat) : State :=
  s.setSlot n fun sl => { sl with state := .waitingResource, named := none, carry := 0 }

/-- A lookup of a credential (R55, R56): a hit, a page-in under way joined, or a page-in started. -/
def State.beginLookup (s : State) (n i : Nat) : Begun :=
  match s.tilth.cache.find? fun l => l.index == i with
  | some l =>
    let t := s.hitLine n i (l.dropAt.any (· ≤ s.now))
    (t, (t.slot n).inFlight)
  | none =>
    if s.tilth.pageIns.any fun p => p.index == i then
      ((({ s with tilth := { s.tilth with pageIns := s.tilth.pageIns.map fun (p : PageIn) =>
          if p.index = i then { p with slots := p.slots ++ [n] } else p } }).bump 0x2104 1).waitPage n, false)
    else if 4096 ≤ i then (s, true)
    else
      let p : PageIn := { index := i, requested := s.now, slots := [n] }
      ((({ s with tilth := { s.tilth with pageIns := s.tilth.pageIns ++ [p] } }).bump 0x2104 2).waitPage n, false)

/-- A request to a generator instance (R322 to R326): a request returns at most 512 bits. -/
def State.beginRandom (s : State) (n inst : Nat) : Begun :=
  match s.drawState inst with
  | .ready => ((s.used 64).countCall inst, true)
  | .wait => if s.drawRoom inst then (s.waitDraw n inst, false) else (s.finish n Rc.noResource, false)
  | .fails c => (s.finish n c, false)

/-- A bridge read by a step (R361, R365): at most 256 bytes of one window; any other is answered ADDR_UNMAPPED (R364). -/
def State.beginRead (s : State) (n addr len : Nat) : Begun :=
  if readable addr len then (s.askRead n addr len).sendRead n else (s.finish n Rc.addrUnmapped, false)

/-- A posted write by a step (R361, R366). -/
def State.beginWrite (s : State) (n addr : Nat) (data : Bytes) : Begun :=
  if s.linkRefuses then (s.finish n Rc.bridgeDown, false)
  else
    let t := s.postWrite n addr data
    (t, (t.slot n).state == .running)

/-- What a step begins where its session gives it no operation of its own. -/
def State.begin (s : State) (n : Nat) (i : TickIn) : OpStart → Begun
  | .none => (s, true)
  | .lfCommand electrode payload => (s.lfCommand n electrode payload i, false)
  | .seal reg iv => s.beginSeal n reg iv
  | .derive label parent context => s.beginDerive n label parent context
  | .lookup k => s.beginLookup n k
  | .random inst => s.beginRandom n inst
  | .postedWrite addr data => s.beginWrite n addr data
  | .bridgeRead addr len => s.beginRead n addr len

/-! ## The steps a session's own rules give it -/

/-- A frame exchange of a walk is the operation of its step on HF, while its mode permits its purpose (R22, R219, R223). -/
def State.walkExchange (s : State) (n : Nat) (p : Purpose) : State :=
  if purposeAllowed s.seen.life.mode p then s.operating n .hf else s.finish n Rc.modeForbids

/-- A DICTIONARY session's step (R353, R373): on CAN the transfer is under way, on BRG its read is sent. -/
def State.dictionaryStep (s : State) (n : Nat) : State :=
  if (s.slot n).engine = some .brg then (s.sendRead n).1 else s.await n

/-- The step of a session whose rules say what it does, on the engine it needs: the next operation of the session begins, or, on CPU, an
approach proposes SERVICE (R47, R57, R80, R104, R116, R219, R257, R292, R313, R353, R397). None for a step whose work is not laid down. -/
def State.ownStep (s : State) (n : Nat) (i : TickIn) : Option State :=
  let sl := s.slot n
  match sl.through, sl.work, sl.engine with
  | some _, _, _ => some (s.operating n .nvm)
  | none, .approach a, some .lf => some (s.approachLf n a i)
  | none, .approach _, some .rf => some (s.beginRf n i)
  | none, .approach _, some .cpu => some ((s.propose (.service n)).await n)
  | none, .badge _, some .rf => some (s.beginRf n i)
  | none, .inventory p _, some .hf => some (s.walkExchange n p)
  | none, .passport, some .kt => some (s.operating n .kt)
  | none, .receipt _ _, some .sig => some (s.operating n .sig)
  | none, .attestation _, some .sig => some (s.operating n .sig)
  | none, .cipher c, some .aes => some (s.startJob n c)
  | none, .dictionary _, some .can => some (s.dictionaryStep n)
  | none, .dictionary _, some .brg => some (s.dictionaryStep n)
  | _, _, _ => none

/-! ## How a step ends (R42, R46, R47, R53) -/

/-- What becomes of a session whose step has finished (log entry 37). -/
def State.stepEnds (s : State) (n : Nat) : StepNext → State
  | .ready e named => s.makeReady n e named
  | .operation => s.setSlot n fun sl => { sl with state := .waitingEngine, carry := 0, named := none }
  | .event => s.await n
  | .clods k => s.askClods n k
  | .close code => s.finish n code

/-- A step that ran out of its body is carried, at most three times (R46). -/
def State.carryStep (s : State) (n : Nat) : State :=
  if 3 ≤ (s.slot n).carry then s.stepTimesOut n
  else s.setSlot n fun sl => { sl with state := .carried, carry := sl.carry + 1 }

/-- One step's work in the body: unfinished it is carried; else what its session's rules give it, or what it begins and how it ends. -/
def State.runStep (i : TickIn) (s : State) (w : StepWork) : State :=
  if (s.slot w.slot).state ≠ .running then s
  else if !w.finished then s.carryStep w.slot
  else
    match s.ownStep w.slot i with
    | some t => t
    | none =>
      let b := s.begin w.slot i w.start
      if b.2 then b.1.stepEnds w.slot w.next else b.1

/-- The ticks each engine is held are counted (0x5F20). -/
def State.countHeld (s : State) : State :=
  [Engine.lf, .rf, .hf, .kt, .aes, .sig, .rng, .can, .brg, .nvm, .cpu].foldl
    (fun u e => if s.tilth.slots.any fun sl => sl.busy && sl.engine == some e then u.bump 0x5F20 (engineNumber e) else u) s

/-- The body of a tick (R35): the CAN step's transmissions, then the dispatched steps; a dispatched step without a report of its work
has not finished. -/
def State.body (s : State) (i : TickIn) : State :=
  let t := i.work.foldl (State.runStep i) s.countHeld.canStep
  (t.tilth.find fun sl => sl.state == .running).foldl State.carryStep t

end Sys2Proof.Machine
end

