-- ==== Sys2Proof/Machine/Tick.lean ====
section
/-! DEFINITION. The tail of a frame tick and the tick as a whole (R35, R36, R59): the verdict stage, the commit of what each tick
samples and counts, and the state made visible. -/

namespace Sys2Proof.Machine

/-! ## The verdict stage (R18, R59, R116, R117, R173, R174) -/

/-- The slots of the proposals of one sort, in the order they were made (log entry 42). -/
def stopSlots (ps : List Proposal) : List Nat := ps.filterMap fun x => match x with | .stop n => some n | _ => none
def serviceSlots (ps : List Proposal) : List Nat := ps.filterMap fun x => match x with | .service n => some n | _ => none
def releaseSlots (ps : List Proposal) : List Nat := ps.filterMap fun x => match x with | .release n => some n | _ => none

/-- A STOP is applied: it withholds a released lock and is acknowledged (R174, R200; log entry 42). -/
def State.applyStop (s : State) (n : Nat) : State :=
  match (s.slot n).exchange? with
  | some x =>
    let t := if s.lock.released then s.withhold 2 else s
    if (s.slot n).acts then (t.acknowledge n x Rc.ok).withLock t.lock else s
  | none => s

/-- QUARANTINE follows a mode change that had gone too far to be given up (R33). -/
def State.quarantineNow (s : State) : State :=
  if s.life.quarantineDue && s.life.pending.isNone then
    let t := s.toQuarantine.withLock s.lock
    { t with life := { t.life with quarantineDue := false } }
  else s

/-- An opened HV interlock loop withdraws a released lock at the commit of the tick after its event (R202). -/
def State.hvilStage (s : State) : State :=
  if s.vehicle.hvilDue then
    let t : State := { s with vehicle := { s.vehicle with hvilDue := false } }
    if s.lock.released then t.withhold 3 else t
  else s

/-- Why the verdict stage refuses an entry into SERVICE, on state as committed up to this tail (R18, R59, R117). -/
def State.serviceRefusal (s : State) : Option Code :=
  if s.mode ≠ .depot ∨ s.hardpan.set ∨ s.life.pending.isSome then some Rc.modeForbids
  else if !s.isTrue 0x2004 1 then some Rc.notArmed
  else if !s.lockCondition then some Rc.lockReleased
  else none

/-- The badge children whose verdict an approach proposes (R115, R116; log entry 43). -/
def State.qualifiedChildren (s : State) (p : Nat) : List Nat :=
  s.tilth.find fun sl => sl.acts && sl.parent == some p && sl.badge?.any fun b => b.phase == .qualified

/-- A refused proposal: the qualified badges are told, and the approach ends with the code once they have ended (R18, R116, R117; log
entry 43). -/
def State.refuseService (s : State) (p : Nat) (a : Approach) (code : Code) : State :=
  ((s.qualifiedChildren p).foldl
    (fun u m => match (u.slot m).badge? with | some b => u.sendOutcome m a b 0x02 Rc.ok false | none => u) s).setApproach p
      fun a => { a with decided := some code }

/-- A qualified badge outlives its parent to send OUTCOME 0x01, after which the use of its credential is written through (R116, R122). -/
def State.openedFor (a : Approach) (s : State) (m : Nat) : State :=
  match (s.slot m).badge? with
  | some b => (s.sendOutcome m a b 0x01 Rc.ok true).setSlot m fun sl => { sl with outlives := true }
  | none => s

/-- SERVICE is entered (R18): the latch opens, SERVICE_ENTERED names the credential, the approach ends with its other children (log entry
43). -/
def State.grantService (s : State) (p : Nat) (a : Approach) : State :=
  (((((s.qualifiedChildren p).foldl (State.openedFor a) s).bump 0x2312 2).enterMode .service).event Ev.serviceEntered p
    (leBytes 4 a.lastCredential)).finish p Rc.ok

/-- A proposal for SERVICE is decided (R18, R59, R117). -/
def State.decideService (s : State) (p : Nat) : State :=
  match (s.slot p).approach? with
  | some a =>
    if (s.slot p).acts then
      match s.serviceRefusal with
      | some c => (s.refuseService p a c).withLock s.lock
      | none => (s.grantService p a).withLock s.lock
    else s
  | none => s

/-- A release meets the withdrawal of one in this tail: a STOP that was applied in it, or the HV interlock's (R59, R199). -/
def State.withdrawn (s : State) (stopped : Bool) : Bool :=
  stopped || (!s.lock.released && s.lock.cause == 3 && s.lock.changeTick == s.tick)

/-- Why the verdict stage refuses a release, on state as committed up to this tail; `stopped` says that a STOP was applied in it (R59,
R173, R199, R317, R318; log entries 40 and 86). -/
def State.releaseDefeat (s : State) (stopped : Bool) : Option Code :=
  if s.withdrawn stopped || s.sig.recovery || s.sig.activating then some Rc.denied
  else if !opAllowed s.mode .release || s.hardpan.set then some Rc.modeForbids
  else if s.latch.on || s.vehicle.panel.treatedOpen then some Rc.serviceOpen
  else
    match s.ledger.hvil with
    | .opened | .fault => some Rc.hvilOpen
    | .unknown => some Rc.eptStale
    | .closed => none

/-- A release proposal is decided (R59, R173, R189, R199; log entry 40). -/
def State.decideRelease (stopped : Bool) (s : State) (n : Nat) : State :=
  match (s.slot n).exchange? with
  | some x =>
    if !(s.slot n).acts then s
    else
      match s.releaseDefeat stopped with
      | some c => ((s.logRefusal n c).acknowledge n x c).withLock s.lock
      | none =>
        if s.lock.released then (s.acknowledge n x Rc.ok).withLock s.lock
        else ((s.release x).acknowledge n x Rc.ok).withLock (s.lockOn x)
  | none => s

/-- The verdict stage on this tick's proposals: withdrawals, forced withholds with QUARANTINE and SERVICE, then releases (R59; log entries
40 and 41). -/
def State.verdictStage (s : State) : State :=
  let ps := s.tilth.proposals
  let a := (stopSlots ps).foldl State.applyStop s.hvilStage
  let b := (serviceSlots ps).foldl State.decideService a.quarantineNow
  let c := (releaseSlots ps).foldl (State.decideRelease (!(stopSlots ps).isEmpty)) b
  { c with tilth := { c.tilth with proposals := [] } }

/-- Approaches whose children have ended, and badges whose vectors or probes have come, go on (R109, R114, R116). -/
def State.settleSessions (s : State) : State :=
  let t := (s.tilth.find fun sl => sl.acts && sl.kind == some .approach).foldl State.settleApproach s
  (t.tilth.find fun sl => sl.acts && sl.kind == some .badge).foldl State.advanceBadge t

/-! ## What each tick samples and counts -/

/-- A slot keeps the cipher engine's lock: its step goes on, an operation of it is in progress, or the lock is kept for it (R276, R278). -/
def State.keepsAes (s : State) (kept : Option Nat) (n : Nat) : Bool :=
  kept == some n
    || ((s.slot n).engine == some .aes
        && ((s.slot n).state == .running || (s.slot n).state == .carried || (s.slot n).state == .waitingEngine))

/-- The lock is freed in the tail in which its slot's step has finished; a self-test that waits then takes it (R276, R277). -/
def State.freeLock (s : State) (kept : Option Nat) : State :=
  let l := s.cipher.lock.filter fun o => match o with | .slot n => s.keepsAes kept n | _ => true
  let m := if l.isNone && s.cipher.testing then some CipherOwner.selfTest else l
  { s with cipher := { s.cipher with lock := m, lockFrom := if m = s.cipher.lock then s.cipher.lockFrom else s.now } }

/-- The clods and slots in use against their marks (R54, R65). -/
def State.slotMarks (s : State) : State :=
  (s.putNum 0x2102 2 (max (s.num 0x2102 2) (s.tilth.find fun sl => sl.state != .free).length)).watermark

/-- The budgets of the LF channels recover (R93): in a tick by 225 units for each A²·ms per second (log entry 10). -/
def State.recoverBudgets (s : State) : State :=
  { s with lf := s.lf.mapChannels fun _ c =>
      let b := c.budget - 225 * s.seenNum 0x2230 2
      { c with budget := b, high := c.high && decide (s.lfCapacity * 4 < b * 5) } }

/-- A land's level through the 3-tick filter (R181). -/
def FeedbackLand.sample (f : FeedbackLand) (level : Bool) : FeedbackLand :=
  if level = f.level then { f with run := 0 }
  else if f.run + 1 < 3 then { f with run := f.run + 1 }
  else { f with level := level, run := 0 }

/-- A land compared with the committed lock: since when they disagree; a mismatch clears where they agree (R181, R182). -/
def State.compareLand (s : State) (l : Land) : State :=
  if s.feedbackOn l = s.lock.released then s.setLand l fun f => { f with disagree := none, mismatch := false }
  else s.setLand l fun f => { f with disagree := some (f.disagree.getD s.now) }

/-- LKFBA and LKFBB are sampled (R181). -/
def State.sampleFeedback (s : State) (a b : Bool) : State :=
  (((s.setLand .lkfba fun f => f.sample a).setLand .lkfbb fun f => f.sample b).compareLand .lkfba).compareLand .lkfbb

/-- The steady powers of the table Charged powers, in mW (R419). -/
def State.steadyPower (s : State) : Nat :=
  let on := fun (d : Domain) (p : Nat) => if s.isOn d then p else 0
  on .core 90 + on .sec 30 + on .rns 10 + on .lfa 10 + on .rfx 80 + on .canv 40 + on .canp 40
    + (if s.isOn .brg && s.isOn .ept then 50 else 0)

/-- The HF reader's power in mW: its field is on while a walk exchanges frames (R213, R419). -/
def State.fieldPower (s : State) : Nat :=
  if !s.isOn .hfr then 0
  else
    match s.inv.walk with
    | some w => if w.step = .fieldOff ∨ w.scanned then 20 else 100 + w.settings.power / 2
    | none => 20

/-- The target code of a channel in a transmission (R73, R90). -/
def State.targetOf (s : State) (u : LfUnit) (ch : Nat) : Nat := min u.target (s.channel ch).ceiling

/-- The most the LF carriers can add in a tick, in mW: 1.5 W × (I / 2.0 A)² for each channel driven, and the calibration's 0.2 A (R86,
R419). -/
def State.carrierPower (s : State) : Nat :=
  let unit := (s.lf.run.bind LfRun.unit?).map fun u => (u.chans.map fun ch => s.targetOf u ch * s.targetOf u ch).sum
  (20 * unit.getD 0 + 2) / 3 + (if s.calibratingNow.isSome then 15 else 0)

/-- The radio transmits in this tick (R138, R149). -/
def State.transmitting (s : State) : Bool :=
  s.radio.air.isSome || (s.radio.raw.any (·.sends) && !s.radio.settling)

/-- The most a transmission can add over reception in a tick, in mW (R419). -/
def State.transmitPower (s : State) : Nat := if s.transmitting then (rfPower3 (s.clampPower 28) + 2999) / 3000 - 80 else 0

/-- The power of this tick in mW. How much of a tick the carriers and the transmitter are on is not stated: a free value (log entry 10). -/
def State.tickPower (s : State) : Nat :=
  s.steadyPower + s.fieldPower + Config.freeNat s.free % (s.carrierPower + s.transmitPower + 1)

/-- The level L (R419) and its warning (R420). -/
def State.heat (s : State) : State :=
  let l := s.power.thermal + s.tickPower - s.seenNum 0x2E50 2
  let high := decide (s.thermalCapacity * 4 < l * 5)
  let t := { s.used 1 with power := { s.power with thermal := l, thermalHigh := high } }
  if high && !s.power.thermalHigh then t.event Ev.thermalHigh 0 [] else t

/-- The grace clock counts a tick in which CORE is on (R391), and the RTC counts (R418; log entry 45). -/
def State.clocks (s : State) : State :=
  let t := { s with power := { s.power with rtc := s.power.rtc + 1 } }
  if t.ledger.state = .grace then
    ({ t with ledger := { t.ledger with graceTicks := t.ledger.graceTicks + 1 } }).settleCredit
  else t

/-- The journal state, reported at each entry into LOW or RESERVE from a better one (R399). -/
def State.reportJournal (s : State) : State :=
  let old := s.ledger.journalState
  let new := s.journalNow
  let t := { s with ledger := { s.ledger with journalState := new } }
  if new = 1 ∧ old = 0 then t.alarm Ev.journalLow 0 []
  else if new = 2 ∧ old < 2 then t.alarm Ev.journalReserve 0 []
  else t

/-- The error register follows the set of outstanding errors, and EMCY 0x0000 its becoming empty (R350, R444; log entry 46). -/
def State.reportErrors (s : State) : State :=
  let now := s.outstanding
  let t := ({ s with net := { s.net with outstanding := now } }).putNum 0x1001 0 (errorRegister now)
  if now = 0 ∧ s.net.outstanding ≠ 0 then t.raise 0x0000 0x0000 0 else t

/-- A pending mode change has its first copy written in the tail after its acceptance (R33; log entry 17). -/
def State.writeFirstCopy (s : State) : State :=
  { s with life := { s.life with pending := s.life.pending.map fun (p : PendingChange) => { p with firstCopy := true } } }

/-- The reserved stretch instance ST0 cannot deliver (R288; log entry 44). -/
def State.maskingFails (s : State) : Bool :=
  s.isOn .sec && (s.rng.source == .latched || (s.instance? 5).any fun g => !g.seeded || g.spent)

/-- UNMASKED, with one event an episode, and the ticks it has lasted (R288, R301; log entry 44). -/
def State.masking (s : State) : State :=
  let u := s.maskingFails
  let t := { s with cipher := { s.cipher with unmasked := u } }
  let v := if u && !s.cipher.unmasked then t.event Ev.cipherUnmasked 0 [] else t
  if u then v.bump 0x2942 0 else v

/-- The conditioner fills the pool of 16 blocks, one every 32 µs, while the source delivers (R321, R325). -/
def State.condition (s : State) : State :=
  if s.rng.source = .ready ∨ (s.rng.source = .starting ∧ !s.rng.testing) then
    let us := s.rng.conditioned + 25
    { s with rng :=
        if us < 32 then { s.rng with conditioned := us }
        else { s.rng with pool := min 16 (s.rng.pool + 1), conditioned := us - 32 } }
  else s

/-- A device nonce that could not be drawn is drawn once an instance delivers (R29; log entry 21). -/
def State.redrawNonce (s : State) : State :=
  if s.sealing.nonce.isNone && (s.drawFails 4).isNone then s.newNonce else s

/-- A tick that began in a state ends: what it committed becomes visible two ticks on, and the counters advance (R34, R36, R40,
R434). -/
def State.advance (s start : State) : State :=
  { s with
    hist2 := start.hist1
    hist1 := s.visible
    platform := { s.platform with attempts := 0 }
    tilth := { s.tilth with tick := (start.tilth.tick + 1) % tickModulus, executed := start.tilth.executed + 1 } }

/-! ## The tick -/

/-- VLF as this tick measures it (R92; log entry 165). -/
def State.sampleVlf (s : State) (mv : Nat) : State := { s with lf := { s.lf with vlfMv := mv } }

/-- Engines and wires in this tick: the probes, the LF array, the air, raw commands and the coexistence wires (R74, R138, R146, R149,
R162). -/
def State.engines (s : State) (i : TickIn) : State :=
  ((((((s.sampleVlf i.vlfMv).probeTick i).lfAdvance i.lfFrameEnd).clearAir).startRaw i).followGrant i.cxgnt).driveCoex

/-- What the tail commits after the verdicts (R35, R368); `kept` is the slot the cipher engine's lock is kept for. -/
def State.tail (s : State) (i : TickIn) (kept : Option Nat) : State :=
  let a := (s.commitLanded.settleSessions.freeLock kept).slotMarks.recoverBudgets.sampleFeedback i.lkfba i.lkfbb
  let b := a.heat.clocks.reportJournal.reportErrors.sendWrites.writeFirstCopy.engines i
  b.masking.condition.redrawNonce

/-- A tick: head, body and tail (R35). The start lock is written by the verdict stage alone (R59); an accepted activation resets the main
die at the end (R317; log entry 86). -/
def State.frame (s : State) (i : TickIn) : State :=
  let h := s.head
  let v := ((h.1.body i).withLock s.lock).verdictStage
  let t := ((v.tail i h.2).withLock v.lock).advance s
  if s.sig.activating then t.resetDie .activation else t

/-- FRAME_TICK (R35); while the main die is not running there are no ticks, and none is committed that would reach H (R34; log entry
164). -/
def execFrameTick (i : TickIn) (s : State) : Out :=
  .next (if s.running && !s.atHighWater then { s.frame i with pending := s.pending } else s)

end Sys2Proof.Machine
end

