-- ==== Sys2Proof/Machine/Dispatch.lean ====
section
/-! DEFINITION. What each command does: one arm per constructor of `Instr`, each a direct call of its meaning. -/

namespace Sys2Proof.Machine

/-- The effect of a command on everything but the queue. -/
def exec (i : Instr) (s : State) : Host.Outcome State Fault Refusal :=
  match i with
  | .frameTick x => Sys2Proof.Machine.execFrameTick x s
  | .stepTimeout slot => Sys2Proof.Machine.execStepTimeout slot s
  | .deadlineMissed slot => Sys2Proof.Machine.execDeadlineMissed slot s
  | .deadlineLate slot => Sys2Proof.Machine.execDeadlineLate slot s
  | .tickHighWaterUpdate => Sys2Proof.Machine.execTickHighWaterUpdate s
  | .sessionAdmitted => Sys2Proof.Machine.execSessionAdmitted s
  | .admissionTimeout => Sys2Proof.Machine.execAdmissionTimeout s
  | .clodGranted slot => Sys2Proof.Machine.execClodGranted slot s
  | .clodWaitTimeout slot => Sys2Proof.Machine.execClodWaitTimeout slot s
  | .credentialPageInDone index => Sys2Proof.Machine.execCredentialPageInDone index s
  | .engineOperationEnd slot result => Sys2Proof.Machine.execEngineOperationEnd slot result s
  | .abortRequest via fn value => Sys2Proof.Machine.execAbortRequest via fn value s
  | .abortCompletion target idle => Sys2Proof.Machine.execAbortCompletion target idle s
  | .sessionAbort via slot value => Sys2Proof.Machine.execSessionAbort via slot value s
  | .dictionaryWrite via idx sub value => Sys2Proof.Machine.execDictionaryWrite via idx sub value s
  | .modeRequest via value => Sys2Proof.Machine.execModeRequest via value s
  | .depotRequest via value => Sys2Proof.Machine.execDepotRequest via value s
  | .modeCommit => Sys2Proof.Machine.execModeCommit s
  | .serviceExit => Sys2Proof.Machine.execServiceExit s
  | .serviceOverrun => Sys2Proof.Machine.execServiceOverrun s
  | .envelopeWrite via value => Sys2Proof.Machine.execEnvelopeWrite via value s
  | .envelopeCancel via value => Sys2Proof.Machine.execEnvelopeCancel via value s
  | .envelopeExpiry => Sys2Proof.Machine.execEnvelopeExpiry s
  | .publicKeyWrite via idx sub value => Sys2Proof.Machine.execPublicKeyWrite via idx sub value s
  | .lfOperationEnd vlfMv driven => Sys2Proof.Machine.execLfOperationEnd vlfMv driven s
  | .lfDetuned ch clamp driven => Sys2Proof.Machine.execLfDetuned ch clamp driven s
  | .lfOvercurrent trip => Sys2Proof.Machine.execLfOvercurrent trip s
  | .lfSupplyFault loss => Sys2Proof.Machine.execLfSupplyFault loss s
  | .lfCalibrate via value => Sys2Proof.Machine.execLfCalibrate via value s
  | .lfCalibrationStart => Sys2Proof.Machine.execLfCalibrationStart s
  | .lfCalibrationEnd ch outcome reading => Sys2Proof.Machine.execLfCalibrationEnd ch outcome reading s
  | .lfFaultClear via sub value => Sys2Proof.Machine.execLfFaultClear via sub value s
  | .lfChannelEnableWrite via value => Sys2Proof.Machine.execLfChannelEnableWrite via value s
  | .lfNominalFrequencyWrite via value => Sys2Proof.Machine.execLfNominalFrequencyWrite via value s
  | .touchEvent electrode => Sys2Proof.Machine.execTouchEvent electrode s
  | .hostApproachRequest via value => Sys2Proof.Machine.execHostApproachRequest via value s
  | .roundEnd slot answers noise => Sys2Proof.Machine.execRoundEnd slot answers noise s
  | .badgeResponse slot rx payload => Sys2Proof.Machine.execBadgeResponse slot rx payload s
  | .lresponse slot rx payload => Sys2Proof.Machine.execLresponse slot rx payload s
  | .vreport slot report => Sys2Proof.Machine.execVreport slot report s
  | .badgeReplyMissing missed => Sys2Proof.Machine.execBadgeReplyMissing missed s
  | .badgeSessionTimeout slot => Sys2Proof.Machine.execBadgeSessionTimeout slot s
  | .approachTimeout slot => Sys2Proof.Machine.execApproachTimeout slot s
  | .synthCalibrate via value => Sys2Proof.Machine.execSynthCalibrate via value s
  | .rfTemperatureCheck tempDeci => Sys2Proof.Machine.execRfTemperatureCheck tempDeci s
  | .synthCalStart => Sys2Proof.Machine.execSynthCalStart s
  | .rfSynthCalOverdue => Sys2Proof.Machine.execRfSynthCalOverdue s
  | .synthCalEnd subBands tempDeci => Sys2Proof.Machine.execSynthCalEnd subBands tempDeci s
  | .rfCalRetry => Sys2Proof.Machine.execRfCalRetry s
  | .rfTxDeferred slot => Sys2Proof.Machine.execRfTxDeferred slot s
  | .rfLockFail slot => Sys2Proof.Machine.execRfLockFail slot s
  | .backgroundCal which passed tempDeci found => Sys2Proof.Machine.execBackgroundCal which passed tempDeci found s
  | .cxgntWithdrawn => Sys2Proof.Machine.execCxgntWithdrawn s
  | .rfCoexStuck => Sys2Proof.Machine.execRfCoexStuck s
  | .rfCoexRearmed => Sys2Proof.Machine.execRfCoexRearmed s
  | .rawStop via => Sys2Proof.Machine.execRawStop via s
  | .rawTxCw via => Sys2Proof.Machine.execRawTxCw via s
  | .rawTxPrbs via => Sys2Proof.Machine.execRawTxPrbs via s
  | .rawTxPacket via => Sys2Proof.Machine.execRawTxPacket via s
  | .rawRx via => Sys2Proof.Machine.execRawRx via s
  | .rawScan via => Sys2Proof.Machine.execRawScan via s
  | .rawCapture via => Sys2Proof.Machine.execRawCapture via s
  | .rawCommandEnd outcome => Sys2Proof.Machine.execRawCommandEnd outcome s
  | .toneMaskWrite via value => Sys2Proof.Machine.execToneMaskWrite via value s
  | .sweepEnd slot tones => Sys2Proof.Machine.execSweepEnd slot tones s
  | .probeExchangeEnd slot echoes gaps => Sys2Proof.Machine.execProbeExchangeEnd slot echoes gaps s
  | .fusion slot => Sys2Proof.Machine.execFusion slot s
  | .vehicleRequest port carrier msg => Sys2Proof.Machine.execVehicleRequest port carrier msg s
  | .vehicleResponse port carrier msg => Sys2Proof.Machine.execVehicleResponse port carrier msg s
  | .vehicleResponseTimeout carrier => Sys2Proof.Machine.execVehicleResponseTimeout carrier s
  | .hvilWithdrawal => Sys2Proof.Machine.execHvilWithdrawal s
  | .readbackMismatch land => Sys2Proof.Machine.execReadbackMismatch land s
  | .latchPullInEnd => Sys2Proof.Machine.execLatchPullInEnd s
  | .svpanelOpenEdge => Sys2Proof.Machine.execSvpanelOpenEdge s
  | .panelMasked cause => Sys2Proof.Machine.execPanelMasked cause s
  | .panelRearmed => Sys2Proof.Machine.execPanelRearmed s
  | .inventoryRead via => Sys2Proof.Machine.execInventoryRead via s
  | .inventoryBind via => Sys2Proof.Machine.execInventoryBind via s
  | .inventoryCheck via => Sys2Proof.Machine.execInventoryCheck via s
  | .periodicCheck => Sys2Proof.Machine.execPeriodicCheck s
  | .loopFieldOn vhfMv driverPercent => Sys2Proof.Machine.execLoopFieldOn vhfMv driverPercent s
  | .hfFrameExchangeEnd reply => Sys2Proof.Machine.execHfFrameExchangeEnd reply s
  | .originVerifyEnd entry => Sys2Proof.Machine.execOriginVerifyEnd entry s
  | .inventoryTimeout => Sys2Proof.Machine.execInventoryTimeout s
  | .bindingCommit via value => Sys2Proof.Machine.execBindingCommit via value s
  | .kaolinFieldPowerUp power reservoir torn => Sys2Proof.Machine.execKaolinFieldPowerUp power reservoir torn s
  | .kaolinDropOut => Sys2Proof.Machine.execKaolinDropOut s
  | .kaolinActivation found => Sys2Proof.Machine.execKaolinActivation found s
  | .kaolinDeselect => Sys2Proof.Machine.execKaolinDeselect s
  | .kaolinSelectAid p1 p2 apdu => Sys2Proof.Machine.execKaolinSelectAid p1 p2 apdu s
  | .kaolinSelectFid p1 p2 apdu => Sys2Proof.Machine.execKaolinSelectFid p1 p2 apdu s
  | .kaolinReadBinary p1 p2 apdu le => Sys2Proof.Machine.execKaolinReadBinary p1 p2 apdu le s
  | .kaolinVerify p1 p2 apdu => Sys2Proof.Machine.execKaolinVerify p1 p2 apdu s
  | .kaolinGetChallenge params apdu le => Sys2Proof.Machine.execKaolinGetChallenge params apdu le s
  | .kaolinMutualAuthenticate p1 p2 apdu => Sys2Proof.Machine.execKaolinMutualAuthenticate p1 p2 apdu s
  | .kaolinInternalAuthenticate p1 p2 apdu => Sys2Proof.Machine.execKaolinInternalAuthenticate p1 p2 apdu s
  | .liveSignAbandoned => Sys2Proof.Machine.execLiveSignAbandoned s
  | .kaolinUpdateBinary p1 p2 apdu => Sys2Proof.Machine.execKaolinUpdateBinary p1 p2 apdu s
  | .kaolinCommitFile p1 p2 apdu => Sys2Proof.Machine.execKaolinCommitFile p1 p2 apdu s
  | .kaolinUnknownCommand h header => Sys2Proof.Machine.execKaolinUnknownCommand h header s
  | .hostFileWrite via value => Sys2Proof.Machine.execHostFileWrite via value s
  | .fileCommitted => Sys2Proof.Machine.execFileCommitted s
  | .hostFileWriteTimeout => Sys2Proof.Machine.execHostFileWriteTimeout s
  | .statusFileRefresh => Sys2Proof.Machine.execStatusFileRefresh s
  | .ownerUidSignatureWrite via value => Sys2Proof.Machine.execOwnerUidSignatureWrite via value s
  | .pinDigestWrite via value => Sys2Proof.Machine.execPinDigestWrite via value s
  | .readerEntryWrite via sub value => Sys2Proof.Machine.execReaderEntryWrite via sub value s
  | .carryRefreshed => Sys2Proof.Machine.execCarryRefreshed s
  | .rootImport via value => Sys2Proof.Machine.execRootImport via value s
  | .cipherSelftestRequest via value => Sys2Proof.Machine.execCipherSelftestRequest via value s
  | .cipherSelftest passed shePassed => Sys2Proof.Machine.execCipherSelftest passed shePassed s
  | .cipherResume => Sys2Proof.Machine.execCipherResume s
  | .cipherCompareFail slot op => Sys2Proof.Machine.execCipherCompareFail slot op s
  | .cipherLockStale => Sys2Proof.Machine.execCipherLockStale s
  | .keyRegisterWaitTimeout slot => Sys2Proof.Machine.execKeyRegisterWaitTimeout slot s
  | .gcmOpenEnd slot tagHolds => Sys2Proof.Machine.execGcmOpenEnd slot tagHolds s
  | .attestationChallenge via value => Sys2Proof.Machine.execAttestationChallenge via value s
  | .firmwareImageHeader via header => Sys2Proof.Machine.execFirmwareImageHeader via header s
  | .firmwareInstallEnd payload readBack => Sys2Proof.Machine.execFirmwareInstallEnd payload readBack s
  | .activateBank via value => Sys2Proof.Machine.execActivateBank via value s
  | .certificateChainWrite via value => Sys2Proof.Machine.execCertificateChainWrite via value s
  | .vendorUidSignatureWrite via value => Sys2Proof.Machine.execVendorUidSignatureWrite via value s
  | .sheCompareFail slot => Sys2Proof.Machine.execSheCompareFail slot s
  | .rngHealthFail cell test => Sys2Proof.Machine.execRngHealthFail cell test s
  | .rngStartupTestEnd passed => Sys2Proof.Machine.execRngStartupTestEnd passed s
  | .rngRestartSource via value => Sys2Proof.Machine.execRngRestartSource via value s
  | .rngSeeded => Sys2Proof.Machine.execRngSeeded s
  | .rngNotReadyTimeout => Sys2Proof.Machine.execRngNotReadyTimeout s
  | .strictRequestServed => Sys2Proof.Machine.execStrictRequestServed s
  | .stretchReseed inst => Sys2Proof.Machine.execStretchReseed inst s
  | .rngStretchExhausted inst => Sys2Proof.Machine.execRngStretchExhausted inst s
  | .hostRandomRead via => Sys2Proof.Machine.execHostRandomRead via s
  | .nmtStart port node => Sys2Proof.Machine.execNmtStart port node s
  | .nmtStop port node => Sys2Proof.Machine.execNmtStop port node s
  | .nmtEnterPreOperational port node => Sys2Proof.Machine.execNmtEnterPreOperational port node s
  | .nmtResetCommunication port node => Sys2Proof.Machine.execNmtResetCommunication port node s
  | .nmtResetNode port node => Sys2Proof.Machine.execNmtResetNode port node s
  | .heartbeatReceived port node state => Sys2Proof.Machine.execHeartbeatReceived port node state s
  | .bootUpReceived port node => Sys2Proof.Machine.execBootUpReceived port node s
  | .partnerLost entry => Sys2Proof.Machine.execPartnerLost entry s
  | .syncReceived port counter => Sys2Proof.Machine.execSyncReceived port counter s
  | .rpdoReceived port num payload => Sys2Proof.Machine.execRpdoReceived port num payload s
  | .tpdoTrigger num => Sys2Proof.Machine.execTpdoTrigger num s
  | .usdoInitiate port client segmented => Sys2Proof.Machine.execUsdoInitiate port client segmented s
  | .usdoSegmentTimeout srv => Sys2Proof.Machine.execUsdoSegmentTimeout srv s
  | .busOff port => Sys2Proof.Machine.execBusOff port s
  | .busOffRecovery port => Sys2Proof.Machine.execBusOffRecovery port s
  | .busOffRecover via value => Sys2Proof.Machine.execBusOffRecover via value s
  | .errorPassive port => Sys2Proof.Machine.execErrorPassive port s
  | .rxOverrun port => Sys2Proof.Machine.execRxOverrun port s
  | .canBitrateWrite via sub value => Sys2Proof.Machine.execCanBitrateWrite via sub value s
  | .pdoMappingWrite via idx sub value => Sys2Proof.Machine.execPdoMappingWrite via idx sub value s
  | .lssSwitchStateGlobal port config => Sys2Proof.Machine.execLssSwitchStateGlobal port config s
  | .lssSwitchStateSelective port vendor product revision serial => Sys2Proof.Machine.execLssSwitchStateSelective port vendor product revision serial s
  | .lssConfigureNodeId port node => Sys2Proof.Machine.execLssConfigureNodeId port node s
  | .lssConfigureBitTiming port selector code => Sys2Proof.Machine.execLssConfigureBitTiming port selector code s
  | .lssActivateBitTiming port => Sys2Proof.Machine.execLssActivateBitTiming port s
  | .lssStoreConfiguration port => Sys2Proof.Machine.execLssStoreConfiguration port s
  | .lssInquireIdentity port part => Sys2Proof.Machine.execLssInquireIdentity port part s
  | .lssInquireNodeId port => Sys2Proof.Machine.execLssInquireNodeId port s
  | .lssIdentifyRemoteSlave port vendor product revLow revHigh serLow serHigh => Sys2Proof.Machine.execLssIdentifyRemoteSlave port vendor product revLow revHigh serLow serHigh s
  | .lssIdentifyNonConfigured port => Sys2Proof.Machine.execLssIdentifyNonConfigured port s
  | .lssFastscan port idNumber bitCheck lssSub lssNext => Sys2Proof.Machine.execLssFastscan port idNumber bitCheck lssSub lssNext s
  | .canWakePattern port pattern => Sys2Proof.Machine.execCanWakePattern port pattern s
  | .linkTrainingEnd lanes attrMap => Sys2Proof.Machine.execLinkTrainingEnd lanes attrMap s
  | .linkTrainingRetry => Sys2Proof.Machine.execLinkTrainingRetry s
  | .linkDegraded lane => Sys2Proof.Machine.execLinkDegraded lane s
  | .linkDown direction => Sys2Proof.Machine.execLinkDown direction s
  | .sahunNak packet => Sys2Proof.Machine.execSahunNak packet s
  | .readDataLanded tag data => Sys2Proof.Machine.execReadDataLanded tag data s
  | .readTimeoutLogged tag => Sys2Proof.Machine.execReadTimeoutLogged tag s
  | .postedWriteRoomTimeout slot => Sys2Proof.Machine.execPostedWriteRoomTimeout slot s
  | .writeAckReceived tag => Sys2Proof.Machine.execWriteAckReceived tag s
  | .postedWriteFailed tag cause => Sys2Proof.Machine.execPostedWriteFailed tag cause s
  | .samplePacketLanded seq lost record => Sys2Proof.Machine.execSamplePacketLanded seq lost record s
  | .eventPacketLanded seq lost event => Sys2Proof.Machine.execEventPacketLanded seq lost event s
  | .prefetchDiscarded => Sys2Proof.Machine.execPrefetchDiscarded s
  | .hostWindowRead via => Sys2Proof.Machine.execHostWindowRead via s
  | .hostWindowWrite via value => Sys2Proof.Machine.execHostWindowWrite via value s
  | .meterFold snapshot => Sys2Proof.Machine.execMeterFold snapshot s
  | .graceTimeExpiry => Sys2Proof.Machine.execGraceTimeExpiry s
  | .eptanConfigCheck readBack => Sys2Proof.Machine.execEptanConfigCheck readBack s
  | .zeroCurrentOffset via value => Sys2Proof.Machine.execZeroCurrentOffset via value s
  | .zeroOffsetEnd => Sys2Proof.Machine.execZeroOffsetEnd s
  | .tokenTopup via value => Sys2Proof.Machine.execTokenTopup via value s
  | .tokenTerms via value => Sys2Proof.Machine.execTokenTerms via value s
  | .tokenAdjust via value => Sys2Proof.Machine.execTokenAdjust via value s
  | .tokenJournalAck via value => Sys2Proof.Machine.execTokenJournalAck via value s
  | .receiptRequest via value => Sys2Proof.Machine.execReceiptRequest via value s
  | .periodicReceipt => Sys2Proof.Machine.execPeriodicReceipt s
  | .receiptWrite => Sys2Proof.Machine.execReceiptWrite s
  | .journalImport via length header => Sys2Proof.Machine.execJournalImport via length header s
  | .journalImportEnd cipher tag => Sys2Proof.Machine.execJournalImportEnd cipher tag s
  | .domainRequest via sub value => Sys2Proof.Machine.execDomainRequest via sub value s
  | .groupRequest via value => Sys2Proof.Machine.execGroupRequest via value s
  | .domainTransitionEnd found => Sys2Proof.Machine.execDomainTransitionEnd found s
  | .domainFaulted dom => Sys2Proof.Machine.execDomainFaulted dom s
  | .wake source subject => Sys2Proof.Machine.execWake source subject s
  | .wakeSourceStuck source => Sys2Proof.Machine.execWakeSourceStuck source s
  | .wakeSourceRearmed source => Sys2Proof.Machine.execWakeSourceRearmed source s
  | .capScan caps => Sys2Proof.Machine.execCapScan caps s
  | .baselineReacquire via value => Sys2Proof.Machine.execBaselineReacquire via value s
  | .rtcSet via value => Sys2Proof.Machine.execRtcSet via value s
  | .rtcSetSealed via value => Sys2Proof.Machine.execRtcSetSealed via value s
  | .rtcAlarm => Sys2Proof.Machine.execRtcAlarm s
  | .thermalGuard tempDeci => Sys2Proof.Machine.execThermalGuard tempDeci s
  | .startup x => Sys2Proof.Machine.execStartup x s
  | .bootRetry => Sys2Proof.Machine.execBootRetry s
  | .supplyReset rail aonLost => Sys2Proof.Machine.execSupplyReset rail aonLost s
  | .resetPin lowNs => Sys2Proof.Machine.execResetPin lowNs s
  | .supplyWarning vbatMv => Sys2Proof.Machine.execSupplyWarning vbatMv s
  | .tickWatchdog => Sys2Proof.Machine.execTickWatchdog s
  | .faultDetected detector cls slot engine detail => Sys2Proof.Machine.execFaultDetected detector cls slot engine detail s
  | .tamper detector => Sys2Proof.Machine.execTamper detector s
  | .clockRestored => Sys2Proof.Machine.execClockRestored s
  | .hardpanRelease via value => Sys2Proof.Machine.execHardpanRelease via value s
  | .hardpanRequest via value => Sys2Proof.Machine.execHardpanRequest via value s
  | .eventSelect via value => Sys2Proof.Machine.execEventSelect via value s
  | .credentialRecordWrite via idx sub value => Sys2Proof.Machine.execCredentialRecordWrite via idx sub value s
  | .credentialFind via value => Sys2Proof.Machine.execCredentialFind via value s
  | .journalSelect via value => Sys2Proof.Machine.execJournalSelect via value s
  | .journalBlockRead via => Sys2Proof.Machine.execJournalBlockRead via s
  | .gritRawCapture via sub => Sys2Proof.Machine.execGritRawCapture via sub s
  | .panelClosed => Sys2Proof.Machine.execPanelClosed s
  | .producerHeartbeat => Sys2Proof.Machine.execProducerHeartbeat s
  | .portErrorActive port => Sys2Proof.Machine.execPortErrorActive port s
  | .thermalGuardLeft tempDeci => Sys2Proof.Machine.execThermalGuardLeft tempDeci s

end Sys2Proof.Machine
end

