-- ==== Sys2Proof/Safety.lean ====
section
/-! DEFINITION. What a safe state and a safe step are, and the vocabulary of the statements: a command that completes, a host's access
that reaches its entry's own rule, and the parts of the state a step may change. -/

namespace Sys2Proof.Machine

/-- The stores keep their canonical form: keys rise, no dictionary entry equals its default, no stored credential record is
all zero (INVENTORY, Memory and ordering). -/
def Canonical (s : State) : Prop :=
  keysRise s.dict ∧ (∀ e ∈ s.dict, e.2 ≠ defaultAt e.1) ∧ keysRise s.credentials ∧ (∀ e ∈ s.credentials, allZero e.2 = false)

/-- The arrays have the sizes the manual gives them: 64 slots, 8 LF channels, 16 generators, 32 partner entries, 12 domains, 10 filtered
wake sources, 4 electrodes, 2 banks, 4 background calibrations (R41, R68, R144, R314, R322, R344, R404, R415, R417). -/
abbrev Shape (s : State) : Prop :=
  s.tilth.slots.length = 64 ∧ s.lf.channels.length = 8 ∧ s.radio.bg.length = 4 ∧ s.sig.banks.length = 2 ∧ s.rng.instances.length = 16
    ∧ s.net.partners.length = 32 ∧ s.power.domains.map (·.1) = Domain.all ∧ s.power.sources.length = 10 ∧ s.power.electrodes.length = 4

/-- A command after which the start lock may differ: the tick, whose verdict stage commits releases and stops, and the
events R174 names, with what resets the main die. -/
def mayChangeLock : Instr → Bool
  | .frameTick _ | .hvilWithdrawal | .supplyReset _ _ | .resetPin _ | .tickWatchdog | .faultDetected _ _ _ _ _
  | .cipherCompareFail _ _ | .sheCompareFail _ => true
  | _ => false

/-- The start lock's record is well formed (R39, R177): a released lock carries the cause release, a withheld one no credential. -/
def LockRecord (l : Lock) : Prop := if l.released then l.cause = 1 else l.cause ≠ 1 ∧ l.credential = 0

/-! ## Completion -/

/-- A command completes from a state: `exec` answers a next state, and it satisfies P. -/
def Completes (c : Instr) (s : State) (P : State → Prop) : Prop := ∃ t, exec c s = .next t ∧ P t

/-- A host's access passes the checks of R450 up to its entry's own rule: the port serves, the server carries no transfer, steps 1 to 5
hold, a DICTIONARY session is to be had where the access needs one, and for a sealed entry the active envelope covers the write. -/
abbrev Reached (s : State) (via : Via) (idx sub : Nat) (value : Bytes) : Prop :=
  s.portServes via.port = true ∧ s.carries via.srv = [] ∧ (s.server via.srv).slot = none ∧ s.writeRefused idx sub value = none
    ∧ (needsSession (entryRow? idx sub) = true → s.sessionRoom via = true)
    ∧ (isSealed idx sub = true → s.envelopeResult idx sub value = none)

/-- A host's access ends with a result: the server is free, its abort code is the table's, and the result is recorded (R356). -/
def Answered (t : State) (via : Via) (idx : Nat) (code : Code) : Prop :=
  (t.server via.srv).client = none ∧ (t.server via.srv).abortCode = abortCodeOf code idx true
    ∧ t.bytes 0x2B30 (srvSub via.srv) = codeBytes code

/-- The session of a slot has ended with a result (R42). -/
def Ended (t : State) (n : Nat) (result : Code) : Prop := (t.slot n).state = .closing ∧ (t.slot n).result = result

/-- An event of the current tick is in the log, under a number not used before (R441). -/
def Logged (s t : State) (code : Code) (subject : Nat) (data : Bytes) : Prop :=
  ∃ n flags, s.logs.nextEvent ≤ n ∧ (n, s.eventEntry code subject flags data) ∈ t.logs.events

/-! ## The parts of the state -/

/-- The parts a state has, one for each of its fields but the queue. -/
inductive Part where
  | life | sealing | tilth | lf | badges | radio | lock | latch | vehicle | inv | kaolin | cipher | sig | rng | net | bridge | ledger
  | power | platform | hardpan | logs | dict | credentials | hist1 | hist2 | free
  deriving DecidableEq, Repr

/-- A part is the same in two states. -/
def State.same (s t : State) : Part → Prop
  | .life => t.life = s.life
  | .sealing => t.sealing = s.sealing
  | .tilth => t.tilth = s.tilth
  | .lf => t.lf = s.lf
  | .badges => t.badges = s.badges
  | .radio => t.radio = s.radio
  | .lock => t.lock = s.lock
  | .latch => t.latch = s.latch
  | .vehicle => t.vehicle = s.vehicle
  | .inv => t.inv = s.inv
  | .kaolin => t.kaolin = s.kaolin
  | .cipher => t.cipher = s.cipher
  | .sig => t.sig = s.sig
  | .rng => t.rng = s.rng
  | .net => t.net = s.net
  | .bridge => t.bridge = s.bridge
  | .ledger => t.ledger = s.ledger
  | .power => t.power = s.power
  | .platform => t.platform = s.platform
  | .hardpan => t.hardpan = s.hardpan
  | .logs => t.logs = s.logs
  | .dict => t.dict = s.dict
  | .credentials => t.credentials = s.credentials
  | .hist1 => t.hist1 = s.hist1
  | .hist2 => t.hist2 = s.hist2
  | .free => t.free = s.free

/-- Two states differ at most in some parts. -/
def Only (ps : List Part) (s t : State) : Prop := ∀ p, p ∈ ps ∨ s.same t p

/-- The stored values of two states differ at most in entries of some objects. -/
def OnlyObjects (os : List Nat) (s t : State) : Prop := ∀ k, k / 256 ∈ os ∨ lookup k t.dict = lookup k s.dict

/-- Two states differ at most in some parts, and their stored values at most in entries of some objects. -/
def Within (ps : List Part) (os : List Nat) (s t : State) : Prop := Only ps s t ∧ OnlyObjects os s t

/-- What a command leaves alone: wherever it answers a next state, all but some parts, and among the stored values all but the entries
of some objects. -/
def Leaves (ps : List Part) (os : List Nat) (c : Instr) (s : State) : Prop := ∀ t, exec c s = .next t → Within ps os s t

/-- A host's access takes no transfer's place (R351): its server carries no content and holds no session. -/
abbrev Fresh (s : State) (via : Via) : Prop := s.carries via.srv = [] ∧ (s.server via.srv).slot = none

end Sys2Proof.Machine
end

