-- ==== Sys2Proof/Certificates/Slice0/Obligations.lean ====
section
/-! DEFINITION. The statements for the provers. OBLIGATIONS.json says of each which rule of spec/ it states,
    or which sections it rests on,
and repeats it in words. -/

section

open Sys2Proof Sys2Proof.Machine

/-- FRAME_TICK advances the counter and makes committed state visible two ticks on; late and overlong steps are counted, logged or ended
(R34, R35, R36, R40, R46, R49, R67). -/
def Obligations.TicksAdvanceAndStepsHaveDeadlines : Prop :=
  (∀ (s : State) (i : TickIn),
      s.running = true →
      s.atHighWater = false →
      s.sig.activating = false →
      Completes (.frameTick i) s fun t =>
        t.tilth.tick = (s.tilth.tick + 1) % 2 ^ 48
        ∧ t.tilth.executed = s.tilth.executed + 1
        ∧ t.hist2 = s.hist1
        ∧ t.hist1.dict = t.dict
        ∧ t.hist1.credentials = t.credentials
        ∧ t.hist1.life = t.life
        ∧ t.hist1.lock = t.lock
        ∧ t.hist1.latch = t.latch
        ∧ t.hist1.vehicle = t.vehicle
        ∧ t.hist1.ledger = t.ledger
        ∧ t.hist1.power = t.power
        ∧ t.hist1.tilth.slots = t.tilth.slots
        ∧ t.hist1.logs = t.logs)
  ∧
  (∀ (s : State) (i : TickIn),
      s.atHighWater = true →
      Completes (.frameTick i) s fun t =>
        Only [] s t)
  ∧
  (∀ (s : State),
      s.running = true →
      s.reached ((s.tilth.highWater + (tickModulus - 4096)) % tickModulus) = true →
      Completes (.tickHighWaterUpdate) s fun t =>
        t.tilth = { s.tilth with highWater := (s.tick + 8192) % tickModulus, highWaterCopy := (s.tick + 8192) % tickModulus })
  ∧
  (∀ (s : State) (slot : Nat) (k : SessionKind),
      (s.slot slot).state = .carried →
      3 ≤ (s.slot slot).carry →
      (s.slot slot).kind = some k →
      Completes (.stepTimeout slot) s fun t =>
        Ended t slot Rc.stepTimeout
        ∧ (t.slot slot).carry = 4)
  ∧
  (∀ (s : State) (slot : Nat),
      (s.slot slot).late = true →
      Completes (.deadlineLate slot) s fun t =>
        Logged s t Ev.deadlineLate slot (leBytes 1 slot)
        ∧ t.bytes 0x2102 5 = (s.bump 0x2102 5).bytes 0x2102 5
        ∧ t.slot slot = { s.slot slot with late := false }
        ∧ (∀ n, n ≠ slot → t.slot n = s.slot n))

/-- Admission fills a slot; expired requests leave the queue; page-ins, clod grants, timeouts and operation ends move a waiting slot on
(R41, R42, R43, R47, R53, R56, R457). -/
def Obligations.SlotsAreFilledAndMovedOn : Prop :=
  (∀ (s : State) (r : Request) (rest : List Request) (n : Nat),
      s.running = true →
      s.tilth.inTurn = r :: rest →
      s.requestFails r = none →
      s.placeOf r = some n →
      n ≤ s.tilth.slots.length →
      Completes (.sessionAdmitted) s fun t =>
        (t.slot n).kind = some r.kind
        ∧ (t.slot n).parent = r.parent
        ∧ (t.slot n).since = s.now
        ∧ (r.kind = .receipt → t.slot n = { admittedSlot .receipt r.work r.parent s.now with engine := some .sig }))
  ∧
  (∀ (s : State) (r : Request),
      r ∈ s.tilth.waiting →
      r.expired s.now = true →
      Completes (.admissionTimeout) s fun t =>
        (∀ q ∈ t.tilth.waiting, (q ∈ s.tilth.waiting ∧ q.expired s.now = false) ∨ (q.kind = .passport ∧ q.arrival = s.now))
        ∧ (∀ q ∈ s.tilth.waiting, q.expired s.now = false → q ∈ t.tilth.waiting))
  ∧
  (∀ (s : State) (index : Nat) (p : PageIn),
      (s.tilth.pageIns.find? fun q => q.index == index) = some p →
      p.requested < s.now →
      Completes (.credentialPageInDone index) s fun t =>
        (∀ q ∈ t.tilth.pageIns, q.index ≠ index)
        ∧ (∃ l ∈ t.tilth.cache, l.index = index ∧ l.record = if recordGood (s.credential index) then s.credential index else zeros 128))
  ∧
  (∀ (s : State) (slot : Nat) (k : SessionKind),
      (s.slot slot).kind = some k →
      (s.slot slot).waitsClods = true →
      (s.slot slot).wants ≤ s.tilth.available k →
      Completes (.clodGranted slot) s fun t =>
        (t.slot slot).state = .ready
        ∧ (t.slot slot).clods = (s.slot slot).clods + (s.slot slot).wants
        ∧ (t.slot slot).wants = 0)
  ∧
  (∀ (s : State) (slot : Nat),
      (s.slot slot).waitsClods = true →
      (s.slot slot).waitFrom + 8 ≤ s.now →
      Completes (.clodWaitTimeout slot) s fun t =>
        Ended t slot Rc.noResource)
  ∧
  (∀ (s : State) (slot : Nat) (result : Code),
      (s.slot slot).state = .waitingEngine →
      s.ownEnd slot = false →
      (s.slot slot).through = none →
      result ≠ Rc.ok →
      Completes (.engineOperationEnd slot result) s fun t =>
        Ended t slot result)
  ∧
  (∀ (s : State) (slot : Nat) (w : Through) (result : Code),
      (s.slot slot).state = .waitingEngine →
      s.ownEnd slot = false →
      (s.slot slot).through = some w →
      result ≠ Rc.ok →
      Completes (.engineOperationEnd slot result) s fun t =>
        Ended t slot Rc.hwFault
        ∧ t.credentials = s.credentials)
  ∧
  (∀ (s : State) (slot : Nat) (e : Engine),
      (∀ c, (s.slot slot).work ≠ .attestation c) →
      (s.slot slot).state = .waitingEngine →
      s.ownEnd slot = false →
      (s.slot slot).through = none →
      (s.slot slot).signing = false →
      (s.slot slot).engine = some e →
      Completes (.engineOperationEnd slot Rc.ok) s fun t =>
        t.slot slot = { s.slot slot with state := .ready, named := none, readyAt := s.now, carry := 0 }
        ∧ (∀ n, n ≠ slot → t.slot n = s.slot n))

/-- An abort request is accepted and marks its sessions in the next head; its completion ends them and reports the result (R61, R62,
R63, R64). -/
def Obligations.AbortPathEndsSessions : Prop :=
  (∀ (s : State) (via : Via) (fn : Nat) (value : Bytes),
      Reached s via 0x2110 fn value →
      leNat value = 1 →
      Completes (.abortRequest via fn value) s fun t =>
        Answered t via 0x2110 Rc.ok
        ∧ (t.tilth.aborts = if s.tilth.abortingOf (.fn fn) then s.tilth.aborts else s.tilth.aborts ++ [(.fn fn, s.now)]))
  ∧
  (∀ (s : State) (via : Via) (fn : Nat) (value : Bytes),
      Reached s via 0x2110 fn value →
      leNat value ≠ 1 →
      Completes (.abortRequest via fn value) s fun t =>
        Answered t via 0x2110 Rc.denied
        ∧ t.tilth = s.tilth)
  ∧
  (∀ (s : State) (via : Via) (slot : Nat) (value : Bytes),
      Reached s via 0x2111 slot value →
      (s.slot slot).acts = true →
      Completes (.sessionAbort via slot value) s fun t =>
        Answered t via 0x2111 Rc.ok
        ∧ (t.tilth.aborts = if s.tilth.abortingOf (.slot slot) then s.tilth.aborts else s.tilth.aborts ++ [(.slot slot, s.now)]))
  ∧
  (∀ (s : State) (fn : Nat) (idle : Bool),
      fn ≤ 12 →
      (s.tilth.aborts.any fun a => a.1 == .fn fn && a.2 < s.now) = true →
      Completes (.abortCompletion (.fn fn) idle) s fun t =>
        (∀ a ∈ t.tilth.aborts, a.1 ≠ .fn fn)
        ∧ (∀ n ∈ s.markAborts.abortSessions fn, (s.markAborts.slot n).state = .aborting → (t.slot n).state = .closing)
        ∧ (t.bytes 0x2112 fn = codeBytes (if idle || (abortDomain fn).any (fun d => !s.isOn d) then Rc.ok else Rc.hwFault)))
  ∧
  (∀ (s : State) (n : Nat) (idle : Bool),
      (s.slot n).acts = true →
      (s.tilth.aborts.any fun a => a.1 == .slot n && a.2 + 1 == s.now) = true →
      Completes (.abortCompletion (.slot n) idle) s fun t =>
        Ended t n Rc.aborted
        ∧ (∀ a ∈ t.tilth.aborts, a.1 ≠ .slot n))
  ∧
  (∀ (s : State) (n : Nat) (idle : Bool),
      (s.slot n).state = .aborting →
      (s.slot n).endedAt < s.now →
      Completes (.abortCompletion (.slot n) idle) s fun t =>
        Ended t n Rc.aborted)

/-- A mode request that R12 passes is answered PENDING, its commit puts the target in force, and SERVICE ends and overruns by its timers
(R11, R12, R13, R19, R33). -/
def Obligations.ModeChangesAreRequestedAndCommitted : Prop :=
  (∀ (s : State) (via : Via) (value : Bytes) (m : Mode),
      Reached s via 0x2001 1 value →
      Mode.ofCode (leNat value) = some m →
      s.modeCheck m true = none →
      Completes (.modeRequest via value) s fun t =>
        Answered t via 0x2001 Rc.pending
        ∧ t.life.pending = some { target := m, since := s.tick, firstCopy := false }
        ∧ t.bytes 0x2001 2 = codeBytes Rc.pending
        ∧ t.life.mode = s.life.mode)
  ∧
  (∀ (s : State) (via : Via) (value : Bytes) (m : Mode),
      Reached s via 0x2001 3 value →
      (s.mode = .bound ∧ m = .depot) ∨ (s.mode = .depot ∧ m = .bound) →
      Mode.ofCode (leNat value) = some m →
      s.modeCheck m false = none →
      Completes (.depotRequest via value) s fun t =>
        Answered t via 0x2001 Rc.pending
        ∧ t.life.pending = some { target := m, since := s.tick, firstCopy := false }
        ∧ t.bytes 0x2001 2 = codeBytes Rc.pending)
  ∧
  (∀ (s : State) (p : PendingChange),
      s.life.pending = some p →
      p.firstCopy = true →
      Completes (.modeCommit) s fun t =>
        t.life.mode = p.target
        ∧ t.life.prev = s.life.mode
        ∧ t.life.changeTick = s.tick
        ∧ t.life.pending = none
        ∧ t.bytes 0x2001 2 = codeBytes Rc.ok)
  ∧
  (∀ (s : State),
      s.mode = .service →
      s.exitDelayPassed = true →
      s.life.pending = none →
      Completes (.serviceExit) s fun t =>
        t.life.mode = .depot
        ∧ t.latch = { on := false, hold := false, since := s.tick }
        ∧ Logged s t Ev.serviceLeft 0 [])
  ∧
  (∀ (s : State),
      s.mode = .service →
      (s.life.periods + 1) * (s.num 0x2004 2 * ticksPerSecond) ≤ s.sinceTick s.life.serviceFrom →
      s.vehicle.panel.treatedOpen = true →
      Completes (.serviceOverrun) s fun t =>
        t.life = { s.life with periods := s.life.periods + 1 }
        ∧ Logged s t Ev.serviceOverrun 0 [])

/-- An envelope is accepted only with every check of R27; cancellation and expiry end it; public keys are checked before they are stored
(R25, R27, R28, R29, R305, R486). -/
def Obligations.EnvelopesComeAndGo : Prop :=
  (∀ (s : State) (via : Via) (value : Bytes),
      Reached s via 0x2020 1 value →
      Completes (.envelopeWrite via value) s fun t =>
        Answered t via 0x2020 ((s.envelopeCheck value).getD Rc.ok)
        ∧ t.bytes 0x2020 2 = codeBytes ((s.envelopeCheck value).getD Rc.ok)
        ∧ (s.envelopeCheck value = none → (t.sealing.active.map fun e => e.expiry) =
            some (s.tickIn (field value 36 2 * ticksPerSecond)))
        ∧ (s.envelopeCheck value ≠ none → t.sealing = s.sealing))
  ∧
  (∀ (s : State) (via : Via) (value : Bytes),
      Reached s via 0x2020 6 value →
      leNat value = 1 →
      s.sealing.active ≠ none →
      Completes (.envelopeCancel via value) s fun t =>
        Answered t via 0x2020 Rc.ok
        ∧ t.sealing.active = none
        ∧ t.sealing.expired = false)
  ∧
  (∀ (s : State) (e : Envelope),
      s.sealing.active = some e →
      s.reached e.expiry = true →
      Completes (.envelopeExpiry) s fun t =>
        t.sealing.active = none
        ∧ t.sealing.expired = true)
  ∧
  (∀ (s : State) (via : Via) (idx sub : Nat) (value : Bytes),
      Reached s via idx sub value →
      isPublicKey idx sub = true →
      keyModeAccepts s.mode idx = true →
      allZero value = false →
      s.sig.failed = false →
      Completes (.publicKeyWrite via idx sub value) s fun t =>
        (Answered t via idx (if Config.keyAcceptable value then Rc.ok else Rc.publicKeyInvalid))
        ∧ (t.bytes idx sub = if Config.keyAcceptable value then value else s.bytes idx sub))
  ∧
  (∀ (s : State) (via : Via) (idx sub : Nat) (value : Bytes),
      Reached s via idx sub value →
      isPublicKey idx sub = true →
      keyModeAccepts s.mode idx = true →
      allZero value = true →
      idx ≠ 0x2021 →
      Completes (.publicKeyWrite via idx sub value) s fun t =>
        Answered t via idx Rc.ok
        ∧ t.bytes idx sub = value)

/-- An LF operation ends with its result kept; a channel that detunes, trips or loses its supply ends it and takes its fault state (R83,
R85, R89, R91, R92, R93, R94, R97, R113). -/
def Obligations.LfOperationsEndAndFault : Prop :=
  (∀ (s : State) (r : LfRun) (vlfMv : Nat) (driven : List LfMeasure),
      s.lf.run = some r →
      s.lfEnds r = true →
      r.reports driven = true →
      7000 ≤ vlfMv →
      vlfMv ≤ 34000 →
      Completes (.lfOperationEnd vlfMv driven) s fun t =>
        t.lf.run = none
        ∧ t.bytes 0x2240 0 = (s.putNum 0x2240 0 vlfMv).bytes 0x2240 0
        ∧ (∀ ch, ch < s.lf.channels.length → (t.channel ch).budget = (s.channel ch).budget + drivenCharge driven ch - r.charge ch)
        ∧ (∀ b, s.burstsOf r driven = [b] → t.bytes 0x2206 (b.ch + 1) = (s.putNum 0x2206 (b.ch + 1) b.hz).bytes 0x2206 (b.ch + 1)
            ∧ t.bytes 0x2207 (b.ch + 1) = (s.putNum 0x2207 (b.ch + 1) b.code).bytes 0x2207 (b.ch + 1))
        ∧ (∀ a, r.op = .vector → (s.slot r.slot).inFlight = true → (s.slot r.slot).approach? = some a →
            (t.slot r.slot).approach? = some { a with vectors := .done (s.burstsOf r driven) s.tick }
            ∧ (t.slot r.slot).state = .waitingEvent))
  ∧
  (∀ (s : State) (r : LfRun) (u : LfUnit) (ch : Nat) (clamp : LfClamp) (driven : List LfMeasure),
      s.lf.run = some r →
      r.unit? = some u →
      s.driven ch = true →
      ch < s.lf.channels.length →
      3 ≤ clamp.first →
      clamp.first ≤ clamp.cycle →
      r.reports driven = true →
      clamp.cycle ≤ 8 →
      2 ≤ detunedCode (min u.target (s.channel ch).ceiling) clamp.first clamp.cycle →
      Completes (.lfDetuned ch clamp driven) s fun t =>
        ((t.channel ch).state = (if (s.channel ch).state = .disabled then .disabled else .detuned))
        ∧ (t.channel ch).ceiling = (detunedCode (min u.target (s.channel ch).ceiling) clamp.first clamp.cycle).toNat
        ∧ Logged s t Ev.lfDetuned ch (leBytes 1 (detunedCode (min u.target (s.channel ch).ceiling) clamp.first clamp.cycle).toNat)
        ∧ t.lf.run = some (r.noteDetuned ch))
  ∧
  (∀ (s : State) (r : LfRun) (u : LfUnit) (ch : Nat) (clamp : LfClamp) (driven : List LfMeasure),
      s.lf.run = some r →
      r.unit? = some u →
      s.driven ch = true →
      ch < s.lf.channels.length →
      3 ≤ clamp.first →
      clamp.first ≤ clamp.cycle →
      r.reports driven = true →
      8 < clamp.cycle ∨ detunedCode (min u.target (s.channel ch).ceiling) clamp.first clamp.cycle < 2 →
      Completes (.lfDetuned ch clamp driven) s fun t =>
        ((t.channel ch).state = (if (s.channel ch).state = .disabled then .disabled else .faultDetune))
        ∧ t.lf.run = none)
  ∧
  (∀ (s : State) (r : LfRun) (ch : Nat) (driven : List LfMeasure),
      s.lf.run = some r →
      s.driven ch = true →
      ch < s.lf.channels.length →
      r.reports driven = true →
      Completes (.lfOvercurrent ⟨ch, driven⟩) s fun t =>
        t.lf.run = none
        ∧ (2 ≤ (s.recentTrips ch).length → (t.channel ch).state = (if (s.channel ch).state =
            .disabled then .disabled else .faultOvercurrent))
        ∧ (t.channel ch).trips = s.tick :: s.recentTrips ch)
  ∧
  (∀ (s : State) (ch nominal : Nat),
      s.lf.run = none →
      s.lf.calibrating = some (ch, nominal) →
      ch < s.lf.channels.length →
      Completes (.lfOvercurrent ⟨ch, []⟩) s fun t =>
        t.lf.calibrating = none
        ∧ t.bytes 0x2221 0 = codeBytes Rc.lfOvercurrent
        ∧ (2 ≤ (s.recentTrips ch).length → (t.channel ch).state = (if (s.channel ch).state =
            .disabled then .disabled else .faultOvercurrent))
        ∧ (t.channel ch).trips = s.tick :: s.recentTrips ch)
  ∧
  (∀ (s : State) (r : LfRun) (vlfMv : Nat) (driven : List LfMeasure),
      s.lf.run = some r →
      r.reports driven = true →
      vlfMv < 7000 ∨ 34000 < vlfMv →
      Completes (.lfSupplyFault ⟨vlfMv, driven⟩) s fun t =>
        t.lf.run = none
        ∧ t.bytes 0x2240 0 = (s.putNum 0x2240 0 vlfMv).bytes 0x2240 0)
  ∧
  (∀ (s : State) (ch nominal vlfMv : Nat),
      s.lf.run = none →
      s.lf.calibrating = some (ch, nominal) →
      vlfMv < 7000 ∨ 34000 < vlfMv →
      Completes (.lfSupplyFault ⟨vlfMv, []⟩) s fun t =>
        t.lf.calibrating = none
        ∧ t.bytes 0x2221 0 = codeBytes Rc.lfSupply
        ∧ t.bytes 0x2240 0 = (s.putNum 0x2240 0 vlfMv).bytes 0x2240 0)
  ∧
  (∀ (s : State) (via : Via) (sub : Nat) (value : Bytes),
      Reached s via 0x2203 sub value →
      1 ≤ sub →
      sub ≤ s.lf.channels.length →
      (s.channel (sub - 1)).state.isFault = true →
      Completes (.lfFaultClear via sub value) s fun t =>
        Answered t via 0x2203 Rc.ok
        ∧ (t.channel (sub - 1)).state = .uncalibrated
        ∧ Logged s t Ev.lfFaultCleared (sub - 1) [])

/-- Channel calibration is commanded, started and ended; the enable mask and the nominal frequency apply to every channel (R81, R86,
R87, R92, R93, R94, R95). -/
def Obligations.LfCalibrationsRunAndSettingsApply : Prop :=
  (∀ (s : State) (via : Via) (value : Bytes),
      Reached s via 0x2220 0 value →
      s.lf.commanded = [] →
      Completes (.lfCalibrate via value) s fun t =>
        Answered t via 0x2220 Rc.ok
        ∧ t.lf.commanded = (maskBits (leNat value) 8).filter s.calibratable
        ∧ (t.bytes 0x2221 0 = codeBytes (if (maskBits (leNat value) 8).all s.calibratable then Rc.pending else Rc.lfChannelFault)))
  ∧
  (∀ (s : State) (ch : Nat),
      s.lf.nextCal = some ch →
      s.lf.run = none →
      s.lf.calibrating = none →
      s.isOn .lfa = true →
      s.classOneWaits = false →
      8000 ≤ s.lf.vlfMv →
      s.lf.vlfMv ≤ 32000 →
      (s.channel ch).budget + calCharge (calOnUs (s.seenNum 0x2200 1)) ≤ s.lfCapacity →
      s.thermalRefuses calEnergy = false →
      Completes (.lfCalibrationStart) s fun t =>
        t.lf.calibrating = some (ch, s.seenNum 0x2200 1)
        ∧ t.bytes 0x2240 0 = (s.putNum 0x2240 0 s.lf.vlfMv).bytes 0x2240 0)
  ∧
  (∀ (s : State) (ch nominal hz onUs : Nat) (temp : Int),
      s.lf.calibrating = some (ch, nominal) →
      calInWindow nominal hz = true →
      nominal = s.num 0x2200 1 →
      ch < s.lf.channels.length →
      Completes (.lfCalibrationEnd ch (.found hz) ⟨temp, onUs⟩) s fun t =>
        ((t.channel ch).state = (if (s.channel ch).state = .disabled then .disabled else .ready))
        ∧ (t.channel ch).ceiling = 15
        ∧ t.lf.calibrating = none
        ∧ t.bytes 0x2205 (ch + 1) = (s.putNum 0x2205 (ch + 1) hz).bytes 0x2205 (ch + 1))
  ∧
  (∀ (s : State) (r : LfRun) (ch hz onUs : Nat) (temp : Int),
      s.lf.calibrating = none →
      s.lf.run = some r →
      r.onset = none →
      r.cals = [ch] →
      r.op ≠ .vector →
      calInWindow r.nominal hz = true →
      transmittable r.op r.units = true →
      Completes (.lfCalibrationEnd ch (.found hz) ⟨temp, onUs⟩) s fun t =>
        t.lf.run = some { r with cals := [], onset := some s.tick })
  ∧
  (∀ (s : State) (r : LfRun) (ch onUs : Nat) (temp : Int),
      s.lf.calibrating = none →
      s.lf.run = some r →
      r.onset = none →
      r.cals = [ch] →
      r.op ≠ .vector →
      transmittable r.op (r.without ch).units = false →
      (s.slot r.slot).inFlight = true →
      ch < s.lf.channels.length →
      Completes (.lfCalibrationEnd ch .noZeroPhase ⟨temp, onUs⟩) s fun t =>
        t.lf.run = none
        ∧ ((t.channel ch).state = (if (s.channel ch).state = .disabled then .disabled else .faultCal))
        ∧ t.bytes 0x2221 0 = codeBytes Rc.lfCalFail
        ∧ Ended t r.slot Rc.lfNoChannel)
  ∧
  (∀ (s : State) (via : Via) (value : Bytes),
      Reached s via 0x2201 0 value →
      Completes (.lfChannelEnableWrite via value) s fun t =>
        Answered t via 0x2201 Rc.ok
        ∧ (t.lf = { s.lf.mapChannels fun i c => c.enable (bit (leNat value) i) with hostTick := some s.now })
        ∧ t.bytes 0x2201 0 = value)
  ∧
  (∀ (s : State) (via : Via) (value : Bytes),
      Reached s via 0x2200 1 value →
      Completes (.lfNominalFrequencyWrite via value) s fun t =>
        Answered t via 0x2200 Rc.ok
        ∧ (t.lf = { s.lf.mapChannels fun _ c => { c with state := if c.state = .disabled then .disabled else .uncalibrated, ceiling := 15 } with hostTick := some s.now })
        ∧ t.bytes 0x2200 1 = value)

/-- A touch or a host request that acts asks for an approach; a round closes with a badge session asked for; an overlong approach ends
(R100, R101, R107, R108, R119). -/
def Obligations.ApproachesBeginAndRoundsClose : Prop :=
  (∀ (s : State) (electrode : Nat),
      s.running = true →
      s.touchDeclared electrode = true →
      s.approaching = false →
      s.approachWaits = false →
      s.touchActs = true →
      s.fleetReady = true →
      s.rootBad 2 = false →
      s.tilth.waiting.length < 16 →
      Completes (.touchEvent electrode) s fun t =>
        t.tilth.waiting = s.tilth.waiting ++ [({ kind := .approach, arrival := s.now, parent := none, work := .approach (s.newApproach electrode) } : Request)])
  ∧
  (∀ (s : State) (electrode : Nat),
      s.running = true →
      s.touchDeclared electrode = true →
      s.approaching = true ∨ s.approachWaits = true →
      Completes (.touchEvent electrode) s fun t =>
        t.tilth = s.tilth
        ∧ Logged s t Ev.touchIgnored electrode [])
  ∧
  (∀ (s : State) (via : Via) (value : Bytes),
      Reached s via 0x2310 0 value →
      s.approaching = false →
      s.approachWaits = false →
      s.touchActs = true →
      s.fleetReady = true →
      s.rootBad 2 = false →
      s.tilth.waiting.length < 16 →
      Completes (.hostApproachRequest via value) s fun t =>
        Answered t via 0x2310 Rc.ok
        ∧ t.tilth.waiting = s.tilth.waiting ++ [({ kind := .approach, arrival := s.now, parent := none, work := .approach (s.newApproach (s.seenNum 0x2310 1)) } : Request)])
  ∧
  (∀ (s : State) (slot : Nat) (a : Approach) (x : Answer) (collided crcFailures h : Nat),
      h = handleOf x a.rk →
      (s.slot slot).approach? = some a →
      (s.slot slot).acts = true →
      a.roundDone = false →
      (s.radio.air.any fun y => y.slot == slot && y.close ≤ s.now) = true →
      x.slot < a.slots →
      x.payload.length = 4 →
      x.legacy = false →
      a.handles.length < s.seenNum 0x2306 0 →
      s.tilth.waiting.length < 16 →
      Completes (.roundEnd slot [x] ⟨collided, crcFailures⟩) s fun t =>
        (h ≠ 0 → h ≠ 0xFFFFFFFF → t.tilth.waiting = s.tilth.waiting ++
            [{ kind := .badge, arrival := s.now, parent := some slot, work := .badge (newBadge x.slot false h (s.choosePort x.rx)) }])
        ∧ (h ≠ 0 → h ≠ 0xFFFFFFFF → (t.slot slot).approach? =
            some { a with roundDone := true, collided := collided, answers := a.answers + 1, handles := a.handles ++ [h] })
        ∧ t.radio.air = none)
  ∧
  (∀ (s : State) (slot : Nat),
      (s.slot slot).kind = some .approach →
      (s.slot slot).inFlight = true →
      s.lasted slot (s.seenNum 0x2305 3) = true →
      Completes (.approachTimeout slot) s fun t =>
        Ended t slot Rc.approachTimeout)

/-- A RESPONSE, LRESPONSE or VREPORT is accepted only with its proof; a missing reply is retried up to the limit and then ends the badge
(R49, R105, R108, R110, R111, R114, R118, R119). -/
def Obligations.BadgesAreCheckedAndRetried : Prop :=
  (∀ (s : State) (slot : Nat) (rx : Reception) (payload : Bytes) (p : Nat) (a : Approach) (b : Badge),
      s.badgeIn slot BadgePhase.challenged? = some (p, a, b) →
      b.legacy = false →
      payload.length = 48 →
      s.replyDue slot 48 = true →
      Completes (.badgeResponse slot rx payload) s fun t =>
        (s.openIdBox a b payload = none → Ended t slot Rc.authFail)
        ∧ (∀ idBox i, s.openIdBox a b payload = some idBox → findCredential s.seen.credentials (field idBox 0 4) = some i →
            (s.slot slot).pins.length < 4 → s.badgeRefusal a 1 ((s.lookupNow slot i).record i) = none → field idBox 0 4 ∉ a.accepted →
            s.proofHolds a { b with ks := derive .sess (derive .badge s.ownerRoot (leBytes 4 (field idBox 0 4))) (a.rn ++ leBytes 4 b.handle ++ b.cc ++ idBox.drop 4) } payload = true → ((t.slot p).approach?.map (·.accepted)) = some (field idBox 0 4 :: a.accepted)))
  ∧
  (∀ (s : State) (slot : Nat) (rx : Reception) (payload : Bytes) (p : Nat) (a : Approach) (b : Badge),
      s.badgeIn slot BadgePhase.challenged? = some (p, a, b) →
      b.legacy = true →
      payload.length = 20 →
      s.replyDue slot 20 = true →
      Completes (.lresponse slot rx payload) s fun t =>
        (payload.drop 4 ≠ s.legacyProof a b (derive .badge7100 s.ownerRoot (leBytes 4 b.handle)) (payload.take 4) →
            Ended t slot Rc.authFail)
        ∧ (∀ i, payload.drop 4 = s.legacyProof a b (derive .badge7100 s.ownerRoot (leBytes 4 b.handle)) (payload.take 4) →
            findCredential s.seen.credentials b.credId = some i → (s.slot slot).pins.length < 4 →
            s.badgeRefusal a 2 ((s.lookupNow slot i).record i) = none →
            field ((s.lookupNow slot i).record i) 28 4 < leNat (payload.take 4) → b.credId ∉ a.accepted →
            (t.slot slot).through = some { index := i, record := setField (s.credential i) 28 (payload.take 4), outcome := none }
            ∧ (t.slot slot).state = .ready ∧ (t.slot slot).engine = some .nvm))
  ∧
  (∀ (s : State) (slot : Nat) (rx : Reception) (payload : Bytes) (p : Nat) (a : Approach) (b : Badge),
      s.badgeIn slot (· == .polled) = some (p, a, b) →
      s.changed slot = false →
      reportLen b.legacy payload.length = true →
      s.replyDue slot payload.length = true →
      Completes (.vreport slot ⟨rx, payload⟩) s fun t =>
        (s.openReport a b payload = none → Ended t slot Rc.authFail)
        ∧ (∀ body, s.openReport a b payload = some body → byteAt body 0 = a.order.length → body.length = 2 + 6 * a.order.length →
            (t.slot slot).badge? = some { b with port := s.choosePort rx, phase := .reported, next := .fusion, report := some { k := a.order.length, sat := byteAt body 1, vectors := reportVectors a.order.length (body.drop 2) } }))
  ∧
  (∀ (s : State) (slot p : Nat) (a : Approach) (b : Badge) (crcFailed : Bool),
      s.badgeIn slot BadgePhase.awaits = some (p, a, b) →
      (s.radio.air.any fun x => x.slot == slot && x.reply && x.close ≤ s.now) = true →
      b.retries < s.seenNum 0x2305 2 →
      Completes (.badgeReplyMissing ⟨slot, crcFailed⟩) s fun t =>
        (t.slot slot).badge? = some { b with retries := b.retries + 1 }
        ∧ (t.slot slot).state = .ready
        ∧ (t.slot slot).engine = some .rf
        ∧ t.radio.air = none
        ∧ ((s.bookings slot).all (fun x => x.2 < s.now + 4) = true → (t.slot slot).named = some (s.tickIn 4)))
  ∧
  (∀ (s : State) (slot p : Nat) (a : Approach) (b : Badge) (crcFailed : Bool),
      s.badgeIn slot BadgePhase.awaits = some (p, a, b) →
      (s.radio.air.any fun x => x.slot == slot && x.reply && x.close ≤ s.now) = true →
      s.seenNum 0x2305 2 ≤ b.retries →
      Completes (.badgeReplyMissing ⟨slot, crcFailed⟩) s fun t =>
        Ended t slot Rc.timeout)
  ∧
  (∀ (s : State) (slot : Nat) (b : Badge),
      s.missedTick (s.slot slot) = true →
      (s.slot slot).badge? = some b →
      b.next = .packet →
      b.retries < s.seenNum 0x2305 2 →
      Completes (.deadlineMissed slot) s fun t =>
        (t.slot slot).badge? = some { b with retries := b.retries + 1 }
        ∧ (t.slot slot).state = .ready
        ∧ ((s.bookings slot).all (fun x => x.2 < s.now + 4) = true → (t.slot slot).named = some (s.tickIn 4))
        ∧ t.bytes 0x2102 5 = (s.bump 0x2102 5).bytes 0x2102 5)
  ∧
  (∀ (s : State) (slot : Nat),
      (s.slot slot).kind = some .badge →
      (s.slot slot).inFlight = true →
      s.lasted slot (s.seenNum 0x2305 4) = true →
      Completes (.badgeSessionTimeout slot) s fun t =>
        Ended t slot Rc.timeout)

/-- The synthesiser is calibrated on command, on temperature and on retry; success opens the radio, failure marks it FAILED (R134, R135,
R136, R137). -/
def Obligations.SynthesiserIsCalibrated : Prop :=
  (∀ (s : State) (via : Via) (value : Bytes),
      Reached s via 0x2420 0 value →
      leNat value ≠ 0 →
      s.radio.synth.running = false →
      s.radio.synth.commanded = false →
      s.radio.synth.due = none →
      s.synthFree = true →
      s.radioSessions = false →
      Completes (.synthCalibrate via value) s fun t =>
        Answered t via 0x2420 Rc.ok
        ∧ t.radio.synth = { s.radio.synth with commanded := true, running := true, lastTry := s.tick })
  ∧
  (∀ (s : State) (temp : Int),
      s.running = true →
      s.isOn .rfx = true →
      (s.dieReads temp).synthMoved temp = true →
      s.radio.synth.due = none →
      s.radio.synth.running = false →
      s.radio.synth.commanded = false →
      s.radio.failed = false →
      s.radioInUse = false →
      Completes (.rfTemperatureCheck temp) s fun t =>
        t.radio.synth = { s.radio.synth with running := true, lastTry := s.tick }
        ∧ t.power.die = temp)
  ∧
  (∀ (s : State),
      s.synthFree = true →
      s.radio.synth.commanded = true ∨ (s.radio.synth.due ≠ none ∧ s.radioInUse = false ∧ s.asSeen.radioInUse = false) →
      Completes (.synthCalStart) s fun t =>
        t.radio.synth = { s.radio.synth with running := true, lastTry := s.tick })
  ∧
  (∀ (s : State) (d : Tick),
      s.radio.synth.due = some d →
      s.radioInUse = true →
      s.radio.synth.overdue = false →
      20000 ≤ s.sinceTick d →
      Completes (.rfSynthCalOverdue) s fun t =>
        t.radio.synth.overdue = true
        ∧ t.radio.gateClosed = true
        ∧ Logged s t Ev.rfSynthCalOverdue 0 (leBytes 6 d))
  ∧
  (∀ (s : State) (subBands : List (Option (Nat × Nat))) (temp : Int),
      s.radio.synth.running = true →
      7 ≤ s.sinceTick s.radio.synth.lastTry →
      subBands.length = 16 →
      subBands.all (·.isSome) = true →
      Completes (.synthCalEnd subBands temp) s fun t =>
        t.radio.synth = { s.radio.synth with running := false, commanded := false, due := none, overdue := false, temp := temp }
        ∧ t.radio.bands = subBands.filterMap id
        ∧ t.radio.failed = false
        ∧ t.radio.gateClosed = false
        ∧ t.bytes 0x2421 1 = codeBytes Rc.ok
        ∧ Logged s t Ev.rfSynthCalibrated 0 (intBytes 2 temp))
  ∧
  (∀ (s : State) (subBands : List (Option (Nat × Nat))) (temp : Int),
      s.radio.synth.running = true →
      7 ≤ s.sinceTick s.radio.synth.lastTry →
      subBands.all (·.isSome) = false →
      Completes (.synthCalEnd subBands temp) s fun t =>
        t.radio.synth = { s.radio.synth with running := false, commanded := false, due := none, overdue := false }
        ∧ t.radio.bands = s.radio.bands
        ∧ t.radio.failed = true
        ∧ t.bytes 0x2421 1 = codeBytes Rc.rfCalFail)
  ∧
  (∀ (s : State),
      s.radio.failed = true →
      s.isOn .rfx = true →
      s.radio.synth.running = false →
      10 * ticksPerSecond ≤ s.sinceTick s.radio.synth.lastTry →
      Completes (.rfCalRetry) s fun t =>
        t.radio.synth = { s.radio.synth with running := true, lastTry := s.tick })

/-- A transmission defers for lock up to eight times; background calibrations record themselves; CXGNT ends, masks and rearms (R138,
R144, R145, R147, R148). -/
def Obligations.TransmissionsDeferAndCoexist : Prop :=
  (∀ (s : State) (slot : Nat),
      s.transmits slot = true →
      (s.slot slot).sweepsNext = false →
      (s.slot slot).deferred < 8 →
      Completes (.rfTxDeferred slot) s fun t =>
        (t.slot slot).deferred = (s.slot slot).deferred + 1
        ∧ (t.slot slot).named = some (s.tickIn 1)
        ∧ (t.slot slot).state = .ready
        ∧ t.bytes 0x2460 4 = (s.bump 0x2460 4).bytes 0x2460 4
        ∧ Logged s t Ev.rfTxDeferred slot [])
  ∧
  (∀ (s : State) (slot : Nat) (b : Badge),
      s.transmits slot = true →
      8 ≤ (s.slot slot).deferred →
      (s.slot slot).badge? = some b →
      b.next = .packet →
      b.retries < s.seenNum 0x2305 2 →
      Completes (.rfLockFail slot) s fun t =>
        (t.slot slot).deferred = 0
        ∧ (t.slot slot).badge? = some { b with retries := b.retries + 1 }
        ∧ ((s.bookings slot).all (fun x => x.2 < s.now + 4) = true → (t.slot slot).named = some (s.tickIn 4)))
  ∧
  (∀ (s : State) (slot : Nat),
      s.transmits slot = true →
      (s.slot slot).sweepsNext = true →
      Completes (.rfLockFail slot) s fun t =>
        Ended t slot Rc.rfLockFail)
  ∧
  (∀ (s : State) (which : BgCal) (passed : Bool) (tempDeci : Int) (f : BgFound),
      s.bgGap = true →
      (bgOrder.find? fun b => s.bgDue b tempDeci) = some which →
      bgPlace which < s.radio.bg.length →
      Completes (.backgroundCal which passed tempDeci f) s fun t =>
        t.bg which = { lastRun := s.tick, lastTemp := tempDeci, forced := false }
        ∧ t.radio.bgUntil = s.now + bgTicks which)
  ∧
  (∀ (s : State) (which : BgCal) (passed : Bool) (tempDeci : Int) (f : BgFound),
      s.bgGap = true →
      (bgOrder.find? fun b => s.bgDue b tempDeci) = some which →
      bgPlace which < s.radio.bg.length →
      which = .iqImage →
      passed = true →
      Completes (.backgroundCal which passed tempDeci f) s fun t =>
        t.radio.iqGain = f.gain
        ∧ t.radio.iqPhase = f.phase
        ∧ t.bytes 0x2404 1 = (s.putNum 0x2404 1 (min 80 f.imageDb)).bytes 0x2404 1)
  ∧
  (∀ (s : State) (c : RawCommand),
      s.cxHeeded = true →
      s.radio.raw = some c →
      c.sends = true →
      s.radio.settling = false →
      Completes (.cxgntWithdrawn) s fun t =>
        t.radio.raw = none
        ∧ t.bytes 0x2451 1 = codeBytes Rc.rfCoexDenied)
  ∧
  (∀ (s : State) (a : Air),
      s.cxHeeded = true →
      s.radio.raw = none →
      s.radio.air = some a →
      a.needsGrant = true →
      a.kind ≠ .packet →
      (s.slot a.slot).inFlight = true →
      Completes (.cxgntWithdrawn) s fun t =>
        Ended t a.slot Rc.rfCoexDenied
        ∧ t.radio.air = none)
  ∧
  (∀ (s : State) (d : Tick),
      s.radio.cxHeld = some d →
      s.cxHeeded = true →
      2 * ticksPerSecond < s.sinceTick d →
      Completes (.rfCoexStuck) s fun t =>
        t.radio.cxMask = .stuck
        ∧ t.radio.cxMaskedAt = s.tick
        ∧ Logged s t Ev.rfCoexStuck 0 [])
  ∧
  (∀ (s : State),
      maskEnds s.radio.cxMask (s.sinceTick s.radio.cxMaskedAt) = true →
      Completes (.rfCoexRearmed) s fun t =>
        t.radio.cxMask = .armed
        ∧ t.radio.cxHeld = none
        ∧ Logged s t Ev.rfCoexRearmed 0 [])

/-- A raw command that the radio accepts becomes the active one and is PENDING; STOP and its end leave none active (R149, R150, R151). -/
def Obligations.RawCommandsRunAndEnd : Prop :=
  (∀ (s : State) (via : Via) ,
      Reached s via 0x2450 1 [1] →
      s.rawRefused = none →
      Completes (.rawTxCw via) s fun t =>
        Answered t via 0x2450 Rc.ok
        ∧ t.radio.raw = some .txCw
        ∧ t.radio.rawFrom = s.tick
        ∧ t.radio.settling = true
        ∧ t.bytes 0x2451 1 = codeBytes Rc.pending)
  ∧
  (∀ (s : State) (via : Via) ,
      Reached s via 0x2450 1 [2] →
      s.rawRefused = none →
      Completes (.rawTxPrbs via) s fun t =>
        Answered t via 0x2450 Rc.ok
        ∧ t.radio.raw = some .txPrbs
        ∧ t.radio.rawFrom = s.tick
        ∧ t.radio.settling = true
        ∧ t.bytes 0x2451 1 = codeBytes Rc.pending)
  ∧
  (∀ (s : State) (via : Via) ,
      Reached s via 0x2450 1 [3] →
      s.rawRefused = none →
      Completes (.rawTxPacket via) s fun t =>
        Answered t via 0x2450 Rc.ok
        ∧ t.radio.raw = some .txPacket
        ∧ t.radio.rawFrom = s.tick
        ∧ t.radio.settling = true
        ∧ t.bytes 0x2451 1 = codeBytes Rc.pending)
  ∧
  (∀ (s : State) (via : Via) ,
      Reached s via 0x2450 1 [4] →
      s.rawRefused = none →
      Completes (.rawRx via) s fun t =>
        Answered t via 0x2450 Rc.ok
        ∧ t.radio.raw = some .rx
        ∧ t.radio.rawFrom = s.tick
        ∧ t.radio.settling = true
        ∧ t.bytes 0x2451 1 = codeBytes Rc.pending)
  ∧
  (∀ (s : State) (via : Via) ,
      Reached s via 0x2450 1 [5] →
      s.rawRefused = none →
      Completes (.rawScan via) s fun t =>
        Answered t via 0x2450 Rc.ok
        ∧ t.radio.raw = some .scan
        ∧ t.radio.rawFrom = s.tick
        ∧ t.radio.settling = true
        ∧ t.bytes 0x2451 1 = codeBytes Rc.pending)
  ∧
  (∀ (s : State) (via : Via) ,
      Reached s via 0x2450 1 [6] →
      s.rawRefused = none →
      Completes (.rawCapture via) s fun t =>
        Answered t via 0x2450 Rc.ok
        ∧ t.radio.raw = some .capture
        ∧ t.radio.rawFrom = s.tick
        ∧ t.radio.settling = true
        ∧ t.bytes 0x2451 1 = codeBytes Rc.pending)
  ∧
  (∀ (s : State) (via : Via) ,
      Reached s via 0x2450 1 [0] →
      rawAllowed s.mode = true →
      s.radio.raw ≠ some .txPacket →
      s.radio.raw ≠ some .scan →
      Completes (.rawStop via) s fun t =>
        Answered t via 0x2450 Rc.ok
        ∧ t.radio.raw = none
        ∧ t.bytes 0x2451 1 = codeBytes Rc.ok)
  ∧
  (∀ (s : State) (via : Via) (c : RawCommand),
      Reached s via 0x2450 1 [0] →
      rawAllowed s.mode = true →
      s.radio.raw = some c →
      c = .txPacket ∨ c = .scan →
      s.radio.settling = false →
      Completes (.rawStop via) s fun t =>
        Answered t via 0x2450 Rc.ok
        ∧ t.radio.raw = some c
        ∧ t.radio.rawStop = true)
  ∧
  (∀ (s : State),
      s.radio.raw = some .txCw →
      s.radio.settling = false →
      s.radio.rawStop = false →
      s.radio.rawUntil ≤ s.now →
      Completes (.rawCommandEnd .done) s fun t =>
        t.radio.raw = none
        ∧ t.bytes 0x2451 1 = codeBytes Rc.ok)
  ∧
  (∀ (s : State) (packets crcFailures : Nat) (last : Bytes) (rssi : Int),
      s.radio.raw = some .rx →
      s.radio.settling = false →
      s.radio.rawStop = false →
      s.radio.rawUntil ≤ s.now →
      Completes (.rawCommandEnd (.received packets crcFailures last rssi)) s fun t =>
        t.radio.raw = none
        ∧ t.bytes 0x2451 1 = codeBytes Rc.ok
        ∧ t.bytes 0x2451 3 = (s.putNum 0x2451 3 (counterAfter 0x245103 2 0 packets)).bytes 0x2451 3
        ∧ t.bytes 0x2451 5 = (s.put 0x2451 5 (last.take 255)).bytes 0x2451 5
        ∧ (packets ≠ 0 → t.bytes 0x2440 1 = (s.putInt 0x2440 1 (clampRssi rssi)).bytes 0x2440 1))
  ∧
  (∀ (s : State) (rssi : Bytes),
      s.radio.raw = some .scan →
      s.radio.settling = false →
      s.radio.rawStop = false →
      s.radio.rawUntil ≤ s.now →
      Completes (.rawCommandEnd (.scanned rssi)) s fun t =>
        t.radio.raw = none
        ∧ t.bytes 0x2451 1 = codeBytes Rc.ok
        ∧ t.bytes 0x2452 0 = padTo 79 rssi)
  ∧
  (∀ (s : State) (samples : Bytes),
      s.radio.raw = some .capture →
      s.radio.settling = false →
      s.radio.rawStop = false →
      s.radio.rawUntil ≤ s.now →
      Completes (.rawCommandEnd (.captured samples)) s fun t =>
        t.radio.raw = none
        ∧ t.bytes 0x2451 1 = codeBytes Rc.ok
        ∧ t.bytes 0x2441 0 = padTo 4096 samples)
  ∧
  (∀ (s : State) (c : RawCommand),
      s.radio.raw = some c →
      s.radio.settling = false →
      s.radio.rawStop = false →
      s.now = s.radio.rawStart + 1 →
      Completes (.rawCommandEnd .noLock) s fun t =>
        t.radio.raw = none
        ∧ t.bytes 0x2451 1 = codeBytes Rc.rfLockFail)

/-- A sweep and the probes are kept with the badge, FUSION commits the verdict of R165, and the tone mask is stored (R156, R161, R162,
R163, R165, R166, R170). -/
def Obligations.RangingIsFusedIntoAVerdict : Prop :=
  (∀ (s : State) (slot : Nat) (tones : List Tone) (p : Nat) (a : Approach) (b : Badge) (x : Air),
      s.badgeIn slot (· == .confirmed) = some (p, a, b) →
      s.radio.air = some x →
      x.slot = slot →
      x.kind = .sweep →
      s.now = x.close →
      Completes (.sweepEnd slot tones) s fun t =>
        (t.slot slot).badge? = some { b with sweep := some (s.sweepResult b tones) }
        ∧ t.radio.air = some { x with kind := .probes, txEnd := x.from_ + 246, close := x.from_ + 246 })
  ∧
  (∀ (s : State) (slot : Nat) (echoes : List (Option ProbeEcho)) (gaps : List Nat) (p : Nat) (a : Approach) (b : Badge) (x : Air),
      s.badgeIn slot (· == .confirmed) = some (p, a, b) →
      s.radio.air = some x →
      x.slot = slot →
      x.kind = .probes →
      s.now = x.close →
      a.vectors = .none ∨ a.vectors = .running →
      Completes (.probeExchangeEnd slot echoes gaps) s fun t =>
        (t.slot slot).badge? = some { b with probes := some (probeResult b echoes gaps) }
        ∧ (t.slot slot).state = .waitingEvent
        ∧ t.radio.air = none)
  ∧
  (∀ (s : State) (slot p : Nat) (a : Approach) (b : Badge) (w : SweepResult) (q : ProbeResult) (m : Measured),
      m = { sweep := w, probes := q, lf := s.lfPosition a b, port := point (s.seenBytes 0x2511 (b.sweepPort + 1)) } →
      s.badgeIn slot (· == .reported) = some (p, a, b) →
      (s.slot slot).fuses = true →
      b.sweep = some w →
      b.probes = some q →
      Completes (.fusion slot) s fun t =>
        t.bytes 0x2500 1 = codeBytes (s.fuse m)
        ∧ Logged s t Ev.verdictCommitted slot (verdictData m (s.fuse m) b.credId)
        ∧ (s.fuse m = Rc.ok → a.test = false → (t.slot slot).badge? = some { b with phase := .qualified }
            ∧ (t.slot p).engine = some .cpu ∧ (t.slot p).readyAt = s.now + 1))
  ∧
  (∀ (s : State) (via : Via) (value : Bytes),
      Reached s via 0x2501 0 value →
      70 ≤ maskCount value →
      leNat value < 2 ^ 79 →
      Completes (.toneMaskWrite via value) s fun t =>
        Answered t via 0x2501 Rc.ok
        ∧ t.bytes 0x2501 0 = value)

/-- A REQUEST that passes R193 opens an exchange that waits with its CHALLENGE; a RESPONSE that does not open counts as a failure, one
that opens is carried out (R185, R186, R187, R193, R194, R195, R197, R198). -/
def Obligations.ExchangesChallengeAndClose : Prop :=
  (∀ (s : State) (port : Port) (c : Carrier) (msg : Bytes) (op : ExchangeOp) (i n : Nat),
      s.counterpart op (field msg 2 4) = .ok (some i) →
      c = .pdo →
      s.portServes port = true →
      (s.port port).nmt = .operational →
      byteAt msg 0 = 1 →
      exchangeOp? (byteAt msg 1) = some op →
      s.mode ≠ .stationary →
      opAllowed s.mode op = true →
      s.drawState 3 = .ready →
      s.exchangeOn c = none →
      (s.ofKind .release).length < 4 →
      s.tilth.gateAdmits .release = true →
      2 ≤ s.tilth.available .release →
      s.freeSlot .release = some n →
      n ≤ s.tilth.slots.length →
      Completes (.vehicleRequest port c msg) s fun t =>
        (t.slot n).exchange? = some { carrier := c, port := port, op := op, cid := field msg 2 4, exid := s.vehicle.exid, cv := s.fresh 16, vn := slice msg 8 12, site := false, credIndex := some i, ke := [], waiting := true, challengeTick := s.now }
        ∧ (t.slot n).pins = [i]
        ∧ t.vehicle.exid = nextExid s.vehicle.exid
        ∧ t.bytes 0x2611 2 = padTo 32 (exchangeHeader 2 (exchangeOpCode op) (field msg 2 4) s.vehicle.exid ++ s.fresh 16 ++ [1, 0]))
  ∧
  (∀ (s : State) (port : Port) (v : Srv) (c : Carrier) (msg : Bytes) (op : ExchangeOp) (i n : Nat),
      s.counterpart op (field msg 2 4) = .ok (some i) →
      c = .usdo v →
      msg.length = 20 →
      Reached s ⟨port, v⟩ 0x2610 1 msg →
      byteAt msg 0 = 1 →
      exchangeOp? (byteAt msg 1) = some op →
      s.mode ≠ .stationary →
      opAllowed s.mode op = true →
      s.drawState 3 = .ready →
      s.exchangeOn c = none →
      (s.ofKind .release).length < 4 →
      s.tilth.gateAdmits .release = true →
      2 ≤ s.tilth.available .release →
      s.freeSlot .release = some n →
      n ≤ s.tilth.slots.length →
      Completes (.vehicleRequest port c msg) s fun t =>
        (t.slot n).exchange? = some { carrier := c, port := port, op := op, cid := field msg 2 4, exid := s.vehicle.exid, cv := s.fresh 16, vn := slice msg 8 12, site := false, credIndex := some i, ke := [], waiting := true, challengeTick := s.now }
        ∧ (t.slot n).pins = [i]
        ∧ t.vehicle.exid = nextExid s.vehicle.exid)
  ∧
  (∀ (s : State) (port : Port) (msg : Bytes) (n i : Nat) (x : Exchange) (ke : Bytes),
      ke = exchangeKey (s.vehicleKey (s.record i)) x →
      s.portServes port = true →
      (s.port port).nmt = .operational →
      byteAt msg 0 = 3 →
      s.exchangeOn .pdo = some n →
      (s.slot n).exchange? = some x →
      x.carrier = .pdo →
      x.site = false →
      x.credIndex = some i →
      x.waiting = true →
      x.challengeTick < s.now →
      (s.slot n).acts = true →
      s.changed n = false →
      msg.take 8 = x.header 3 →
      s.cipher.failed = false →
      Completes (.vehicleResponse port .pdo msg) s fun t =>
        (gcmOpen ke (exchangeIv 2 3 x.exid) (x.aad 3) (slice msg 8 20) = none →
            (t.slot n).through = some { index := i, record := let r := s.failRecord (s.credential i); if s.seenNum 0x2620 3 ≤ byteAt r 44 then s.barRecord r (s.seenNum 0x2620 2) else r, outcome := some Rc.authFail } ∧ (t.slot n).engine = some .nvm)
        ∧ (∀ plain, gcmOpen ke (exchangeIv 2 3 x.exid) (x.aad 3) (slice msg 8 20) = some plain →
            byteAt plain 0 = exchangeOpCode x.op → (x.op = .status →
            (t.slot n).through = some { index := i, record := s.usedRecord (s.credential i), outcome := some Rc.ok }
            ∧ t.bytes 0x2611 2 = padTo 32 (s.ackMessage { x with ke := ke, waiting := false } Rc.ok))
            ∧ (x.op = .stop → Proposal.stop n ∈ t.tilth.proposals)
            ∧ (x.op = .release → s.lock.released = false → s.releaseRefusal = none → Proposal.release n ∈ t.tilth.proposals)))
  ∧
  (∀ (s : State) (c : Carrier) (n : Nat) (x : Exchange),
      s.exchangeOn c = some n →
      (s.slot n).exchange? = some x →
      x.waiting = true →
      x.challengeTick + s.seenNum 0x2620 1 * ticksPerMs ≤ s.now →
      Completes (.vehicleResponseTimeout c) s fun t =>
        Ended t n Rc.timeout)

/-- The HVIL withdrawal withholds a released lock; readback, latch and panel events record, mask and raise what their tables say (R19,
R174, R181, R182, R202, R203, R204, R206, R437). -/
def Obligations.LockLatchAndPanelEventsAct : Prop :=
  (∀ (s : State),
      s.vehicle.hvilDue = true →
      s.lock.released = true →
      Completes (.hvilWithdrawal) s fun t =>
        t.lock = { released := false, changeTick := s.tick, cause := 3, credential := 0 }
        ∧ t.vehicle.hvilDue = false
        ∧ t.vehicle.releasePort = none
        ∧ t.bytes 0x2600 6 = (s.bump 0x2600 6).bytes 0x2600 6
        ∧ Logged s t Ev.lockOff 0 [3])
  ∧
  (∀ (s : State) (land : Land),
      s.running = true →
      s.mismatchDue land = true →
      s.feedbackOn land = false →
      s.lock.released = true →
      Completes (.readbackMismatch land) s fun t =>
        (t.vehicle.land land).mismatch = true
        ∧ t.lock = s.lock
        ∧ Logged s t Ev.lockFeedbackLost (landSub land - 1) (leBytes 1 (landSub land - 1)))
  ∧
  (∀ (s : State) (land : Land),
      s.running = true →
      s.mismatchDue land = true →
      s.feedbackOn land = true →
      s.lock.released = false →
      Completes (.readbackMismatch land) s fun t =>
        (t.vehicle.land land).mismatch = true
        ∧ t.lock = s.lock
        ∧ t.hardpan.causes = s.hardpan.causes ||| 2 ^ Cause.lockReadback.bit
        ∧ Logged s t Ev.lockStuckOn (landSub land - 1) (leBytes 1 (landSub land - 1)))
  ∧
  (∀ (s : State),
      s.latch.on = true →
      s.latch.hold = false →
      s.seenNum 0x2650 1 * ticksPerMs ≤ s.sinceTick s.latch.since →
      Completes (.latchPullInEnd) s fun t =>
        t.latch = { s.latch with hold := true })
  ∧
  (∀ (s : State),
      s.running = true →
      s.vehicle.panel.open_ = false →
      Completes (.svpanelOpenEdge) s fun t =>
        t.vehicle.panel.open_ = true
        ∧ (s.vehicle.panel.mask = .armed → t.vehicle.panel.since = s.tick ∧ t.vehicle.panel.opens = s.recentOpens)
        ∧ (s.vehicle.panel.mask = .armed → s.mode ≠ .factory → s.mode ≠ .retired → s.svlatch = false →
            Logged s t Ev.panelForced 0 [] ∧ (s.num 0x2651 4 = 1 → t.hardpan.causes = s.hardpan.causes ||| 2 ^ Cause.panelForced.bit)))
  ∧
  (∀ (s : State) (cause : MaskCause),
      s.running = true →
      s.panelMaskDue cause = true →
      Completes (.panelMasked cause) s fun t =>
        t.vehicle.panel.mask = maskOf cause
        ∧ t.vehicle.panel.maskedAt = s.tick
        ∧ Logged s t Ev.panelMasked 0 (leBytes 1 (maskOf cause).code))
  ∧
  (∀ (s : State),
      s.running = true →
      maskEnds s.vehicle.panel.mask (s.sinceTick s.vehicle.panel.maskedAt) = true →
      Completes (.panelRearmed) s fun t =>
        t.vehicle.panel.mask = .armed
        ∧ t.vehicle.panel.since = s.tick
        ∧ Logged s t Ev.panelRearmed 0 [])
  ∧
  (∀ (s : State),
      s.running = true →
      s.vehicle.panel.open_ = true →
      Completes (.panelClosed) s fun t =>
        t.vehicle.panel.open_ = false
        ∧ (s.vehicle.panel.mask = .armed → t.vehicle.panel.since = s.tick))

/-- A walk that R223 passes is asked for with a fresh result table; a bound candidate set replaces the bindings; an overlong walk ends
(R223, R226, R228, R229, R231). -/
def Obligations.InventoryWalksAreRequestedAndEnd : Prop :=
  (∀ (s : State) (via : Via) ,
      Reached s via 0x2710 1 [1] →
      s.inventoryRefused .read (s.seenNum 0x2710 2 &&& s.seenNum 0x2701 1) = none →
      s.tilth.waiting.length < 16 →
      Completes (.inventoryRead via) s fun t =>
        Answered t via 0x2710 Rc.ok
        ∧ t.inv.results = []
        ∧ t.inv.candidates = none
        ∧ t.tilth.waiting = s.tilth.waiting ++ [{ kind := .inventory, arrival := s.now, parent := none, work := .inventory .read (s.seenNum 0x2710 2 &&& s.seenNum 0x2701 1) }])
  ∧
  (∀ (s : State) (via : Via) ,
      Reached s via 0x2710 1 [2] →
      s.inventoryRefused .bind (s.seenNum 0x2710 2 &&& s.seenNum 0x2701 1) = none →
      s.tilth.waiting.length < 16 →
      Completes (.inventoryBind via) s fun t =>
        Answered t via 0x2710 Rc.ok
        ∧ t.inv.results = []
        ∧ t.inv.candidates = none
        ∧ t.tilth.waiting = s.tilth.waiting ++ [{ kind := .inventory, arrival := s.now, parent := none, work := .inventory .bind (s.seenNum 0x2710 2 &&& s.seenNum 0x2701 1) }])
  ∧
  (∀ (s : State) (via : Via) ,
      Reached s via 0x2710 1 [3] →
      s.inventoryRefused .check (s.seenNum 0x2710 2 &&& s.seenNum 0x2701 1) = none →
      s.tilth.waiting.length < 16 →
      Completes (.inventoryCheck via) s fun t =>
        Answered t via 0x2710 Rc.ok
        ∧ t.inv.results = []
        ∧ t.inv.candidates = none
        ∧ t.tilth.waiting = s.tilth.waiting ++ [{ kind := .inventory, arrival := s.now, parent := none, work := .inventory .check (s.seenNum 0x2710 2 &&& s.seenNum 0x2701 1) }])
  ∧
  (∀ (s : State),
      s.running = true →
      s.seenNum 0x2711 1 ≠ 0 →
      s.seenNum 0x2711 1 * ticksPerSecond ≤ s.sinceTick s.inv.checkFrom →
      s.inventoryRefused .check (s.seenNum 0x2701 1) = none →
      s.tilth.waiting.length < 16 →
      Completes (.periodicCheck) s fun t =>
        t.inv.checkFrom = s.tick
        ∧ t.inv.results = []
        ∧ t.tilth.waiting = s.tilth.waiting ++ [{ kind := .inventory, arrival := s.now, parent := none, work := .inventory .check (s.seenNum 0x2701 1) }])
  ∧
  (∀ (s : State) (via : Via) (value : Bytes) (mask seen : Nat) (tags : List Tag),
      Reached s via 0x2712 3 value →
      s.inv.candidates = some (mask, seen, tags) →
      candidateDigest tags = value →
      s.mode = .enrol ∨ s.mode = .repurpose →
      s.walking = false →
      overfull (s.committed mask seen tags) = false →
      Completes (.bindingCommit via value) s fun t =>
        Answered t via 0x2712 Rc.ok
        ∧ t.inv.bindings = s.committed mask seen tags
        ∧ t.inv.candidates = none
        ∧ Logged s t Ev.bindingCommitted 0 (leBytes 1 tags.length)
        ∧ t.bytes 0x2712 4 = codeBytes Rc.ok)
  ∧
  (∀ (s : State) (w : Walk),
      s.inv.walk = some w →
      (s.slot s.walkSlot).inFlight = true →
      s.lasted s.walkSlot w.settings.limit = true →
      Completes (.inventoryTimeout) s fun t =>
        Ended t s.walkSlot Rc.inventoryTimeout)

/-- A loop field that comes on asks the next branch; anticollision splits branches at a collision; a verified record takes its verdict
(R213, R214, R218, R219, R224). -/
def Obligations.WalksFindAndVerifyTags : Prop :=
  (∀ (s : State) (w : Walk) (b : Branch) (rest : List Branch) (vhfMv driver : Nat),
      s.inv.walk = some w →
      purposeAllowed s.seen.life.mode w.purpose = true →
      (s.slot s.walkSlot).acts = true →
      s.onHf s.walkSlot = true →
      w.step = .fieldOff →
      w.scanned = false →
      w.stack = b :: rest →
      s.platform.fallbackClock = false →
      3000 ≤ vhfMv →
      vhfMv ≤ 5500 →
      s.thermalRefuses w.fieldEnergy = false →
      w.offUs + w.settings.guard ≤ s.sinceTick w.offFrom * 25 →
      70 ≤ driver →
      driver ≤ 130 →
      Completes (.loopFieldOn vhfMv driver) s fun t =>
        t.inv.walk = some { w with stack := rest, step := .reqa b, retries := 0 }
        ∧ t.inv.results = s.inv.results)
  ∧
  (∀ (s : State) (w : Walk) (b : Branch),
      s.inv.walk = some w →
      purposeAllowed s.seen.life.mode w.purpose = true →
      (s.slot s.walkSlot).acts = true →
      s.onHf s.walkSlot = true →
      w.step = .reqa b →
      b.done = [] →
      b.known.length ≠ 32 →
      Completes (.hfFrameExchangeEnd .atqa) s fun t =>
        t.inv.walk = some { w with step := .anticollision b, retries := 0 }
        ∧ t.inv.results = s.inv.results)
  ∧
  (∀ (s : State) (w : Walk) (b : Branch) (answer : List Bool),
      s.inv.walk = some w →
      purposeAllowed s.seen.life.mode w.purpose = true →
      (s.slot s.walkSlot).acts = true →
      s.onHf s.walkSlot = true →
      w.step = .anticollision b →
      b.known.length + answer.length < 31 →
      Completes (.hfFrameExchangeEnd (.collision answer)) s fun t =>
        t.inv.walk = some { w with stack := { b with known := b.known ++ answer ++ [true] } :: w.stack, step := .anticollision { b with known := b.known ++ answer ++ [false] }, retries := 0 })
  ∧
  (∀ (s : State) (w : Walk) (b : Branch) (answer : List Bool),
      s.inv.walk = some w →
      purposeAllowed s.seen.life.mode w.purpose = true →
      (s.slot s.walkSlot).acts = true →
      s.onHf s.walkSlot = true →
      w.step = .anticollision b →
      b.known.length + answer.length = 32 →
      Completes (.hfFrameExchangeEnd (.bits answer)) s fun t =>
        t.inv.walk = some { w with step := .select { b with known := b.known ++ answer }, retries := 0 })
  ∧
  (∀ (s : State) (w : Walk) (entry : Nat) (g : Tag),
      s.inv.walk = some w →
      purposeAllowed s.seen.life.mode w.purpose = true →
      (s.slot s.walkSlot).acts = true →
      s.sigFree = true →
      entry ≠ 0 →
      s.inv.results[entry - 1]? = some g →
      g.state = none →
      g.record.length = 32 →
      s.sig.failed = false →
      Completes (.originVerifyEnd entry) s fun t =>
        (∃ u ∈ t.inv.results, u.uid = g.uid ∧ u.state = some (s.tagVerdict w g)))

/-- Field power begins a session, activation and deselect follow it, drop-out ends it; SELECT and unknown commands answer their status
word (R234, R235, R237, R238, R239, R244, R250, R262). -/
def Obligations.KaolinFieldSessionsBeginAndEnd : Prop :=
  (∀ (s : State) (power reservoir : Nat),
      s.kaolin.field = none →
      80 ≤ power →
      Completes (.kaolinFieldPowerUp power reservoir []) s fun t =>
        t.kaolin.field = some (FieldSession.new power)
        ∧ t.kaolin.power = power
        ∧ t.kaolin.reservoir = min 245 reservoir)
  ∧
  (∀ (s : State) (f : FieldSession),
      s.kaolin.field = some f →
      s.vddSupplied = false →
      Completes (.kaolinDropOut) s fun t =>
        t.kaolin.field = none
        ∧ t.kaolin.reservoir = 0
        ∧ t.kaolin.power = 0
        ∧ t.kaolin.signing = false)
  ∧
  (∀ (s : State) (h : Harvest) (f : FieldSession) (rate : Nat),
      s.kaolin.field = some f →
      f.active = false →
      rate ≤ 1 →
      Completes (.kaolinActivation ⟨h, rate⟩) s fun t =>
        t.kaolin.field = some { f with active := true, rate := rate, lowestP := min f.lowestP h.power }
        ∧ t.bytes 0x2822 1 = (s.bump 0x2822 1).bytes 0x2822 1)
  ∧
  (∀ (s : State) (f : FieldSession),
      s.kaolin.field = some f →
      f.active = true →
      Completes (.kaolinDeselect) s fun t =>
        t.kaolin.field = some (FieldSession.new t.kaolin.power)
        ∧ (∀ r ∈ t.cipher.registers, r.owner ≠ .kaolin))
  ∧
  (∀ (s : State) (u : State) (f : FieldSession) (apdu : Apdu) (a : KaolinApp),
      u = s.beginCommand apdu.harvest →
      u.kaolin.field = some f →
      f.active = true →
      f.secured = .open_ →
      apdu.sm = false →
      appOf apdu.data = some a →
      Completes (.kaolinSelectAid 0x04 0x00 apdu) s fun t =>
        t.kaolin.response = ([], 0x9000)
        ∧ ((t.kaolin.field.map fun g => (g.app, g.file)) = some (some a, none)))
  ∧
  (∀ (s : State) (u : State) (f : FieldSession) (apdu : Apdu) (a : KaolinApp),
      u = s.beginCommand apdu.harvest →
      u.kaolin.field = some f →
      f.active = true →
      f.secured = .open_ →
      apdu.sm = false →
      apdu.data.length = 2 →
      f.app = some a →
      fileOf a (beNat apdu.data) = true →
      Completes (.kaolinSelectFid 0x00 0x0C apdu) s fun t =>
        t.kaolin.response = ([], 0x9000)
        ∧ ((t.kaolin.field.map fun g => g.file) = some (some (beNat apdu.data))))
  ∧
  (∀ (s : State) (h : Harvest) (u : State) (f : FieldSession) (cla ins : Byte),
      u = s.beginCommand h →
      u.kaolin.field = some f →
      f.active = true →
      ¬ cla ∈ ([0x00, 0x80, 0x0C, 0x8C] : List Byte) →
      Completes (.kaolinUnknownCommand h ⟨cla, ins⟩) s fun t =>
        t.kaolin.response = ([], 0x6E00))
  ∧
  (∀ (s : State) (h : Harvest) (u : State) (f : FieldSession) (cla ins : Byte),
      u = s.beginCommand h →
      u.kaolin.field = some f →
      f.active = true →
      cla ∈ ([0x00, 0x80, 0x0C, 0x8C] : List Byte) →
      ¬ ins ∈ knownIns cla →
      Completes (.kaolinUnknownCommand h ⟨cla, ins⟩) s fun t =>
        t.kaolin.response = ([], 0x6D00))

/-- READ answers the file's bytes, VERIFY and MUTUAL AUTHENTICATE enter secured state only with the PIN or the tag, challenges and live
signatures follow (R238, R244, R247, R248, R249, R252, R261). -/
def Obligations.KaolinReadsAndAuthenticates : Prop :=
  (∀ (s : State) (u : State) (f : FieldSession) (p1 p2 : Byte) (apdu : Apdu) (le fid : Nat) (c : Bytes),
      u = s.beginCommand apdu.harvest →
      u.kaolin.field = some f →
      f.active = true →
      f.secured = .open_ →
      apdu.sm = false →
      p1.toNat < 128 →
      le ≤ 246 →
      f.file = some fid →
      f.voided = false →
      u.mayRead f fid = true →
      u.fieldFile fid = some c →
      offsetOf p1 p2 < c.length →
      Completes (.kaolinReadBinary p1 p2 apdu le) s fun t =>
        (t.kaolin.response = (slice c (offsetOf p1 p2) (wanted le),
            if (slice c (offsetOf p1 p2) (wanted le)).length < wanted le then 0x6282 else 0x9000)))
  ∧
  (∀ (s : State) (u : State) (f : FieldSession) (apdu : Apdu),
      u = s.beginCommand apdu.harvest →
      u.kaolin.field = some f →
      f.active = true →
      f.secured = .open_ →
      f.app = some .kaolin →
      securedAllowed u.mode = true →
      apdu.sm = false →
      apdu.data.length = 4 →
      allZero (u.seenBytes 0x2810 1) = false →
      u.kaolin.pinTries ≠ 0 →
      u.guardHolds 2 = true →
      Completes (.kaolinVerify 0x00 0x80 apdu) s fun t =>
        (pinDigest apdu.data = u.seenBytes 0x2810 1 → t.kaolin.response = ([], 0x9000) ∧ t.kaolin.pinTries = u.seenNum 0x2810 2
            ∧ (t.kaolin.field.map fun g => g.secured) = some .pin)
        ∧ (pinDigest apdu.data ≠ u.seenBytes 0x2810 1 → t.kaolin.response = ([], 0x63C0 + min 15 (u.kaolin.pinTries - 1))
            ∧ t.kaolin.pinTries = u.kaolin.pinTries - 1 ∧ (t.kaolin.field.map fun g => g.secured) = some .open_))
  ∧
  (∀ (s : State) (u : State) (f : FieldSession) (apdu : Apdu),
      u = s.beginCommand apdu.harvest →
      u.kaolin.field = some f →
      f.active = true →
      f.secured = .open_ →
      f.app = some .kaolin →
      securedAllowed u.mode = true →
      apdu.sm = false →
      u.coreOn = true →
      u.rng.source ≠ .latched →
      u.drawFails 3 = none →
      Completes (.kaolinGetChallenge ⟨0x00, 0x00⟩ apdu 16) s fun t =>
        t.kaolin.response = (u.fresh 16, 0x9000)
        ∧ ((t.kaolin.field.map fun g => g.challenge) = some (some (u.fresh 16))))
  ∧
  (∀ (s : State) (u : State) (f : FieldSession) (apdu : Apdu) (c : Bytes),
      u = s.beginCommand apdu.harvest →
      u.kaolin.field = some f →
      f.active = true →
      f.secured = .open_ →
      f.app = some .kaolin →
      securedAllowed u.mode = true →
      apdu.sm = false →
      u.coreOn = false →
      f.pool.length < 16 →
      u.kaolin.carry = some c →
      u.guardHolds 48 = true →
      Completes (.kaolinGetChallenge ⟨0x00, 0x00⟩ apdu 16) s fun t =>
        t.kaolin.response = ((shake ([0x02] ++ c) 64).take 16, 0x9000)
        ∧ t.kaolin.carry = some (shake ([0x01] ++ c) 48))
  ∧
  (∀ (s : State) (u : State) (f : FieldSession) (apdu : Apdu) (ck : Bytes) (e : Nat),
      u = s.beginCommand apdu.harvest →
      u.kaolin.field = some f →
      f.active = true →
      f.secured = .open_ →
      f.app = some .kaolin →
      securedAllowed u.mode = true →
      apdu.sm = false →
      apdu.data.length = 32 →
      u.hasRoot 2 = true →
      u.rootBad 2 = false →
      f.challenge = some ck →
      u.readerEntry (leNat (apdu.data.take 4)) = some e →
      ((u.kaolin.failures[e - 1]?).getD 0) < u.seenNum 0x2813 0 →
      u.cipher.failed = false →
      u.guardHolds 1 = true →
      Completes (.kaolinMutualAuthenticate 0x00 0x00 apdu) s fun t =>
        (apdu.data.drop 16 = handshakeTag (u.sessionKey (apdu.data.take 4) ck (slice apdu.data 4 12)) 0x02 ck (apdu.data.take 4)
            (slice apdu.data 4 12) → t.kaolin.response =
            (handshakeTag (u.sessionKey (apdu.data.take 4) ck (slice apdu.data 4 12)) 0x01 ck (apdu.data.take 4) (slice apdu.data 4
            12), 0x9000) ∧ (t.kaolin.field.map fun g => g.secured) =
            some (.reader e (u.sessionKey (apdu.data.take 4) ck (slice apdu.data 4 12)) 1 1))
        ∧ (apdu.data.drop 16 ≠ handshakeTag (u.sessionKey (apdu.data.take 4) ck (slice apdu.data 4 12)) 0x02 ck (apdu.data.take 4)
            (slice apdu.data 4 12) → t.kaolin.response = ([], 0x6300) ∧ (t.kaolin.field.map fun g => g.secured) = some .open_)
        ∧ ((t.kaolin.field.map fun g => g.challenge) = some none))
  ∧
  (∀ (s : State) (u : State) (f : FieldSession) (apdu : Apdu),
      u = s.beginCommand apdu.harvest →
      u.kaolin.field = some f →
      f.active = true →
      f.secured = .pin →
      u.passportSlot f ≠ none →
      apdu.sm = false →
      16 ≤ apdu.data.length →
      apdu.data.length ≤ 64 →
      u.sig.identity = true →
      u.identityBad = false →
      bit (u.rights f) 2 = true →
      u.sig.failed = false →
      u.vddSupplied = true ∨ (120 ≤ u.kaolin.power ∧ 200 ≤ u.kaolin.reservoir) →
      Completes (.kaolinInternalAuthenticate 0x00 0x00 apdu) s fun t =>
        t.kaolin.response = (u.liveSignature f apdu.data, 0x9000)
        ∧ ((t.kaolin.field.map fun g => g.liveSigns) = some (f.liveSigns + 1))
        ∧ t.kaolin.signing = !u.vddSupplied)
  ∧
  (∀ (s : State),
      s.kaolin.signing = true →
      Completes (.liveSignAbandoned) s fun t =>
        t.kaolin.signing = false
        ∧ t.kaolin.response = ([], 0x6F51))

/-- A field append is staged and committed only under a message that opens; host file writes are filled, committed or timed out; STATUS
and the carry refresh (R243, R249, R250, R253, R254, R257, R258, R259, R261). -/
def Obligations.KaolinFilesAreAppendedAndCommitted : Prop :=
  (∀ (s : State) (u : State) (f : FieldSession) (e i o fid : Nat) (k : Bytes) (p1 p2 : Byte) (apdu : Apdu),
      u = s.beginCommand apdu.harvest →
      u.kaolin.field = some f →
      f.active = true →
      f.secured = .reader e k i o →
      u.passportSlot f ≠ none →
      apdu.sm = true →
      bit (u.rights f) 1 = true →
      u.cipher.failed = false →
      p1.toNat < 128 →
      f.file = some fid →
      f.voided = false →
      isMaint fid = true →
      f.stagesOther fid = false →
      Completes (.kaolinUpdateBinary p1 p2 apdu) s fun t =>
        (gcmOpen k (messagingIv 2 0xD6 i) (leBytes 1 0x0C ++ leBytes 1 0xD6 ++ [p1, p2]) apdu.data = none →
            t.kaolin.response = ([], 0x6982) ∧ (t.kaolin.field.map fun g => (g.secured, g.staged)) = some (.open_, none))
        ∧ (∀ plain c, gcmOpen k (messagingIv 2 0xD6 i) (leBytes 1 0x0C ++ leBytes 1 0xD6 ++ [p1, p2]) apdu.data = some plain →
            plain ≠ [] → plain.length ≤ 224 → u.file fid = some c → offsetOf p1 p2 = c.length + (f.stagedFor fid).length →
            c.length + (f.stagedFor fid).length + plain.length ≤ 8192 → u.guardHolds plain.length = true →
            (t.kaolin.field.map fun g => g.staged) = some (some (fid, f.stagedFor fid ++ plain)) ∧ t.kaolin.response.2 = 0x9000))
  ∧
  (∀ (s : State) (u : State) (f : FieldSession) (e i o fid : Nat) (k staged : Bytes) (apdu : Apdu),
      u = s.beginCommand apdu.harvest →
      u.kaolin.field = some f →
      f.active = true →
      f.secured = .reader e k i o →
      u.passportSlot f ≠ none →
      apdu.sm = true →
      bit (u.rights f) 1 = true →
      u.cipher.failed = false →
      f.staged = some (fid, staged) →
      u.fileHeld fid = true →
      Completes (.kaolinCommitFile 0x00 0x00 apdu) s fun t =>
        (gcmOpen k (messagingIv 2 0xE8 i) (leBytes 1 0x8C ++ leBytes 1 0xE8 ++ [0x00, 0x00]) apdu.data = none →
            t.kaolin.response = ([], 0x6982) ∧ (t.kaolin.field.map fun g => g.staged) = some none)
        ∧ (gcmOpen k (messagingIv 2 0xE8 i) (leBytes 1 0x8C ++ leBytes 1 0xE8 ++ [0x00, 0x00]) apdu.data = some [] →
            u.guardHolds 2 = true → t.file fid = some ((u.file fid).getD [] ++ staged)
            ∧ (t.kaolin.field.map fun g => g.staged) = some none ∧ Logged u t Ev.fieldFileCommitted 0 (leBytes 2 fid)))
  ∧
  (∀ (s : State) (via : Via) (value : Bytes),
      Reached s via 0x2820 2 value →
      s.mode = .enrol ∨ s.mode = .repurpose →
      s.fileRefused (s.seenNum 0x2820 1) value = none →
      Completes (.hostFileWrite via value) s fun t =>
        Answered t via 0x2820 Rc.ok
        ∧ t.kaolin.hostWrite = some { fid := s.seenNum 0x2820 1, content := value, since := s.tick, filled := 0 }
        ∧ t.bytes 0x2820 3 = codeBytes Rc.pending)
  ∧
  (∀ (s : State) (w : HostFileWrite) (n : Nat) (rest : List Nat),
      s.kaolin.hostWrite = some w →
      s.ofKind .passport = n :: rest →
      w.content.length ≤ w.filled + 2048 →
      s.fileHeld w.fid = true →
      (s.slot n).state = .waitingEngine →
      s.mode = .enrol ∨ s.mode = .repurpose →
      (s.kaolin.field.any fun f => f.staged.any fun e => e.1 == w.fid) = false →
      Completes (.fileCommitted) s fun t =>
        t.kaolin.hostWrite = none
        ∧ t.file w.fid = some w.content
        ∧ t.bytes 0x2820 3 = codeBytes Rc.ok
        ∧ Ended t n Rc.ok)
  ∧
  (∀ (s : State) (w : HostFileWrite),
      s.kaolin.hostWrite = some w →
      s.ofKind .passport = [] →
      s.seenNum 0x2821 2 * ticksPerMs ≤ s.sinceTick w.since →
      Completes (.hostFileWriteTimeout) s fun t =>
        t.kaolin.hostWrite = none
        ∧ t.bytes 0x2820 3 = codeBytes Rc.noResource
        ∧ (∀ r ∈ t.tilth.waiting, r.kind ≠ .passport))
  ∧
  (∀ (s : State),
      s.coreOn = true →
      s.mode ≠ .retired →
      s.fileHeld 0x0130 = true →
      s.seenNum 0x2821 0 * ticksPerSecond ≤ s.sinceTick s.kaolin.statusFrom →
      Completes (.statusFileRefresh) s fun t =>
        t.file 0x0130 = some s.statusContent
        ∧ t.kaolin.statusFrom = s.tick
        ∧ Logged s t Ev.fileCommitted 0 (leBytes 2 0x0130))
  ∧
  (∀ (s : State) (c : Bytes),
      s.kaolin.carry = some c →
      s.coreOn = true →
      s.mode ≠ .retired →
      s.drawFails 4 = none →
      3600 * ticksPerSecond ≤ s.sinceTick s.kaolin.carryFrom →
      Completes (.carryRefreshed) s fun t =>
        t.kaolin.carry = some (shake ([0x03] ++ c ++ s.fresh 48) 48)
        ∧ t.kaolin.carryFrom = s.tick
        ∧ Logged s t Ev.carryRefreshed 0 [])

/-- Host writes of the PIN digest, reader entries, UID signatures, the certificate chain and the roots store only what verifies (R247,
R248, R251, R269, R270, R312, R484). -/
def Obligations.SecretsCertificatesAndRootsAreInstalled : Prop :=
  (∀ (s : State) (via : Via) (value : Bytes),
      Reached s via 0x2810 1 value →
      Completes (.pinDigestWrite via value) s fun t =>
        Answered t via 0x2810 Rc.ok
        ∧ t.bytes 0x2810 1 = value
        ∧ t.kaolin = { s.kaolin with pinTries := s.num 0x2810 2 })
  ∧
  (∀ (s : State) (via : Via) (sub : Nat) (value : Bytes),
      Reached s via 0x2811 sub value →
      Completes (.readerEntryWrite via sub value) s fun t =>
        Answered t via 0x2811 Rc.ok
        ∧ t.bytes 0x2811 sub = value
        ∧ t.kaolin = { s.kaolin with failures := s.kaolin.failures.set (sub - 1) 0 })
  ∧
  (∀ (s : State) (via : Via) (value : Bytes),
      Reached s via 0x2802 0 value →
      s.sig.failed = false →
      Completes (.ownerUidSignatureWrite via value) s fun t =>
        (Answered t via 0x2802 (if sigHolds (s.bytes 0x2021 0) (ascii "BLS9640-KUIDO") (uid ++ identityKey) value
            then Rc.ok else Rc.sigInvalid))
        ∧ (sigHolds (s.bytes 0x2021 0) (ascii "BLS9640-KUIDO") (uid ++ identityKey) value = true → t.bytes 0x2802 0 = value
            ∧ (s.fileHeld 0x0103 = true → t.file 0x0103 = some value))
        ∧ (sigHolds (s.bytes 0x2021 0) (ascii "BLS9640-KUIDO") (uid ++ identityKey) value = false → t.kaolin = s.kaolin))
  ∧
  (∀ (s : State) (via : Via) (value : Bytes),
      Reached s via 0x2A04 1 value →
      s.mode = .factory →
      s.sig.failed = false →
      Completes (.certificateChainWrite via value) s fun t =>
        (Answered t via 0x2A04 (if s.chainHolds value = false then Rc.certInvalid else if allZero (s.bytes 0x2A04 2)
            ∨ uidSigHolds value (s.bytes 0x2A04 2) = true then Rc.ok else Rc.sigInvalid))
        ∧ (s.chainHolds value = true → allZero (s.bytes 0x2A04 2) = true → t.bytes 0x2A04 1 = value)
        ∧ (s.chainHolds value = true → allZero (s.bytes 0x2A04 2) = false → uidSigHolds value (s.bytes 0x2A04 2) = true →
            t.sig = { s.sig with certified := true, chain := value, uidSigV := s.bytes 0x2A04 2 } ∧ t.bytes 0x2A04 3 = codeBytes Rc.ok)
        ∧ (s.chainHolds value = false → t.sig = s.sig ∧ t.bytes 0x2A04 3 = codeBytes Rc.certInvalid))
  ∧
  (∀ (s : State) (via : Via) (value : Bytes),
      Reached s via 0x2A04 2 value →
      s.mode = .factory →
      s.sig.failed = false →
      Completes (.vendorUidSignatureWrite via value) s fun t =>
        (Answered t via 0x2A04 (if (s.bytes 0x2A04 1).isEmpty ∨ allZero value
            ∨ uidSigHolds (s.bytes 0x2A04 1) value = true then Rc.ok else Rc.sigInvalid))
        ∧ ((s.bytes 0x2A04 1).isEmpty = false → allZero value = false → uidSigHolds (s.bytes 0x2A04 1) value = true →
            t.sig = { s.sig with certified := true, chain := s.bytes 0x2A04 1, uidSigV := value } ∧ t.bytes 0x2A04 3 = codeBytes Rc.ok)
        ∧ ((s.bytes 0x2A04 1).isEmpty = true → t.bytes 0x2A04 2 = value ∧ t.sig = s.sig))
  ∧
  (∀ (s : State) (via : Via) (value : Bytes) (g : Signer) (e : Envelope) (parent : Bytes),
      Reached s via 0x2911 0 value →
      s.sealing.active = some e →
      e.signer = g →
      s.rootSigner (byteAt value 0) = some g →
      byteAt value 1 = 0 →
      s.cipher.failed = false →
      lookup (unwrapParent (byteAt value 0)) s.cipher.roots = some parent →
      s.rootBad (unwrapParent (byteAt value 0)) = false →
      Completes (.rootImport via value) s fun t =>
        (Answered t via 0x2911 (if (State.unwrapRoot parent (byteAt value 0) e.nonce (value.drop 2)).isSome
            then Rc.ok else Rc.authFail))
        ∧ (∀ root, State.unwrapRoot parent (byteAt value 0) e.nonce (value.drop 2) = some root →
            lookup (byteAt value 0) t.cipher.roots = some root)
        ∧ (State.unwrapRoot parent (byteAt value 0) e.nonce (value.drop 2) = none → t.cipher.roots = s.cipher.roots)
        ∧ (t.bytes 0x2912 0 = codeBytes (if (State.unwrapRoot parent (byteAt value 0) e.nonce (value.drop 2)).isSome
            then Rc.ok else Rc.authFail)))

/-- Self-tests report and latch failure; the lock resumes the first saved context and falls stale; register waits and opens end (R268,
R273, R276, R279, R280, R284, R290, R298). -/
def Obligations.CipherEngineTestsLocksAndOpens : Prop :=
  (∀ (s : State) (via : Via) (value : Bytes),
      Reached s via 0x2920 0 value →
      s.cipher.testing = false →
      Completes (.cipherSelftestRequest via value) s fun t =>
        Answered t via 0x2920 Rc.ok
        ∧ t.cipher.testing = true
        ∧ (t.cipher.lock = (if s.cipher.lock = none then some .selfTest else s.cipher.lock)))
  ∧
  (∀ (s : State) (she : Bool),
      s.cipher.testing = true →
      Completes (.cipherSelftest true she) s fun t =>
        t.cipher.testing = false
        ∧ t.cipher.failed = (s.cipher.failed && !s.cipher.cycled)
        ∧ t.bytes 0x2921 0 = codeBytes Rc.ok)
  ∧
  (∀ (s : State) (she : Bool),
      s.cipher.testing = true →
      Completes (.cipherSelftest false she) s fun t =>
        t.cipher.testing = false
        ∧ t.cipher.failed = true
        ∧ t.cipher.lock = none
        ∧ t.bytes 0x2921 0 = codeBytes Rc.cipherFailed)
  ∧
  (∀ (s : State) (c : SavedContext),
      s.cipher.lock = none →
      firstBy SavedContext.before s.cipher.contexts = some c →
      Completes (.cipherResume) s fun t =>
        t.cipher.lock = some (.slot c.slot)
        ∧ (∀ d ∈ t.cipher.contexts, d ≠ c)
        ∧ ((s.slot c.slot).inFlight = true → (t.slot c.slot).state = .waitingEngine))
  ∧
  (∀ (s : State) (n : Nat),
      s.cipher.lock = some (.slot n) →
      (s.slot n).busy = false →
      s.cipher.lockFrom + 16 ≤ s.now →
      (s.slot n).inFlight = true →
      Completes (.cipherLockStale) s fun t =>
        t.cipher.lock = none
        ∧ Ended t n Rc.hwFault)
  ∧
  (∀ (s : State) (slot : Nat),
      s.cipher.freeRegister = none →
      (s.cipher.registerWaits.any fun w => w.1 == slot && w.2 + 8 ≤ s.now) = true →
      (s.slot slot).inFlight = true →
      Completes (.keyRegisterWaitTimeout slot) s fun t =>
        Ended t slot Rc.noResource)
  ∧
  (∀ (s : State) (slot : Nat) (o : GcmOpen),
      s.openOf slot = some o →
      o.provisional = none →
      (s.slot slot).inFlight = true →
      Completes (.gcmOpenEnd slot true) s fun t =>
        (∀ x ∈ t.cipher.opens, x ≠ o)
        ∧ (t.slot slot).state = .ready)
  ∧
  (∀ (s : State) (slot : Nat) (o : GcmOpen),
      s.openOf slot = some o →
      o.provisional = none →
      (s.slot slot).inFlight = true →
      Completes (.gcmOpenEnd slot false) s fun t =>
        (∀ x ∈ t.cipher.opens, x.slot ≠ slot)
        ∧ Ended t slot Rc.authFail)

/-- A comparison failure of either engine is counted and executes the tick again; the third in a second fails the engine, the third
attempt resets (R40, R283, R284, R306, R431, R432, R433, R434). -/
def Obligations.ComparisonFailuresReexecute : Prop :=
  (∀ (s : State) (slot : Nat) (op : Byte),
      s.running = true →
      s.isOn .sec = true →
      s.cipher.failed = false →
      s.platform.attempts < 2 →
      Completes (.cipherCompareFail slot op) s fun t =>
        t.tilth.tick = s.tickIn 1
        ∧ t.tilth.executed = s.tilth.executed
        ∧ t.platform.attempts = s.platform.attempts + 1
        ∧ t.bytes 0x2931 0 = (s.bump 0x2931 0).bytes 0x2931 0
        ∧ t.cipher.failed = decide (2 ≤ (s.lastSecond s.cipher.compareFails).length)
        ∧ t.lock = s.lock)
  ∧
  (∀ (s : State) (slot : Nat) (op : Byte),
      s.running = true →
      s.isOn .sec = true →
      s.cipher.failed = false →
      2 ≤ s.platform.attempts →
      Completes (.cipherCompareFail slot op) s fun t =>
        t.platform.boot = .resetting .fault 0
        ∧ t.lock.released = false)
  ∧
  (∀ (s : State) (slot : Nat),
      s.running = true →
      s.isOn .sec = true →
      s.sig.failed = false →
      s.platform.attempts < 2 →
      Completes (.sheCompareFail slot) s fun t =>
        t.tilth.tick = s.tickIn 1
        ∧ t.tilth.executed = s.tilth.executed
        ∧ t.platform.attempts = s.platform.attempts + 1
        ∧ t.bytes 0x2A00 3 = (s.bump 0x2A00 3).bytes 0x2A00 3
        ∧ t.sig.failed = decide (2 ≤ (s.lastSecond s.sig.compareFails).length)
        ∧ t.lock = s.lock)
  ∧
  (∀ (s : State) (slot : Nat),
      s.running = true →
      s.isOn .sec = true →
      s.sig.failed = false →
      2 ≤ s.platform.attempts →
      Completes (.sheCompareFail slot) s fun t =>
        t.platform.boot = .resetting .fault 0
        ∧ t.lock.released = false)

/-- A challenge that passes is PENDING in a session of its own; an image header that passes opens the inactive bank; read-back decides;
a valid bank is activated (R313, R315, R316, R317). -/
def Obligations.AttestationAndFirmwareAreCarriedOut : Prop :=
  (∀ (s : State) (via : Via) (value : Bytes) (n : Nat),
      Reached s via 0x2A20 1 value →
      16 ≤ value.length →
      value.length ≤ 64 →
      s.mode ≠ .retired →
      s.mode ≠ .factory ∨ s.sig.certified = true →
      s.sig.failed = false →
      s.sig.identity = true →
      s.identityBad = false →
      s.tilth.find Slot.attests = [] →
      (s.ofKind .dictionary).length < 2 →
      s.tilth.gateAdmits .dictionary = true →
      2 ≤ s.tilth.available .dictionary →
      s.freeSlot .dictionary = some n →
      n ≤ s.tilth.slots.length →
      Completes (.attestationChallenge via value) s fun t =>
        Answered t via 0x2A20 Rc.ok
        ∧ (t.slot n).state = .admitted
        ∧ (t.slot n).work = .attestation value
        ∧ (t.slot n).engine = some .sig
        ∧ t.bytes 0x2A20 3 = codeBytes Rc.pending)
  ∧
  (∀ (s : State) (via : Via) (header : Bytes) (n : Nat),
      s.portServes via.port = true →
      header.length = 558 →
      s.carries via.srv = [] →
      (s.server via.srv).slot = none →
      s.mode ≠ .retired →
      s.tilth.waiting.length < 16 →
      (s.ofKind .dictionary).length < 2 →
      s.tilth.gateAdmits .dictionary = true →
      2 ≤ s.tilth.available .dictionary →
      s.freeSlot .dictionary = some n →
      n ≤ s.tilth.slots.length →
      Completes (.firmwareImageHeader via header) s fun t =>
        (∀ c, s.imageRefused header = some c → Answered t via 0x2A30 c ∧ t.bytes 0x2A30 2 = codeBytes c ∧ t.sig = s.sig)
        ∧ (s.imageRefused header = none → t.sig.installing = some (s.sig.inactive, via.srv)
            ∧ (∀ b, t.sig.banks[s.sig.inactive]? = some b → b.state = .writing ∧ b.digest = slice header 40 64
            ∧ b.svn = field header 32 4) ∧ t.bytes 0x2A30 2 = codeBytes Rc.pending ∧ (t.server via.srv).slot = some n
            ∧ t.tilth.waiting = s.tilth.waiting ++ [{ kind := .cipher, arrival := s.now, parent := none, work := .cipher .firmware }]))
  ∧
  (∀ (s : State) (payload readBack : Bytes) (b n : Nat) (v : Srv) (o : GcmOpen),
      s.sig.installing = some (b, v) →
      s.jobSlot .firmware = some n →
      (s.slot n).state = .waitingEngine →
      payload.length = s.jobLength .firmware →
      s.openOf n = some o →
      o.provisional = some .firmware →
      (s.cipher.opens.filter fun x => (s.family n).contains x.slot) = [o] →
      s.sig.failed = false →
      Completes (.firmwareInstallEnd payload readBack) s fun t =>
        (s.jobTagHolds .firmware payload (slice (((s.sig.banks[b]?).map (·.header)).getD []) 104 16) = true →
            shake readBack 64 = ((s.sig.banks[b]?).map (·.digest)).getD [] → Ended t n Rc.ok ∧ t.bytes 0x2A30 2 = codeBytes Rc.ok
            ∧ (∀ k, t.sig.banks[b]? = some k → k.state = .valid))
        ∧ (s.jobTagHolds .firmware payload (slice (((s.sig.banks[b]?).map (·.header)).getD []) 104 16) = true → ¬ shake readBack 64 = ((s.sig.banks[b]?).map (·.digest)).getD [] → Ended t n Rc.fwDigestMismatch ∧ t.bytes 0x2A30 2 = codeBytes Rc.fwDigestMismatch ∧ (∀ k, t.sig.banks[b]? = some k → k.state = .empty))
        ∧ (s.jobTagHolds .firmware payload (slice (((s.sig.banks[b]?).map (·.header)).getD []) 104 16) = false →
            Ended t n Rc.authFail ∧ t.bytes 0x2A30 2 = codeBytes Rc.authFail ∧ (∀ k, t.sig.banks[b]? = some k → k.state = .empty))
        ∧ t.sig.installing = none)
  ∧
  (∀ (s : State) (via : Via) (value : Bytes),
      Reached s via 0x2A31 1 value →
      Completes (.activateBank via value) s fun t =>
        Answered t via 0x2A31 ((s.activationRefused (leNat value)).getD Rc.ok)
        ∧ t.bytes 0x2A31 2 = codeBytes ((s.activationRefused (leNat value)).getD Rc.ok)
        ∧ (s.activationRefused (leNat value) ≠ none → t.sig = s.sig)
        ∧ (s.activationRefused (leNat value) = none → t.sig.activeBank = leNat value ∧ t.sig.activating = true
            ∧ (∀ k, s.sig.banks[leNat value]? = some k → t.sig.svn = k.svn
            ∧ t.sig.banks[leNat value]? = some { k with state := .active })))

/-- A health failure empties the pool and restarts the source or latches it; a passed test makes it READY; a restart is taken only while
LATCHED (R320, R325, R326, R327, R328, R329). -/
def Obligations.RandomSourceTestsAndLatches : Prop :=
  (∀ (s : State) (cell : Cell) (test : HealthTest),
      s.rng.tested = true →
      Completes (.rngHealthFail cell test) s fun t =>
        (t.rng.source = (if s.rng.recovering = true ∨ (s.consecutive = true ∧ 2 ≤ s.rng.failures) then .latched else .restarting))
        ∧ (t.rng.failures = (if s.rng.recovering = true ∨ (s.consecutive = true
            ∧ 2 ≤ s.rng.failures) then 3 else if s.consecutive = true then s.rng.failures + 1 else 1))
        ∧ t.rng.pool = 0
        ∧ t.bytes 0x2A40 4 = (s.bump 0x2A40 4).bytes 0x2A40 4)
  ∧
  (∀ (s : State),
      s.rng.testing = true →
      Completes (.rngStartupTestEnd false) s fun t =>
        (t.rng.source = (if s.rng.recovering = true ∨ (s.consecutive = true ∧ 2 ≤ s.rng.failures) then .latched else .restarting))
        ∧ (t.rng.failures = (if s.rng.recovering = true ∨ (s.consecutive = true
            ∧ 2 ≤ s.rng.failures) then 3 else if s.consecutive = true then s.rng.failures + 1 else 1))
        ∧ t.rng.pool = 0
        ∧ t.bytes 0x2A40 4 = (s.bump 0x2A40 4).bytes 0x2A40 4)
  ∧
  (∀ (s : State),
      s.rng.testing = true →
      Completes (.rngStartupTestEnd true) s fun t =>
        t.rng.source = .ready
        ∧ t.rng.testing = false
        ∧ (s.rng.recovering = true → t.rng.failures = 0 ∧ Logged s t Ev.rngRecovered 0 [])
        ∧ (s.rng.recovering = false → s.rng.source = .restarting → t.rng.lastRestartEnd = s.tick ∧ Logged s t Ev.rngRestarted 0 []))
  ∧
  (∀ (s : State) (via : Via) (value : Bytes),
      Reached s via 0x2A40 6 value →
      Completes (.rngRestartSource via value) s fun t =>
        Answered t via 0x2A40 Rc.ok
        ∧ (t.rng = if s.rng.source = .latched ∧ s.rng.testing =
            false then { s.rng with testing := true, recovering := true } else s.rng))
  ∧
  (∀ (s : State) (n : Nat),
      s.rng.source ≠ .off →
      4 * ticksPerMs ≤ s.sinceTick s.rng.onFrom →
      n ∈ (s.drawWaits fun _ g => !g.seeded) →
      (s.slot n).inFlight = true →
      (s.slot n).exchange?.all (fun x => x.op == .release) = true →
      Completes (.rngNotReadyTimeout) s fun t =>
        (t.slot n).state = .closing)
  ∧
  (∀ (s : State),
      s.rng.source = .ready →
      (s.rng.instances.any fun g => !g.seeded) = true →
      Completes (.rngSeeded) s fun t =>
        (∀ g ∈ t.rng.instances, g.seeded = true)
        ∧ t.bytes 0x2A40 8 = leBytes 8 s.tick)

/-- Strict requests are served in instance order from the pool; stretch instances reseed or exhaust; a host read gives 32 fresh bytes or
zeros (R102, R193, R321, R322, R323, R324). -/
def Obligations.RandomRequestsAreServed : Prop :=
  (∀ (s : State) (i n : Nat) (rest : List Nat) (g : Generator),
      (∀ a, (s.slot n).work ≠ .approach a) →
      (∀ b, (s.slot n).work ≠ .badge b) →
      (∀ x, (s.slot n).work ≠ .release x) →
      s.nextStrict = some i →
      s.instance? i = some g →
      g.queue = n :: rest →
      (s.slot n).inFlight = true →
      Completes (.strictRequestServed) s fun t =>
        (t.instance? i).map (·.queue) = some rest
        ∧ (t.slot n).state = .ready
        ∧ t.rng.pool = s.rng.pool - 3)
  ∧
  (∀ (s : State) (n : Nat) (rest : List Nat) (g : Generator) (x : Exchange),
      s.nextStrict = some 3 →
      s.instance? 3 = some g →
      g.queue = n :: rest →
      (s.slot n).inFlight = true →
      (s.slot n).work = .release x →
      Completes (.strictRequestServed) s fun t =>
        (t.instance? 3).map (·.queue) = some rest
        ∧ (t.slot n).exchange? = some { x with exid := s.vehicle.exid, cv := s.fresh 16, waiting := true, challengeTick := s.now })
  ∧
  (∀ (s : State) (n : Nat) (rest : List Nat) (g : Generator) (a : Approach),
      s.nextStrict = some 2 →
      s.instance? 2 = some g →
      g.queue = n :: rest →
      (s.slot n).inFlight = true →
      (s.slot n).work = .approach a →
      s.drawState 8 = .ready →
      s.cipher.failed = false →
      Completes (.strictRequestServed) s fun t =>
        (t.instance? 2).map (·.queue) = some rest
        ∧ (t.slot n).approach?.map (·.rn) = some (s.fresh 16)
        ∧ (t.slot n).state = .ready)
  ∧
  (∀ (s : State) (inst : Nat) (g : Generator),
      s.instance? inst = some g →
      5 ≤ inst →
      s.reseedDue g = true →
      Completes (.stretchReseed inst) s fun t =>
        t.instance? inst = some (g.seed s.tick)
        ∧ t.rng.pool = s.rng.pool - 3)
  ∧
  (∀ (s : State) (inst : Nat) (g : Generator),
      s.instance? inst = some g →
      5 ≤ inst →
      g.seeded = true →
      2 ^ 20 ≤ g.calls →
      g.exhausted = false →
      Completes (.rngStretchExhausted inst) s fun t =>
        t.instance? inst = some { g with exhausted := true, calls := 2 ^ 20 }
        ∧ Logged s t Ev.rngStretchExhausted inst (leBytes 1 inst))
  ∧
  (∀ (s : State) (via : Via),
      s.portServes via.port = true →
      s.carries via.srv = [] →
      (s.server via.srv).slot = none →
      Completes (.hostRandomRead via) s fun t =>
        Answered t via 0x2A45 Rc.ok
        ∧ (t.bytes 0x2A45 0 = (if s.drawState 16 = .ready then s.fresh 32 else zeros 32)))

/-- NMT commands move an addressed port's state; Reset Communication restarts the port; Reset Node resets the die only while the lock is
withheld (R333, R338, R339, R340, R341). -/
def Obligations.NmtCommandsActOnAddressedPorts : Prop :=
  (∀ (s : State) (pt : Port) (node : Nat),
      s.nmtHeard pt node = true →
      Completes (.nmtStart pt node) s fun t =>
        ((t.port pt).nmt = (if (s.port pt).nmt = .initialising then .initialising else .operational))
        ∧ t.port (otherPort pt) = s.port (otherPort pt))
  ∧
  (∀ (s : State) (pt : Port) (node : Nat),
      s.nmtHeard pt node = true →
      Completes (.nmtStop pt node) s fun t =>
        ((t.port pt).nmt = (if (s.port pt).nmt = .initialising then .initialising else .stopped))
        ∧ t.port (otherPort pt) = s.port (otherPort pt))
  ∧
  (∀ (s : State) (pt : Port) (node : Nat),
      s.nmtHeard pt node = true →
      Completes (.nmtEnterPreOperational pt node) s fun t =>
        ((t.port pt).nmt = (if (s.port pt).nmt = .initialising then .initialising else .preOperational))
        ∧ t.port (otherPort pt) = s.port (otherPort pt))
  ∧
  (∀ (s : State) (pt : Port) (node : Nat),
      s.nmtHeard pt node = true →
      Completes (.nmtResetCommunication pt node) s fun t =>
        (t.port pt).node = s.nodeSet pt
        ∧ (t.port pt).nominal = s.num 0x2B01 (portSub pt)
        ∧ (t.port pt).emcy = []
        ∧ (t.port pt).tpdos = []
        ∧ ((t.port pt).nmt = (if s.nodeSet pt = 0xFF then .initialising else if bit (s.num 0x1F80 0) 2
            then .operational else .preOperational))
        ∧ (∀ n, s.net.server1.client = some (pt, n) → t.net.server1.client = none)
        ∧ (∀ n, s.net.server2.client = some (pt, n) → t.net.server2.client = none))
  ∧
  (∀ (s : State) (pt : Port) (node : Nat),
      s.nmtHeard pt node = true →
      s.lock.released = true →
      Completes (.nmtResetNode pt node) s fun t =>
        (t.port pt).node = s.nodeSet pt
        ∧ (t.port pt).nominal = s.num 0x2B01 (portSub pt)
        ∧ (t.port pt).emcy = []
        ∧ (t.port pt).tpdos = []
        ∧ ((t.port pt).nmt = (if s.nodeSet pt = 0xFF then .initialising else if bit (s.num 0x1F80 0) 2
            then .operational else .preOperational))
        ∧ (∀ n, s.net.server1.client = some (pt, n) → t.net.server1.client = none)
        ∧ (∀ n, s.net.server2.client = some (pt, n) → t.net.server2.client = none)
        ∧ t.lock = s.lock
        ∧ t.platform = s.platform
        ∧ Logged s t Ev.nmtResetDeferred 0 (leBytes 1 (portCode pt)))
  ∧
  (∀ (s : State) (pt : Port) (node : Nat),
      s.nmtHeard pt node = true →
      s.lock.released = false →
      Completes (.nmtResetNode pt node) s fun t =>
        t.platform.boot = .resetting .nmt 0
        ∧ t.lock = s.lock)
  ∧
  (∀ (s : State) (pt : Port),
      s.heartbeatDue pt = true →
      Completes (.producerHeartbeat) s fun t =>
        (t.port pt).heartbeatFrom = s.tick)

/-- Hearing a node updates its partner entry or makes a learned one; silence for its time makes a present entry LOST (R344, R345). -/
def Obligations.PartnersAreTrackedInTheirTable : Prop :=
  (∀ (s : State) (pt : Port) (node state n : Nat) (p : Partner),
      s.heartbeatHeard pt node = true →
      s.findPartner pt node = some n →
      s.partner n = some p →
      Completes (.heartbeatReceived pt node state) s fun t =>
        t.partner n = some { p with state := .present, operational := state == 5, last := s.tick })
  ∧
  (∀ (s : State) (pt : Port) (node n : Nat) (p : Partner),
      s.heartbeatHeard pt node = true →
      s.findPartner pt node = some n →
      s.partner n = some p →
      Completes (.bootUpReceived pt node) s fun t =>
        t.partner n = some { p with state := .present, operational := false, last := s.tick }
        ∧ (∀ e, heardEvent p.state true = some e → Logged s t e (partnerSubject n) (leBytes 1 (portCode pt) ++ leBytes 1 node)))
  ∧
  (∀ (s : State) (pt : Port) (node state n : Nat),
      s.heartbeatHeard pt node = true →
      s.findPartner pt node = none →
      s.emptyPartner = some n →
      n ≤ s.net.partners.length →
      Completes (.heartbeatReceived pt node state) s fun t =>
        t.partner n = some (learned pt node (state == 5) s.tick)
        ∧ Logged s t Ev.partnerAppeared (partnerSubject n) (leBytes 1 (portCode pt) ++ leBytes 1 node))
  ∧
  (∀ (s : State) (pt : Port) (node n : Nat),
      s.heartbeatHeard pt node = true →
      s.findPartner pt node = none →
      s.emptyPartner = some n →
      n ≤ s.net.partners.length →
      Completes (.bootUpReceived pt node) s fun t =>
        t.partner n = some (learned pt node false s.tick)
        ∧ Logged s t Ev.partnerAppeared (partnerSubject n) (leBytes 1 (portCode pt) ++ leBytes 1 node))
  ∧
  (∀ (s : State) (n : Nat) (p : Partner),
      s.running = true →
      s.partner n = some p →
      p.state = .present →
      s.partnerTime p * ticksPerMs ≤ s.sinceTick p.last →
      Completes (.partnerLost n) s fun t =>
        t.partner n = some { p with state := .lost, losses := satAdd 65535 p.losses 1, lostAt := s.tick }
        ∧ Logged s t Ev.partnerLost (partnerSubject n) (leBytes 1 (portCode p.port) ++ leBytes 1 p.node))

/-- An initiate takes the free server or keeps its own, a third client is turned away BUSY, a silent segmented transfer ends with
TRANSFER_TIMEOUT (R351, R353, R354). -/
def Obligations.UsdoServersAreHeldAndReleased : Prop :=
  (∀ (s : State) (pt : Port) (client : Nat) (v : Srv),
      s.portServes pt = true →
      s.heldBy pt client = none →
      s.freeSrv = some v →
      Completes (.usdoInitiate pt client false) s fun t =>
        (t.server v).client = some (pt, client)
        ∧ (t.server v).segmented = false
        ∧ (t.server v).abortCode = 0)
  ∧
  (∀ (s : State) (pt : Port) (client n : Nat) (v : Srv),
      s.portServes pt = true →
      s.heldBy pt client = none →
      s.freeSrv = some v →
      (s.ofKind .dictionary).length < 2 →
      s.tilth.gateAdmits .dictionary = true →
      2 ≤ s.tilth.available .dictionary →
      s.freeSlot .dictionary = some n →
      n ≤ s.tilth.slots.length →
      Completes (.usdoInitiate pt client true) s fun t =>
        (t.server v).client = some (pt, client)
        ∧ (t.server v).slot = some n
        ∧ (t.slot n).work = .dictionary v)
  ∧
  (∀ (s : State) (pt : Port) (client : Nat) (v : Srv),
      s.portServes pt = true →
      s.heldBy pt client = some v →
      Completes (.usdoInitiate pt client false) s fun t =>
        (t.server v).client = some (pt, client)
        ∧ (t.server v).segmented = false)
  ∧
  (∀ (s : State) (pt : Port) (client : Nat) (seg : Bool),
      s.portServes pt = true →
      s.heldBy pt client = none →
      s.freeSrv = none →
      Completes (.usdoInitiate pt client seg) s fun t =>
        t.net = s.net
        ∧ t.bytes 0x2B31 0 = codeBytes Rc.busy)
  ∧
  (∀ (s : State) (v : Srv),
      (s.server v).client ≠ none →
      (s.server v).segmented = true →
      s.seenNum 0x2B20 1 * ticksPerMs ≤ s.sinceTick (s.server v).lastFrame →
      Completes (.usdoSegmentTimeout v) s fun t =>
        (t.server v).client = none
        ∧ (t.server v).abortCode = 0x05040000
        ∧ t.bytes 0x2B30 (srvSub v) = codeBytes Rc.transferTimeout)

/-- A bit rate is stored only while the lock is withheld and the rates fit; a PDO mapping only while the PDO is invalid and within R347
(R333, R335, R343, R347). -/
def Obligations.RatesAndMappingsAreGuarded : Prop :=
  (∀ (s : State) (via : Via) (sub : Nat) (value : Bytes),
      s.portServes via.port = true →
      s.carries via.srv = [] →
      (s.server via.srv).slot = none →
      s.lock.released = true →
      1 ≤ sub →
      sub ≤ 4 →
      Completes (.canBitrateWrite via sub value) s fun t =>
        Answered t via 0x2B01 Rc.bitrateLocked
        ∧ t.bytes 0x2B01 sub = s.bytes 0x2B01 sub)
  ∧
  (∀ (s : State) (via : Via) (sub : Nat) (value : Bytes),
      Reached s via 0x2B01 sub value →
      s.lock.released = false →
      (if sub ≤ 2 then ratesFit (leNat value) (s.num 0x2B01 (sub + 2)) else ratesFit (s.num 0x2B01 (sub - 2)) (leNat value)) = true →
      Completes (.canBitrateWrite via sub value) s fun t =>
        Answered t via 0x2B01 Rc.ok
        ∧ t.bytes 0x2B01 sub = value)
  ∧
  (∀ (s : State) (via : Via) (sub : Nat) (value : Bytes),
      Reached s via 0x2B01 sub value →
      s.lock.released = false →
      (if sub ≤ 2 then ratesFit (leNat value) (s.num 0x2B01 (sub + 2)) else ratesFit (s.num 0x2B01 (sub - 2)) (leNat value)) = false →
      Completes (.canBitrateWrite via sub value) s fun t =>
        Answered t via 0x2B01 Rc.valueRange
        ∧ t.bytes 0x2B01 sub = s.bytes 0x2B01 sub)
  ∧
  (∀ (s : State) (via : Via) (idx sub : Nat) (value : Bytes),
      Reached s via idx sub value →
      isPdoMapping idx = true →
      s.pdoValid (idx - 0x200) = true →
      Completes (.pdoMappingWrite via idx sub value) s fun t =>
        Answered t via idx Rc.pdoMappingInvalid
        ∧ t.bytes idx sub = s.bytes idx sub)
  ∧
  (∀ (s : State) (via : Via) (idx sub : Nat) (value : Bytes),
      Reached s via idx sub value →
      isPdoMapping idx = true →
      64 < mappingBytes ((s.put idx sub value).mapped idx) →
      Completes (.pdoMappingWrite via idx sub value) s fun t =>
        Answered t via idx Rc.pdoMappingInvalid
        ∧ t.bytes idx sub = s.bytes idx sub)
  ∧
  (∀ (s : State) (via : Via) (idx sub : Nat) (value : Bytes),
      Reached s via idx sub value →
      isPdoMapping idx = true →
      s.pdoValid (idx - 0x200) = false →
      sub = 0 ∨ mappable (decide (idx < 0x1A00)) (leNat value) = true →
      (s.put idx sub value).num idx 0 ≤ 16 →
      ((s.put idx sub value).mapped idx).all (mappable (decide (idx < 0x1A00))) = true →
      mappingBytes ((s.put idx sub value).mapped idx) ≤ 64 →
      Completes (.pdoMappingWrite via idx sub value) s fun t =>
        Answered t via idx Rc.ok
        ∧ t.bytes idx sub = value)
  ∧
  (∀ (s : State) (via : Via) (value : Bytes),
      Reached s via 0x2B03 3 value →
      Completes (.busOffRecover via value) s fun t =>
        Answered t via 0x2B03 Rc.ok
        ∧ (t.port (portOfCode (leNat value - 1)) = if (s.port (portOfCode (leNat value - 1))).bus = .busOff
            ∧ (s.port (portOfCode (leNat value - 1))).recovering =
            false then { s.port (portOfCode (leNat value - 1)) with recovering := true, busOffFrom := s.tick }
            else s.port (portOfCode (leNat value - 1))))

/-- Bus-off, recovery, error passive and receive overruns change the port as R335 says, are logged, and raise their EMCY (R335, R337,
R350). -/
def Obligations.PortErrorsAreLoggedAndReported : Prop :=
  (∀ (s : State) (pt : Port),
      s.portHears pt = true →
      Completes (.busOff pt) s fun t =>
        (t.port pt).bus = .busOff
        ∧ (t.port pt).busOffFrom = s.tick
        ∧ Logged s t Ev.busOff 0 (leBytes 1 (portCode pt)))
  ∧
  (∀ (s : State) (pt : Port),
      s.recoveryDue pt = true →
      Completes (.busOffRecovery pt) s fun t =>
        (t.port pt).bus = .active
        ∧ Logged s t Ev.busRecovered 0 (leBytes 1 (portCode pt))
        ∧ (s.emcyPort pt = true → (s.port pt).emcy.length < 16 → ∃ m ∈ (t.port pt).emcy, m.error = 0x8140 ∧ m.code = Ev.busRecovered))
  ∧
  (∀ (s : State) (pt : Port),
      s.portOn pt = true →
      (s.port pt).bus = .active →
      Completes (.errorPassive pt) s fun t =>
        (t.port pt).bus = .passive
        ∧ Logged s t Ev.errorPassive 0 (leBytes 1 (portCode pt))
        ∧ (s.emcyPort (otherPort pt) = true → (s.port (otherPort pt)).emcy.length < 16 →
            ∃ m ∈ (t.port (otherPort pt)).emcy, m.error = 0x8120 ∧ m.code = Ev.errorPassive))
  ∧
  (∀ (s : State) (pt : Port),
      s.portOn pt = true →
      (s.port pt).bus = .passive →
      Completes (.portErrorActive pt) s fun t =>
        (t.port pt).bus = .active)
  ∧
  (∀ (s : State) (pt q : Port),
      s.portHears pt = true →
      Completes (.rxOverrun pt) s fun t =>
        Logged s t Ev.rxOverrun 0 (leBytes 1 (portCode pt))
        ∧ (s.emcyPort q = true → (s.port q).emcy.length < 16 → ∃ m ∈ (t.port q).emcy, m.error = 0x8110 ∧ m.code = Ev.rxOverrun))

/-- An RPDO is applied whole or discarded whole and logged; a TPDO is queued with its payload on a trigger, or when its SYNC count is
due (R339, R347, R348, R349). -/
def Obligations.ProcessDataIsAppliedAndQueued : Prop :=
  (∀ (s : State) (pt : Port) (num : Nat) (payload : Bytes) (w : MappedWrite),
      s.rpdoTaken pt num = true →
      s.failingWrite ⟨pt, .one⟩ (decide (payload.length < mappingBytes (s.mapped (0x1600 + (num - 1))))) (s.mapped (0x1600 + (num -
          1))) (cutPayload payload (s.mapped (0x1600 + (num - 1)))) = some w →
      Completes (.rpdoReceived pt num payload) s fun t =>
        Logged s t Ev.rpdoDiscarded 0 (discardData num w)
        ∧ Only [.logs, .ledger, .net, .dict] s t)
  ∧
  (∀ (s : State) (pt : Port) (num : Nat) (payload : Bytes) (w : MappedWrite),
      (∀ u, ownRule ⟨pt, .one⟩ w.idx w.sub w.value u = storeValue w.idx w.sub w.value u) →
      s.rpdoTaken pt num = true →
      s.failingWrite ⟨pt, .one⟩ (decide (payload.length < mappingBytes (s.mapped (0x1600 + (num - 1))))) (s.mapped (0x1600 + (num -
          1))) (cutPayload payload (s.mapped (0x1600 + (num - 1)))) = none →
      cutPayload payload (s.mapped (0x1600 + (num - 1))) = [w] →
      Completes (.rpdoReceived pt num payload) s fun t =>
        t.bytes w.idx w.sub = w.value)
  ∧
  (∀ (s : State) (num : Nat) (pt : Port),
      s.running = true →
      s.tpdoValid num = true →
      0xFE ≤ s.tpdoType num →
      s.tpdoPort num pt = true →
      Completes (.tpdoTrigger num) s fun t =>
        (num, s.tpdoPayload num) ∈ (t.port pt).tpdos)
  ∧
  (∀ (s : State) (pt : Port) (counter : Option Nat) (n : Nat),
      s.portHears pt = true →
      (s.port pt).nmt = .operational →
      s.syncCounted pt counter n = true →
      Completes (.syncReceived pt counter) s fun t =>
        (t.syncCount n = some (if s.tpdoType n ≤ (s.syncCount n).getD 0 + 1 then 0 else (s.syncCount n).getD 0 + 1))
        ∧ (s.tpdoType n ≤ (s.syncCount n).getD 0 + 1 → ∃ e ∈ (t.port pt).tpdos, e.1 = n))

/-- LSS switches a slave into configuration and configures node-ID and rate; while the lock is released rate and storage are refused
with 0x07 (R339, R342, R343). -/
def Obligations.LssSwitchesAndConfigures : Prop :=
  (∀ (s : State) (pt : Port) (config : Bool),
      s.portHears pt = true →
      Completes (.lssSwitchStateGlobal pt config) s fun t =>
        (t.port pt).lssConfig = config)
  ∧
  (∀ (s : State) (pt : Port),
      s.lssServed pt false = true →
      Completes (.lssSwitchStateSelective pt (s.lssPart 0) (s.lssPart 1) (s.lssPart 2) (s.lssPart 3)) s fun t =>
        (t.port pt).lssConfig = true
        ∧ (t.port pt).lssResponse = some (0x44, 0))
  ∧
  (∀ (s : State) (pt : Port) (node : Nat),
      s.lssServed pt true = true →
      (1 ≤ node ∧ node ≤ 127) ∨ node = 0xFF →
      Completes (.lssConfigureNodeId pt node) s fun t =>
        (t.port pt).lssNode = some node
        ∧ (t.port pt).lssResponse = some (0x11, 0))
  ∧
  (∀ (s : State) (pt : Port) (node : Nat),
      s.lssServed pt true = true →
      node = 0 ∨ (127 < node ∧ node ≠ 0xFF) →
      Completes (.lssConfigureNodeId pt node) s fun t =>
        (t.port pt).lssNode = (s.port pt).lssNode
        ∧ (t.port pt).lssResponse = some (0x11, 1))
  ∧
  (∀ (s : State) (pt : Port) (code r : Nat),
      s.lssServed pt true = true →
      s.lock.released = false →
      lssRateCode code = some r →
      ratesFit r (s.num 0x2B01 (portSub pt + 2)) = true →
      Completes (.lssConfigureBitTiming pt 0 code) s fun t =>
        (t.port pt).lssRate = some r
        ∧ (t.port pt).lssResponse = some (0x13, 0))
  ∧
  (∀ (s : State) (pt : Port),
      s.lssServed pt true = true →
      s.lock.released = false →
      Completes (.lssActivateBitTiming pt) s fun t =>
        (t.port pt).nominal = (s.port pt).lssRate.getD (s.port pt).nominal)
  ∧
  (∀ (s : State) (pt : Port),
      s.lssServed pt true = true →
      s.lock.released = false →
      Completes (.lssStoreConfiguration pt) s fun t =>
        (t.port pt).lssResponse = some (0x17, 0)
        ∧ (∀ n, (s.port pt).lssNode = some n → t.bytes 0x2B00 (portSub pt) = leBytes 1 n)
        ∧ (∀ r, (s.port pt).lssRate = some r → t.bytes 0x2B01 (portSub pt) = leBytes 1 r))
  ∧
  (∀ (s : State) (pt : Port) (selector code : Nat),
      s.lssServed pt true = true →
      s.lock.released = true →
      Completes (.lssConfigureBitTiming pt selector code) s fun t =>
        (t.port pt).lssResponse = some (0x13, 0x07FF)
        ∧ (t.port pt).nominal = (s.port pt).nominal
        ∧ (t.port pt).lssRate = (s.port pt).lssRate
        ∧ t.dict = s.dict)
  ∧
  (∀ (s : State) (pt : Port),
      s.lssServed pt true = true →
      s.lock.released = true →
      Completes (.lssActivateBitTiming pt) s fun t =>
        (t.port pt).lssResponse = some (0x15, 0x07FF)
        ∧ (t.port pt).nominal = (s.port pt).nominal
        ∧ (t.port pt).lssRate = (s.port pt).lssRate
        ∧ t.dict = s.dict)
  ∧
  (∀ (s : State) (pt : Port),
      s.lssServed pt true = true →
      s.lock.released = true →
      Completes (.lssStoreConfiguration pt) s fun t =>
        (t.port pt).lssResponse = some (0x17, 0x07FF)
        ∧ (t.port pt).nominal = (s.port pt).nominal
        ∧ (t.port pt).lssRate = (s.port pt).lssRate
        ∧ t.dict = s.dict)

/-- LSS inquiries answer the identity and the node-ID; identification answers within its ranges; Fastscan follows the address part by
part (R342). -/
def Obligations.LssInquiresAndIdentifies : Prop :=
  (∀ (s : State) (pt : Port) (part : Nat),
      s.lssServed pt true = true →
      part ≤ 3 →
      Completes (.lssInquireIdentity pt part) s fun t =>
        (t.port pt).lssResponse = some (0x5A + part, s.lssPart part))
  ∧
  (∀ (s : State) (pt : Port),
      s.lssServed pt true = true →
      Completes (.lssInquireNodeId pt) s fun t =>
        (t.port pt).lssResponse = some (0x5E, s.nodeSet pt))
  ∧
  (∀ (s : State) (pt : Port) (revLow revHigh serLow serHigh : Nat),
      revLow ≤ s.lssPart 2 →
      s.lssPart 2 ≤ revHigh →
      serLow ≤ s.lssPart 3 →
      s.lssPart 3 ≤ serHigh →
      s.portHears pt = true →
      Completes (.lssIdentifyRemoteSlave pt (s.lssPart 0) (s.lssPart 1) revLow revHigh serLow serHigh) s fun t =>
        (t.port pt).lssResponse = some (0x4F, 0))
  ∧
  (∀ (s : State) (pt : Port),
      s.portHears pt = true →
      s.nodeSet pt = 0xFF →
      Completes (.lssIdentifyNonConfigured pt) s fun t =>
        (t.port pt).lssResponse = some (0x50, 0))
  ∧
  (∀ (s : State) (pt : Port) (idNumber lssSub lssNext : Nat),
      s.lssServed pt false = true →
      s.nodeSet pt = 0xFF →
      Completes (.lssFastscan pt idNumber 0x80 lssSub lssNext) s fun t =>
        (t.port pt).lssResponse = some (0x4F, 0)
        ∧ (t.port pt).fastscan.sub = 0)
  ∧
  (∀ (s : State) (pt : Port) (idNumber bitCheck lssSub lssNext : Nat),
      s.lssServed pt false = true →
      s.nodeSet pt = 0xFF →
      bitCheck ≤ 31 →
      lssSub ≤ 3 →
      lssNext ≤ 3 →
      lssSub = (s.port pt).fastscan.sub →
      s.fastscanFits idNumber bitCheck lssSub = true →
      Completes (.lssFastscan pt idNumber bitCheck lssSub lssNext) s fun t =>
        (t.port pt).lssResponse = some (0x4F, 0)
        ∧ (t.port pt).fastscan.sub = lssNext
        ∧ (t.port pt).lssConfig = decide (bitCheck = 0 ∧ lssNext < lssSub))

/-- A training ends UP, DEGRADED or failed; a lost lane degrades the link, a direction without a lane and a third NAK retrain it (R361,
R362, R363, R367, R369). -/
def Obligations.SahunLinkTrainsDegradesAndFalls : Prop :=
  (∀ (s : State) (lanes : BitVec 4) (attrMap : Bytes),
      s.bridge.training = true →
      Completes (.linkTrainingEnd lanes attrMap) s fun t =>
        t.bridge.training = false
        ∧ t.bytes 0x2C00 3 = (s.bump 0x2C00 3).bytes 0x2C00 3
        ∧ (lanesUp lanes.toNat 0 ≠ 0 ∧ lanesUp lanes.toNat 1 ≠ 0 → t.bridge.link = (if lanes.toNat = 15 then .up else .degraded)
            ∧ t.bridge.lanes = lanes.toNat ∧ t.bridge.failedTrainings = 0 ∧ t.bytes 0x2C03 0 = padTo 6 attrMap
            ∧ Logged s t Ev.linkUp 0 (leBytes 1 lanes.toNat) ∧ t.ledger.configFrom = none
            ∧ (s.bridge.writes = [] → t.bridge.writes.map (·.data) = s.eptanConstants))
        ∧ (¬ (lanesUp lanes.toNat 0 ≠ 0 ∧ lanesUp lanes.toNat 1 ≠ 0) → t.bridge.failedTrainings = s.bridge.failedTrainings + 1
            ∧ t.bridge.lastTraining = s.tick ∧ t.bridge.link = (if s.bridge.failedTrainings + 1 = 10 then .failed else s.bridge.link)))
  ∧
  (∀ (s : State),
      s.bridgeOn = true →
      s.bridge.training = false →
      s.bridge.link = .training ∨ s.bridge.link = .failed →
      s.retryPause ≤ s.sinceTick s.bridge.lastTraining →
      Completes (.linkTrainingRetry) s fun t =>
        t.bridge = { s.bridge with training := true })
  ∧
  (∀ (s : State) (lane : Nat),
      s.linkServes = true →
      lane < 4 →
      bit s.bridge.lanes lane = true →
      Completes (.linkDegraded lane) s fun t =>
        (lanesUp (s.bridge.lanes - 2 ^ lane) (lane / 2) ≠ 0 →
            t.bridge = { s.bridge with lanes := s.bridge.lanes - 2 ^ lane, link := .degraded })
        ∧ (lanesUp (s.bridge.lanes - 2 ^ lane) (lane / 2) = 0 → t.bridge.link = .training ∧ t.bridge.training = true))
  ∧
  (∀ (s : State) (direction : Nat),
      s.linkServes = true →
      direction < 2 →
      Completes (.linkDown direction) s fun t =>
        t.bridge.link = .training
        ∧ t.bridge.training = true
        ∧ t.bridge.landed = []
        ∧ (∀ w ∈ t.bridge.writes, w.sent = none)
        ∧ Logged s t Ev.linkDown 0 (leBytes 1 s.bridge.lanes))
  ∧
  (∀ (s : State) (packet : SahunPacket),
      s.linkServes = true →
      Completes (.sahunNak packet) s fun t =>
        t.bytes 0x2C00 4 = (s.bump 0x2C00 4).bytes 0x2C00 4
        ∧ t.bridge.lastPacket = s.repeated packet
        ∧ (s.bridge.naksOf packet + 1 < 3 → t.bridge.naksOf packet = s.bridge.naksOf packet + 1 ∧ t.bridge.link = s.bridge.link)
        ∧ (3 ≤ s.bridge.naksOf packet + 1 → t.bridge.link = .training ∧ t.bridge.training = true))

/-- Landed data and timeouts end a read and move its session on; acknowledgements and failures end a posted write; stale lines and waits
end (R364, R365, R366, R367, R372, R373). -/
def Obligations.BridgeTransfersComplete : Prop :=
  (∀ (s : State) (tag : Nat) (data : Bytes) (r : BridgeRead),
      s.readOf tag = some r →
      r.len ≤ data.length →
      s.linkServes = true →
      (s.slot r.slot).hostServer = none →
      (s.slot r.slot).state = .waitingEngine →
      Completes (.readDataLanded tag data) s fun t =>
        (t.slot r.slot).state = .ready
        ∧ t.readOf tag = none
        ∧ (0 < r.depth → r.len < data.length → t.bridge.line = some (lineAfter r (data.drop r.len) s.now)))
  ∧
  (∀ (s : State) (tag : Nat) (data : Bytes) (r : BridgeRead) (v : Srv),
      s.readOf tag = some r →
      r.len ≤ data.length →
      s.linkServes = true →
      (s.slot r.slot).hostServer = some v →
      (s.server v).slot = some r.slot →
      (s.cipher.opens.filter fun o => (s.family r.slot).contains o.slot) = [] →
      Completes (.readDataLanded tag data) s fun t =>
        t.bytes 0x2C50 3 = data.take r.len
        ∧ t.bytes 0x2C50 4 = codeBytes Rc.ok
        ∧ (t.server v).client = none
        ∧ t.bytes 0x2B30 (srvSub v) = codeBytes Rc.ok)
  ∧
  (∀ (s : State) (tag : Nat) (r : BridgeRead),
      s.readOf tag = some r →
      r.issued + r.limit ≤ s.now →
      (s.slot r.slot).hostServer = none →
      (s.slot r.slot).state = .waitingEngine →
      Completes (.readTimeoutLogged tag) s fun t =>
        (t.slot r.slot).state = .ready
        ∧ t.readOf tag = none
        ∧ t.bytes 0x2C01 1 = (s.bump 0x2C01 1).bytes 0x2C01 1
        ∧ (3 ≤ (s.lastSecond s.bridge.timeouts).length + 1 → s.linkServes = true → t.bridge.link = .training)
        ∧ Logged s t Ev.readTimeoutLogged r.slot (leBytes 4 r.addr))
  ∧
  (∀ (s : State) (slot : Nat) (w : RoomWait),
      (s.bridge.roomWaits.find? fun w => w.slot == slot) = some w →
      w.since + 8 ≤ s.now →
      (s.slot slot).inFlight = true →
      (s.cipher.opens.filter fun o => (s.family slot).contains o.slot) = [] →
      Completes (.postedWriteRoomTimeout slot) s fun t =>
        Ended t slot Rc.noResource)
  ∧
  (∀ (s : State) (tag : Nat) (w : PostedWrite),
      s.writeOf tag = some w →
      Completes (.writeAckReceived tag) s fun t =>
        t.writeOf tag = none
        ∧ (s.bridge.roomWaits = [] → t.bridge.writes = s.bridge.writes.filter fun x => x.tag != tag))
  ∧
  (∀ (s : State) (tag : Nat) (cause : Code) (w : PostedWrite),
      s.writeOf tag = some w →
      w.applied = false →
      Completes (.postedWriteFailed tag cause) s fun t =>
        t.writeOf tag = none
        ∧ t.bytes 0x2C20 (s.num 0x2C21 0 % 16 + 1) = leBytes 4 w.addr ++ leBytes 1 (windowByte w.addr) ++ codeBytes cause ++ leBytes 1
            w.slot ++ leBytes 6 (w.sent.getD s.tick) ++ leBytes 2 0
        ∧ Logged s t Ev.postedWriteFailed w.slot (leBytes 4 w.addr ++ codeBytes cause))
  ∧
  (∀ (s : State) (l : PrefetchLine),
      s.bridge.line = some l →
      (s.slot l.slot).inFlight = false ∨ l.usedAt + 4 ≤ s.now →
      Completes (.prefetchDiscarded) s fun t =>
        t.bridge.line = none
        ∧ (l.bytes ≠ [] → Logged s t Ev.prefetchDiscarded 0 (leBytes 4 l.addr ++ leBytes 2 l.bytes.length ++ leBytes 1 (if (s.slot
            l.slot).inFlight = true then 4 else 5))))

/-- A host window access that R373 refuses is answered with its code; a read becomes a bridge read, a write is posted, or waits for room
(R353, R364, R366, R373). -/
def Obligations.HostWindowReachesTheEptanDie : Prop :=
  (∀ (s : State) (via : Via) (n : Nat),
      s.portServes via.port = true →
      s.carries via.srv = [] →
      (s.server via.srv).slot = none →
      (s.ofKind .dictionary).length < 2 →
      s.tilth.gateAdmits .dictionary = true →
      2 ≤ s.tilth.available .dictionary →
      s.freeSlot .dictionary = some n →
      n ≤ s.tilth.slots.length →
      Completes (.hostWindowRead via) s fun t =>
        (∀ c, s.windowReadRefused = some c → Answered t via 0x2C50 c ∧ t.bytes 0x2C50 4 = codeBytes c)
        ∧ (s.windowReadRefused = none → (t.server via.srv).slot = some n ∧ (t.slot n).state = .admitted
            ∧ (t.slot n).engine = some .brg ∧ ∃ r ∈ t.bridge.reads, r.slot = n ∧ r.held = true ∧ r.addr = s.seenNum 0x2C50 1
            ∧ r.len = s.seenNum 0x2C50 2))
  ∧
  (∀ (s : State) (via : Via) (value : Bytes),
      Reached s via 0x2C50 3 value →
      s.writesFull = false →
      Completes (.hostWindowWrite via value) s fun t =>
        Answered t via 0x2C50 (s.windowWriteRefused value |>.getD Rc.ok)
        ∧ t.bytes 0x2C50 4 = codeBytes (s.windowWriteRefused value |>.getD Rc.ok)
        ∧ (s.windowWriteRefused value = none → ∃ w ∈ t.bridge.writes, w.slot = 0 ∧ w.addr = s.seenNum 0x2C50 1 ∧ w.data = value
            ∧ w.sent = none)
        ∧ (s.windowWriteRefused value ≠ none → t.bridge = s.bridge))
  ∧
  (∀ (s : State) (via : Via) (value : Bytes) (n : Nat),
      Reached s via 0x2C50 3 value →
      s.writesFull = true →
      s.windowWriteRefused value = none →
      (s.ofKind .dictionary).length < 2 →
      s.tilth.gateAdmits .dictionary = true →
      2 ≤ s.tilth.available .dictionary →
      s.freeSlot .dictionary = some n →
      n ≤ s.tilth.slots.length →
      Completes (.hostWindowWrite via value) s fun t =>
        (t.server via.srv).slot = some n
        ∧ (t.slot n).state = .waitingResource
        ∧ t.bridge.roomWaits = s.bridge.roomWaits ++ [{ slot := n, since := s.now, addr := s.seenNum 0x2C50 1, data := value }])

/-- A stream packet waits in the landing buffer; the tail commits packets in sequence: a sample shows its values, an Eptan event sets
HVIL and insulation (R368, R369, R378, R379, R386, R389, R390). -/
def Obligations.StreamPacketsCommitInOrder : Prop :=
  (∀ (s : State) (seq lost : Nat) (record : Bytes),
      s.linkServes = true →
      s.bridge.streamOn = true →
      seq < 2 ^ 32 →
      s.ahead seq < 16 →
      (s.bridge.landed.any fun q => q.seq == seq) = false →
      Completes (.samplePacketLanded seq lost record) s fun t =>
        t.bridge.landed = s.bridge.landed ++ [.sample seq lost record]
        ∧ t.bridge.committedSeq = s.bridge.committedSeq
        ∧ t.ledger = s.ledger)
  ∧
  (∀ (s : State) (seq lost : Nat) (record : Bytes),
      s.linkServes = true →
      s.bridge.streamOn = false →
      s.bridge.landed = [] →
      seq < 2 ^ 32 →
      Completes (.samplePacketLanded seq lost record) s fun t =>
        t.bridge.landed = [.sample seq lost record]
        ∧ t.bridge.streamOn = true
        ∧ t.nextStream = seq
        ∧ t.ledger = s.ledger)
  ∧
  (∀ (s : State) (seq lost : Nat) (event : Bytes),
      s.linkServes = true →
      s.bridge.streamOn = true →
      seq < 2 ^ 32 →
      s.ahead seq < 16 →
      (s.bridge.landed.any fun q => q.seq == seq) = false →
      Completes (.eventPacketLanded seq lost event) s fun t =>
        t.bridge.landed = s.bridge.landed ++ [.event seq lost event]
        ∧ t.bridge.committedSeq = s.bridge.committedSeq
        ∧ t.ledger = s.ledger)
  ∧
  (∀ (s : State) (seq lost : Nat) (event : Bytes),
      s.linkServes = true →
      s.bridge.streamOn = false →
      s.bridge.landed = [] →
      seq < 2 ^ 32 →
      Completes (.eventPacketLanded seq lost event) s fun t =>
        t.bridge.landed = [.event seq lost event]
        ∧ t.bridge.streamOn = true
        ∧ t.nextStream = seq
        ∧ t.ledger = s.ledger)
  ∧
  (∀ s : State, (∀ p ∈ s.bridge.landed, p.seq ≠ s.nextStream) → s.commitLanded = s)
  ∧
  (∀ (s : State) (lost : Nat) (record : Bytes), s.bridge.landed = [.sample s.nextStream lost record] →
      s.commitLanded.bridge.committedSeq = s.nextStream
        ∧ s.commitLanded.bridge.landed = []
        ∧ s.commitLanded.bridge.lastPacket = sahunPacket 0x07 0 s.nextStream []
        ∧ s.commitLanded.bytes 0x2D01 0 = padTo 32 record
        ∧ s.commitLanded.ledger.sample = some (sampleView (padTo 32 record))
        ∧ s.commitLanded.ledger.hvil = hvilOfCode (byteAt (padTo 32 record) 1)
        ∧ s.commitLanded.ledger.insulation = insulationOfCode (byteAt (padTo 32 record) 22)
        ∧ s.commitLanded.bytes 0x2D00 8 = (s.putNum 0x2D00 8 (field (padTo 32 record) 2 6)).bytes 0x2D00 8
        ∧ (lost ≠ 0 → Logged s s.commitLanded Ev.streamGap 0 (leBytes 1 lost)))
  ∧
  (∀ (s : State) (lost : Nat) (event : Bytes) (code : Code), s.bridge.landed = [.event s.nextStream lost event] →
      code = (BitVec.ofNat 16 (field (padTo 16 event) 0 2) : Code) → eptanEvents.contains code = true →
      s.commitLanded.bridge.committedSeq = s.nextStream
        ∧ s.commitLanded.bridge.landed = []
        ∧ s.commitLanded.bridge.lastPacket = sahunPacket 0x07 0 s.nextStream []
        ∧ Logged s s.commitLanded code (byteAt (padTo 16 event) 2) (slice (padTo 16 event) 4 10)
        ∧ s.commitLanded.ledger.hvil = (eventHvil code).getD s.ledger.hvil
        ∧ s.commitLanded.ledger.insulation = (eventInsulation code).getD s.ledger.insulation
        ∧ (s.lock.released = true → (eventHvil code = some .opened ∨ eventHvil code = some .fault) →
            s.commitLanded.vehicle.hvilDue = true))

/-- A fold adds the counters' rise and debits whole Wh of discharge; grace runs out; the REG window is restored; the current offset is
nulled (R380, R381, R383, R384, R391). -/
def Obligations.EnergyIsFoldedAndOffsetsNulled : Prop :=
  (∀ (s : State) (sn old : Snapshot),
      s.foldDue = true →
      s.mode ≠ .retired →
      s.linkServes = true →
      s.isOn .ept = true →
      s.ledger.snapshot = some old →
      old.epoch = sn.epoch →
      Completes (.meterFold (some sn)) s fun t =>
        t.ledger.charge = s.ledger.charge + counterRise sn.charge old.charge
        ∧ t.ledger.discharge = s.ledger.discharge + counterRise sn.discharge old.discharge
        ∧ t.ledger.remainder = (s.ledger.remainder + counterRise sn.discharge old.discharge) % 1000000
        ∧ t.ledger.credit = s.ledger.credit - (((s.ledger.remainder + counterRise sn.discharge old.discharge) / 1000000 : Nat) : Int)
        ∧ t.ledger.snapshot = some sn
        ∧ t.ledger.foldFrom = s.tick)
  ∧
  (∀ (s : State) (sn : Snapshot),
      s.foldDue = true →
      s.mode ≠ .retired →
      s.linkServes = true →
      s.isOn .ept = true →
      (s.ledger.snapshot.all fun old => old.epoch != sn.epoch) = true →
      Completes (.meterFold (some sn)) s fun t =>
        t.ledger.charge = s.ledger.charge + sn.charge
        ∧ t.ledger.discharge = s.ledger.discharge + sn.discharge
        ∧ t.ledger.remainder = (s.ledger.remainder + sn.discharge) % 1000000
        ∧ t.ledger.credit = s.ledger.credit - (((s.ledger.remainder + sn.discharge) / 1000000 : Nat) : Int)
        ∧ t.ledger.snapshot = some sn
        ∧ t.ledger.foldFrom = s.tick)
  ∧
  (∀ (s : State),
      s.foldDue = true →
      Completes (.meterFold none) s fun t =>
        t.ledger = { s.ledger with foldFrom := s.tick }
        ∧ (∀ n, (t.slot n).unfolded = false))
  ∧
  (∀ (s : State),
      s.ledger.state = .grace →
      s.ledger.graceTime * ticksPerSecond ≤ s.ledger.graceTicks →
      s.ledger.credit ≤ 0 →
      Completes (.graceTimeExpiry) s fun t =>
        t.ledger.state = .exhausted
        ∧ Logged s t Ev.creditState 0 [1, 2])
  ∧
  (∀ (s : State) (readBack : List Bytes) (i : Nat) (b : Bytes),
      s.configDue = true →
      i < 8 →
      readBack[i]? = some b →
      s.eptanConstants[i]? ≠ some b →
      Completes (.eptanConfigCheck readBack) s fun t =>
        Logged s t Ev.configRestored 0 (leBytes 1 i)
        ∧ t.ledger.configFrom = some s.tick)
  ∧
  (∀ (s : State) (via : Via) (value : Bytes),
      Reached s via 0x2D12 1 value →
      Completes (.zeroCurrentOffset via value) s fun t =>
        (Answered t via 0x2D12 (if s.lock.released = true
            ∨ s.ledger.quiet < 4000 then Rc.zeroRefused else if s.ledger.zeroing.isSome then Rc.busy else Rc.ok))
        ∧ (s.lock.released = true ∨ s.ledger.quiet < 4000 → t.bytes 0x2D12 2 = codeBytes Rc.zeroRefused)
        ∧ ((if s.lock.released = true ∨ s.ledger.quiet < 4000 then Rc.zeroRefused else if s.ledger.zeroing.isSome
            then Rc.busy else Rc.ok) = Rc.ok → t.ledger.zeroing = some (4000, 0) ∧ t.bytes 0x2D12 2 = codeBytes Rc.pending)
        ∧ ((if s.lock.released = true ∨ s.ledger.quiet < 4000 then Rc.zeroRefused else if s.ledger.zeroing.isSome
            then Rc.busy else Rc.ok) ≠ Rc.ok → t.ledger.zeroing = s.ledger.zeroing))
  ∧
  (∀ (s : State) (sum : Int),
      s.ledger.zeroing = some (0, sum) →
      Completes (.zeroOffsetEnd) s fun t =>
        t.ledger.zeroing = none
        ∧ t.bytes 0x2D12 3 = intBytes (defaultAt (entryKey 0x2D12 3)).length (s.offsetOf sum)
        ∧ t.bytes 0x2D12 2 = codeBytes Rc.ok)

/-- A credit token is answered with the first failing check of R393, or takes effect by its kind and raises the stored serial (R391,
R392, R393, R394, R399). -/
def Obligations.CreditTokensTakeEffectOnce : Prop :=
  (∀ (s : State) (via : Via) (value : Bytes),
      Reached s via 0x2D40 1 value →
      byteAt value 1 = 1 →
      Completes (.tokenTopup via value) s fun t =>
        Answered t via 0x2D40 ((s.tokenRefused value).getD Rc.ok)
        ∧ t.bytes 0x2D40 2 = codeBytes ((s.tokenRefused value).getD Rc.ok)
        ∧ (s.tokenRefused value ≠ none → t.ledger.credit = s.ledger.credit ∧ t.ledger.serial = s.ledger.serial
            ∧ t.ledger.ackSeq = s.ledger.ackSeq)
        ∧ (s.tokenRefused value = none → t.ledger.serial = field value 20 8
            ∧ (s.mode = .quarantine → t.ledger.held = s.ledger.held + tokenAmount value ∧ t.ledger.credit = s.ledger.credit)
            ∧ (s.mode ≠ .quarantine → t.ledger.credit = s.ledger.credit + tokenAmount value)))
  ∧
  (∀ (s : State) (via : Via) (value : Bytes),
      Reached s via 0x2D40 1 value →
      byteAt value 1 = 2 →
      Completes (.tokenTerms via value) s fun t =>
        Answered t via 0x2D40 ((s.tokenRefused value).getD Rc.ok)
        ∧ t.bytes 0x2D40 2 = codeBytes ((s.tokenRefused value).getD Rc.ok)
        ∧ (s.tokenRefused value ≠ none → t.ledger.credit = s.ledger.credit ∧ t.ledger.serial = s.ledger.serial
            ∧ t.ledger.ackSeq = s.ledger.ackSeq)
        ∧ (s.tokenRefused value = none → t.ledger.serial = field value 20 8 ∧ t.ledger.graceEnergy = field value 44 4
            ∧ t.ledger.graceTime = field value 48 4 ∧ t.ledger.credit = s.ledger.credit))
  ∧
  (∀ (s : State) (via : Via) (value : Bytes),
      Reached s via 0x2D40 1 value →
      byteAt value 1 = 3 →
      Completes (.tokenAdjust via value) s fun t =>
        Answered t via 0x2D40 ((s.tokenRefused value).getD Rc.ok)
        ∧ t.bytes 0x2D40 2 = codeBytes ((s.tokenRefused value).getD Rc.ok)
        ∧ (s.tokenRefused value ≠ none → t.ledger.credit = s.ledger.credit ∧ t.ledger.serial = s.ledger.serial
            ∧ t.ledger.ackSeq = s.ledger.ackSeq)
        ∧ (s.tokenRefused value = none → t.ledger.serial = field value 20 8
            ∧ (s.mode = .quarantine → t.ledger.held = s.ledger.held + tokenAmount value ∧ t.ledger.credit = s.ledger.credit)
            ∧ (s.mode ≠ .quarantine → t.ledger.credit = s.ledger.credit + tokenAmount value)))
  ∧
  (∀ (s : State) (via : Via) (value : Bytes),
      Reached s via 0x2D40 1 value →
      byteAt value 1 = 4 →
      Completes (.tokenJournalAck via value) s fun t =>
        Answered t via 0x2D40 ((s.tokenRefused value).getD Rc.ok)
        ∧ t.bytes 0x2D40 2 = codeBytes ((s.tokenRefused value).getD Rc.ok)
        ∧ (s.tokenRefused value ≠ none → t.ledger.credit = s.ledger.credit ∧ t.ledger.serial = s.ledger.serial
            ∧ t.ledger.ackSeq = s.ledger.ackSeq)
        ∧ (s.tokenRefused value = none → t.ledger.serial = field value 20 8 ∧ t.ledger.ackSeq = (tokenAmount value).toNat
            ∧ t.ledger.credit = s.ledger.credit))

/-- A receipt's occasion asks for a RECEIPT session or joins one; its end appends three records; a journal import is checked, held and
finished (R397, R399, R400). -/
def Obligations.ReceiptsAndImportsAreWritten : Prop :=
  (∀ (s : State) (via : Via) (value : Bytes),
      Reached s via 0x2D51 0 value →
      receiptAllowed s.mode .hostRequest = true →
      (s.tilth.waiting.any fun r => r.kind == .receipt && r.arrival == s.now) = false →
      (s.ofKind .receipt).length < 8 →
      s.tilth.waiting.length < 16 →
      Completes (.receiptRequest via value) s fun t =>
        Answered t via 0x2D51 Rc.ok
        ∧ t.tilth.waiting = s.tilth.waiting ++ [{ kind := .receipt, arrival := s.now, parent := none, work := .receipt 32 false }])
  ∧
  (∀ (s : State) (via : Via) (value : Bytes) (n : Nat),
      Reached s via 0x2D51 0 value →
      receiptAllowed s.mode .hostRequest = true →
      (s.tilth.waiting.any fun r => r.kind == .receipt && r.arrival == s.now) = false →
      8 ≤ (s.ofKind .receipt).length →
      s.newestReceipt = some n →
      (s.slot n).inFlight = true →
      Completes (.receiptRequest via value) s fun t =>
        Answered t via 0x2D51 Rc.ok
        ∧ (t.slot n).work = (s.slot n).work.addReason .hostRequest)
  ∧
  (∀ (s : State),
      s.running = true →
      s.seenNum 0x2D50 1 * ticksPerSecond ≤ s.sinceTick s.ledger.receiptFrom →
      s.journalNow < 2 →
      receiptAllowed s.mode .periodic = true →
      (s.tilth.waiting.any fun r => r.kind == .receipt && r.arrival == s.now) = false →
      (s.ofKind .receipt).length < 8 →
      s.tilth.waiting.length < 16 →
      Completes (.periodicReceipt) s fun t =>
        t.ledger.receiptFrom = s.tick
        ∧ t.tilth.waiting = s.tilth.waiting ++ [{ kind := .receipt, arrival := s.now, parent := none, work := .receipt 1 false }])
  ∧
  (∀ (s : State),
      s.running = true →
      s.seenNum 0x2D50 1 * ticksPerSecond ≤ s.sinceTick s.ledger.receiptFrom →
      2 ≤ s.journalNow →
      Completes (.periodicReceipt) s fun t =>
        t.ledger = { s.ledger with receiptFrom := s.tick }
        ∧ t.tilth = s.tilth)
  ∧
  (∀ (s : State) (n reason : Nat),
      s.receiptSlot = some (n, reason) →
      s.sig.failed = false →
      s.identityBad = false →
      s.sig.identity = true →
      s.mode ≠ .retired →
      (s.cipher.opens.filter fun o => (s.family n).contains o.slot) = [] →
      Completes (.receiptWrite) s fun t =>
        Ended t n Rc.ok
        ∧ (t.ledger.nextSeq = (if s.ledger.free < 4 then s.ledger.nextSeq else s.ledger.nextSeq + 3))
        ∧ t.ledger.freeRunSeen = false)
  ∧
  (∀ (s : State) (n reason : Nat),
      s.receiptSlot = some (n, reason) →
      s.sig.failed = true →
      (s.cipher.opens.filter fun o => (s.family n).contains o.slot) = [] →
      Completes (.receiptWrite) s fun t =>
        Ended t n Rc.sheFailed
        ∧ t.ledger = s.ledger)
  ∧
  (∀ (s : State) (via : Via) (length : Nat) (header : Bytes) (n : Nat),
      s.portServes via.port = true →
      header.length = 32 →
      112 ≤ length →
      length ≤ 2097200 →
      s.sig.recovery = false →
      s.carries via.srv = [] →
      (s.server via.srv).slot = none →
      s.tilth.waiting.length < 16 →
      (s.ofKind .dictionary).length < 2 →
      s.tilth.gateAdmits .dictionary = true →
      2 ≤ s.tilth.available .dictionary →
      s.freeSlot .dictionary = some n →
      n ≤ s.tilth.slots.length →
      Completes (.journalImport via length header) s fun t =>
        (∀ c, s.importRefused length header = some c → Answered t via 0x2D60 c ∧ t.bytes 0x2D60 2 = codeBytes c ∧ t.ledger = s.ledger)
        ∧ (s.importRefused length header = none → t.ledger.importing =
            some { iseq := field header 8 4, count := field header 12 4, source := slice header 16 16, srv := via.srv, begun := false } ∧ t.bytes 0x2D60 2 = codeBytes Rc.pending ∧ (t.server via.srv).slot = some n ∧ t.tilth.waiting = s.tilth.waiting ++ [{ kind := .cipher, arrival := s.now, parent := none, work := .cipher .journal }]))
  ∧
  (∀ (s : State) (cipher tag : Bytes) (n : Nat) (i : Import) (o : GcmOpen),
      s.jobSlot .journal = some n →
      (s.slot n).state = .waitingEngine →
      (s.slot n).parent = none →
      cipher.length = 64 * i.count →
      tag.length = 16 →
      s.openOf n = some o →
      o.provisional = some .journal →
      (s.cipher.opens.filter fun x => (s.family n).contains x.slot) = [o] →
      s.ledger.importing = some i →
      i.begun = true →
      s.mode ≠ .retired →
      i.count + 4 ≤ s.ledger.free →
      Completes (.journalImportEnd cipher tag) s fun t =>
        t.ledger.importing = none
        ∧ t.ledger.nextSeq = s.ledger.nextSeq + i.count + 1
        ∧ (s.jobTagHolds .journal cipher tag = true → Ended t n Rc.ok ∧ t.ledger.importSeq = i.iseq
            ∧ t.bytes 0x2D60 2 = codeBytes Rc.ok)
        ∧ (s.jobTagHolds .journal cipher tag = false → Ended t n Rc.authFail ∧ t.ledger.importSeq = s.ledger.importSeq
            ∧ t.bytes 0x2D60 2 = codeBytes Rc.authFail))

/-- A domain request is kept for evaluation two ticks on, a group is checked and kept; a transition reaches its target or leaves the
domain FAULT (R405, R406, R407, R409, R167). -/
def Obligations.DomainsMoveAsRequested : Prop :=
  (∀ (s : State) (via : Via) (sub : Nat) (value : Bytes) (d : Domain),
      Reached s via 0x2E01 sub value →
      Shape s →
      domainOf (sub - 1) = some d →
      d ≠ .aon →
      s.inGroup d = false →
      Completes (.domainRequest via sub value) s fun t =>
        Answered t via 0x2E01 Rc.ok
        ∧ t.cell d = (s.cell d).ask (leNat value) s.now)
  ∧
  (∀ (s : State) (via : Via) (value : Bytes),
      Reached s via 0x2E01 1 value →
      Completes (.domainRequest via 1 value) s fun t =>
        Answered t via 0x2E01 Rc.alwaysOn
        ∧ t.domain .aon = s.domain .aon)
  ∧
  (∀ (s : State) (via : Via) (value : Bytes),
      Reached s via 0x2E02 1 value →
      s.power.group ≠ none →
      Completes (.groupRequest via value) s fun t =>
        Answered t via 0x2E02 Rc.busy
        ∧ t.power = s.power)
  ∧
  (∀ (s : State) (via : Via) (value : Bytes),
      Reached s via 0x2E02 1 value →
      s.power.group = none →
      leNat value % 4 < 2 →
      Completes (.groupRequest via value) s fun t =>
        Answered t via 0x2E02 Rc.alwaysOn
        ∧ t.power = s.power
        ∧ t.bytes 0x2E02 2 = codeBytes Rc.alwaysOn)
  ∧
  (∀ (s : State) (via : Via) (value : Bytes) (d : Domain),
      Reached s via 0x2E02 1 value →
      s.power.group = none →
      2 ≤ leNat value % 4 →
      s.groupConflict (leNat value) = some d →
      Completes (.groupRequest via value) s fun t =>
        Answered t via 0x2E02 Rc.domainRefused
        ∧ t.power.group = none
        ∧ t.bytes 0x2E02 2 = codeBytes Rc.domainRefused
        ∧ t.bytes 0x2E02 3 = leBytes 1 (domainIndex d))
  ∧
  (∀ (s : State) (via : Via) (value : Bytes),
      Reached s via 0x2E02 1 value →
      s.power.group = none →
      2 ≤ leNat value % 4 →
      s.groupConflict (leNat value) = none →
      Completes (.groupRequest via value) s fun t =>
        Answered t via 0x2E02 Rc.ok
        ∧ t.power.group.map (·.from_) = some (s.now + 2)
        ∧ t.bytes 0x2E02 2 = codeBytes Rc.pending)
  ∧
  (∀ (s : State) (found : PowerUp) (dom : Domain),
      dom = found.dom →
      (s.cell dom).moving = true →
      s.now ≤ (s.cell dom).began + moveBound dom (s.cell dom) →
      s.running = true ∨ dom = .core →
      Completes (.domainTransitionEnd found) s fun t =>
        t.domain dom = levelState (s.cell dom).target
        ∧ (dom = .rfx → (s.cell dom).state = .rising → (s.cell dom).target = 2 → (s.cell dom).prior ≠ .retention →
            t.radio.chainOk = found.chainsHold))
  ∧
  (∀ (s : State) (dom : Domain),
      s.running = true →
      (s.cell dom).moving = true →
      (s.cell dom).began + moveBound dom (s.cell dom) ≤ s.now →
      Completes (.domainFaulted dom) s fun t =>
        t.domain dom = .fault
        ∧ (t.cell dom).result = Rc.domainFault
        ∧ Logged s t Ev.domainFaulted 0 (leBytes 1 (domainIndex dom)))

/-- An armed, enabled source that finds something asleep is recorded and counted, raises CORE and the CAN domains it names; masks come
and go (R337, R414, R415, R416, R418). -/
def Obligations.WakeSourcesFireAndMask : Prop :=
  (∀ (s : State) (source subject : Nat),
      Shape s →
      s.canAssert source subject = true →
      s.wakeFires source = true →
      bit (s.seenNum 0x2E20 0) source = true →
      (s.wakeSource source).mask = .armed →
      Completes (.wake source subject) s fun t =>
        t.bytes 0x2E10 1 = leBytes 1 source
        ∧ t.bytes 0x2E11 source = (s.bump 0x2E11 source).bytes 0x2E11 source
        ∧ Logged s.sleepOn t Ev.wake source (leBytes 1 source ++ leBytes 1 subject)
        ∧ (s.domain .core = .retention → t.domain .core = .rising)
        ∧ (s.domain .core = .off → s.platform.boot = .coreOff → t.platform.boot = .resetting .wake 0)
        ∧ (∀ d ∈ s.wakes source, s.isOn d = false → s.domain d ≠ .rising → (t.cell d).pending = some 2))
  ∧
  (∀ (s : State) (source subject : Nat),
      (s.wakeSource source).mask ≠ .armed →
      Completes (.wake source subject) s fun t =>
        Only [.power, .free] s t
        ∧ (∀ d, t.cell d = s.cell d))
  ∧
  (∀ (s : State) (pt : Port) (pattern : WakePattern) (n subject : Nat),
      Shape s →
      s.domain (canDomain pt) = .retention ∨ s.domain (canDomain pt) = .off →
      s.patternWake pt pattern = some (n, subject) →
      s.wakeFires n = true →
      bit (s.seenNum 0x2E20 0) n = true →
      (s.wakeSource n).mask = .armed →
      Completes (.canWakePattern pt pattern) s fun t =>
        t.bytes 0x2E10 1 = leBytes 1 n
        ∧ t.bytes 0x2E11 n = (s.bump 0x2E11 n).bytes 0x2E11 n
        ∧ Logged s.sleepOn t Ev.wake n (leBytes 1 n ++ leBytes 1 subject)
        ∧ (s.domain .core = .retention → t.domain .core = .rising)
        ∧ (s.domain .core = .off → s.platform.boot = .coreOff → t.platform.boot = .resetting .wake 0)
        ∧ (∀ d ∈ s.wakes n, s.isOn d = false → s.domain d ≠ .rising → (t.cell d).pending = some 2))
  ∧
  (∀ (s : State) (pt : Port) (pattern : WakePattern),
      s.patternWake pt pattern = none →
      Completes (.canWakePattern pt pattern) s fun t =>
        Only [] s t)
  ∧
  (∀ (s : State),
      Shape s →
      s.power.rtcValid = true →
      s.num 0x2E15 0 ≠ 0 →
      s.num 0x2E15 0 ≤ s.rtcSeconds →
      s.power.alarmFired = false →
      s.wakeFires 7 = true →
      bit (s.seenNum 0x2E20 0) 7 = true →
      (s.wakeSource 7).mask = .armed →
      Completes (.rtcAlarm) s fun t =>
        t.bytes 0x2E10 1 = leBytes 1 7
        ∧ t.bytes 0x2E11 7 = (s.bump 0x2E11 7).bytes 0x2E11 7
        ∧ Logged s t Ev.wake 7 (leBytes 1 7 ++ leBytes 1 0)
        ∧ (s.domain .core = .retention → t.domain .core = .rising)
        ∧ (s.domain .core = .off → s.platform.boot = .coreOff → t.platform.boot = .resetting .wake 0)
        ∧ (∀ d ∈ s.wakes 7, s.isOn d = false → s.domain d ≠ .rising → (t.cell d).pending = some 2)
        ∧ t.power.alarmFired = true)
  ∧
  (∀ (s : State),
      Shape s →
      s.alarmSet = true →
      s.isOn .core = false →
      s.wakeFires 7 = true →
      bit (s.seenNum 0x2E20 0) 7 = true →
      (s.wakeSource 7).mask = .armed →
      Completes (.rtcAlarm) s fun t =>
        t.bytes 0x2E10 1 = leBytes 1 7
        ∧ t.bytes 0x2E11 7 = (s.bump 0x2E11 7).bytes 0x2E11 7
        ∧ (s.domain .core = .retention → t.domain .core = .rising)
        ∧ (s.domain .core = .off → s.platform.boot = .coreOff → t.platform.boot = .resetting .wake 0)
        ∧ (∀ d ∈ s.wakes 7, s.isOn d = false → s.domain d ≠ .rising → (t.cell d).pending = some 2)
        ∧ t.power.alarmFired = true
        ∧ t.power.rtc = max s.power.rtc (s.num 0x2E15 0 * ticksPerSecond))
  ∧
  (∀ (s : State) (source : Nat),
      Shape s →
      filtered source = true →
      (s.wakeSource source).mask = .armed →
      Completes (.wakeSourceStuck source) s fun t =>
        t.wakeSource source = { mask := .stuck, maskedAt := s.aonTick, events := [] }
        ∧ Logged s t Ev.wakeSourceStuck source (leBytes 1 source))
  ∧
  (∀ (s : State) (source : Nat),
      Shape s →
      filtered source = true →
      maskEnds (s.wakeSource source).mask (s.sleepOn.aonSince (s.wakeSource source).maskedAt) = true →
      Completes (.wakeSourceRearmed source) s fun t =>
        (t.wakeSource source).mask = .armed
        ∧ Logged s.sleepOn t Ev.wakeSourceRearmed source (leBytes 1 source))

/-- An electrode scan steps each enabled electrode, a re-acquisition is asked for by mask, the RTC is set within its rules, the guard
comes and goes (R417, R418, R421). -/
def Obligations.ScansClockAndTemperatureAct : Prop :=
  (∀ (s : State) (caps : List Nat) (i c : Nat) (e : Electrode),
      i < 4 →
      caps[i]? = some c →
      s.power.electrodes[i]? = some e →
      bit (s.seenNum 0x2E40 3) i = true →
      Completes (.capScan caps) s fun t =>
        t.power.electrodes[i]? = some (e.scan c (s.seenNum 0x2E41 (i + 1)) s.scanRate)
        ∧ t.bytes 0x2E42 (i + 1) = intBytes (defaultAt (entryKey 0x2E42 (i + 1))).length ((c : Int) - (e.baseline : Int)))
  ∧
  (∀ (s : State) (via : Via) (value : Bytes),
      Reached s via 0x2E43 0 value →
      Completes (.baselineReacquire via value) s fun t =>
        Answered t via 0x2E43 Rc.ok
        ∧ (∀ i e, s.power.electrodes[i]? = some e → t.power.electrodes[i]? =
            some (if bit (leNat value) i then { e with reacquire := 8 } else e)))
  ∧
  (∀ (s : State) (via : Via) (value : Bytes),
      Reached s via 0x2E14 2 value →
      ¬ (s.power.rtcValid = true ∧ leNat value + 300 < s.rtcSeconds) →
      Completes (.rtcSet via value) s fun t =>
        Answered t via 0x2E14 Rc.ok
        ∧ t.power.rtc = leNat value * ticksPerSecond
        ∧ t.power.rtcValid = true
        ∧ (∃ n flags, (n, t.eventEntry Ev.rtcSet 0 flags (leBytes 4 s.rtcSeconds ++ leBytes 4 (leNat value))) ∈ t.logs.events))
  ∧
  (∀ (s : State) (via : Via) (value : Bytes),
      Reached s via 0x2E14 2 value →
      s.power.rtcValid = true ∧ leNat value + 300 < s.rtcSeconds →
      Completes (.rtcSet via value) s fun t =>
        Answered t via 0x2E14 Rc.rtcBackward
        ∧ t.power = s.power)
  ∧
  (∀ (s : State) (via : Via) (value : Bytes),
      Reached s via 0x2E14 4 value →
      s.signer = some .owner →
      Completes (.rtcSetSealed via value) s fun t =>
        Answered t via 0x2E14 Rc.ok
        ∧ t.power.rtc = leNat value * ticksPerSecond
        ∧ t.power.rtcValid = true
        ∧ (∃ n flags, (n, t.eventEntry Ev.rtcSet 0 flags (leBytes 4 s.rtcSeconds ++ leBytes 4 (leNat value))) ∈ t.logs.events))
  ∧
  (∀ (s : State) (via : Via) (value : Bytes),
      Reached s via 0x2E14 4 value →
      s.signer ≠ some .owner →
      Completes (.rtcSetSealed via value) s fun t =>
        Answered t via 0x2E14 Rc.envelopeSigner
        ∧ t.power = s.power)
  ∧
  (∀ (s : State) (temp : Int),
      (s.seenNum 0x2E50 3 : Int) * 10 ≤ temp →
      s.power.guard = false →
      Completes (.thermalGuard temp) s fun t =>
        t.power.guard = true
        ∧ t.power.die = temp
        ∧ Logged s t Ev.thermalGuard 0 (intBytes 2 temp))
  ∧
  (∀ (s : State) (temp : Int),
      temp < (s.seenNum 0x2E50 3 : Int) * 10 ∨ s.power.guard = true →
      Completes (.thermalGuard temp) s fun t =>
        t.power = { s.power with die := temp }
        ∧ t.logs = s.logs)
  ∧
  (∀ (s : State) (temp : Int),
      Completes (.thermalGuardLeft temp) s fun t =>
        t.power = { s.power with die := temp, guard := s.power.guard && !decide (temp ≤ (s.seenNum 0x2E50 3 : Int) * 10 - 50) })

/-- A start-up that passes its self-test runs with the tick past the high-water mark; resets withhold the lock and await their kind of
start-up (R20, R34, R174, R176, R424, R425, R430, R435). -/
def Obligations.StartUpsResetsAndRetriesRun : Prop :=
  (∀ (s : State) (i : StartIn) (kind : StartKind) (f : Nat),
      Shape s →
      s.platform.boot = .resetting kind f →
      i.selfTestOk = true →
      Completes (.startup i) s fun t =>
        t.platform.boot = .running
        ∧ t.isOn .core = true
        ∧ (t.tilth.tick = ((if (s.tilth.highWaterCopy + (tickModulus - s.tilth.highWater)) % tickModulus < tickModulus / 2
            then s.tilth.highWaterCopy else s.tilth.highWater) % tickModulus))
        ∧ (t.tilth.highWater = (((if (s.tilth.highWaterCopy + (tickModulus - s.tilth.highWater)) % tickModulus < tickModulus / 2
            then s.tilth.highWaterCopy else s.tilth.highWater) % tickModulus) + 8192) % tickModulus)
        ∧ t.tilth.highWaterCopy = t.tilth.highWater
        ∧ t.platform.starts = counterAfter 0x2F0003 4 s.platform.starts 1
        ∧ t.bytes 0x2F00 1 = leBytes 1 (startCode kind)
        ∧ t.life.pending = none
        ∧ t.life.mode ≠ .service
        ∧ t.lock = s.lock)
  ∧
  (∀ (s : State) (i : StartIn) (kind : StartKind) (f : Nat),
      s.platform.boot = .resetting kind f →
      i.selfTestOk = false →
      Completes (.startup i) s fun t =>
        (t.platform.boot = (if 2 ≤ f then .halted else .retry kind (f + 1)))
        ∧ t.platform.aonRecords.length = s.platform.aonRecords.length + 1
        ∧ (t.tilth.tick = ((if (s.tilth.highWaterCopy + (tickModulus - s.tilth.highWater)) % tickModulus < tickModulus / 2
            then s.tilth.highWaterCopy else s.tilth.highWater) % tickModulus)))
  ∧
  (∀ (s : State) (kind : StartKind) (f : Nat),
      s.platform.boot = .retry kind f →
      Completes (.bootRetry) s fun t =>
        t.platform = { s.platform with boot := .resetting kind f }
        ∧ Only [.platform] s t)
  ∧
  (∀ (s : State) (rail : Rail) (aonLost : Bool),
      Completes (.supplyReset rail aonLost) s fun t =>
        (t.platform.boot = .resetting (if aonLost = true ∧ rail ≠ .vio then .cold else .supply) 0)
        ∧ t.lock = s.lock.reset s.tick)
  ∧
  (∀ (s : State) (lowNs : Nat),
      2000 ≤ lowNs →
      Completes (.resetPin lowNs) s fun t =>
        t.platform.boot = .resetting .pin 0
        ∧ t.lock = s.lock.reset s.tick)
  ∧
  (∀ (s : State) (lowNs : Nat),
      lowNs < 2000 →
      Completes (.resetPin lowNs) s fun t =>
        Only [] s t)
  ∧
  (∀ (s : State) (mv : Nat),
      s.running = true →
      (5800 ≤ mv ∧ mv ≤ 7000) ∨ 36000 < mv →
      Completes (.supplyWarning mv) s fun t =>
        Logged s t Ev.supplyWarning 0 (leBytes 2 mv)
        ∧ Only [.logs, .ledger] s t)
  ∧
  (∀ (s : State),
      s.running = true →
      Completes (.tickWatchdog) s fun t =>
        t.platform.boot = .resetting .watchdog 0
        ∧ t.lock = s.lock.reset s.tick
        ∧ t.platform.aonRecords.length = s.platform.aonRecords.length + 1
        ∧ t.bytes 0x2F02 4 = (s.bump 0x2F02 4).bytes 0x2F02 4)

/-- A detected fault acts by its class; a tamper trip and the owner's request set their cause; the latch is released only on its checks
(R431, R432, R435, R436, R437, R438, R439, R440). -/
def Obligations.FaultsAndHardpanActByClass : Prop :=
  (∀ (s : State) (detector : Detector) (slot engine : Nat) (detail : Bytes),
      s.running = true →
      (detectorClasses detector).contains .a = true →
      Completes (.faultDetected detector .a slot engine detail) s fun t =>
        t.bytes 0x2F02 1 = (s.bump 0x2F02 1).bytes 0x2F02 1
        ∧ Within [.dict, .free] [0x2F02, 0x5F11] s t)
  ∧
  (∀ (s : State) (slot engine : Nat) (detail : Bytes),
      s.running = true →
      s.platform.attempts < 2 →
      Completes (.faultDetected .lockstep .b slot engine detail) s fun t =>
        t.tilth.tick = s.tickIn 1
        ∧ t.tilth.executed = s.tilth.executed
        ∧ t.bytes 0x2F02 2 = (s.bump 0x2F02 2).bytes 0x2F02 2)
  ∧
  (∀ (s : State) (slot engine : Nat) (detail : Bytes),
      s.running = true →
      (s.slot slot).inFlight = true →
      (s.cipher.opens.filter fun o => (s.family slot).contains o.slot) = [] →
      Completes (.faultDetected .mram .c slot engine detail) s fun t =>
        Ended t slot Rc.hwFault)
  ∧
  (∀ (s : State) (slot engine : Nat) (detail : Bytes),
      s.running = true →
      Completes (.faultDetected .watchdog .e slot engine detail) s fun t =>
        t.platform.boot = .resetting .watchdog 0
        ∧ t.lock = s.lock.reset s.tick
        ∧ t.platform.aonRecords.length = s.platform.aonRecords.length + 1)
  ∧
  (∀ (s : State) (slot engine : Nat) (detail : Bytes),
      s.running = true →
      Completes (.faultDetected .supply .e slot engine detail) s fun t =>
        t.platform.boot = .resetting .supply 0
        ∧ t.lock = s.lock.reset s.tick
        ∧ t.platform.aonRecords.length = s.platform.aonRecords.length + 1)
  ∧
  (∀ (s : State) (detector : Detector) (cls : FaultClass) (slot engine : Nat) (detail : Bytes),
      (detectorClasses detector).contains cls = false →
      Completes (.faultDetected detector cls slot engine detail) s fun t =>
        Only [] s t)
  ∧
  (∀ (s : State),
      s.running = true →
      s.detectorOn 0 = true →
      Completes (.tamper .shield) s fun t =>
        t.hardpan.shield = true
        ∧ t.hardpan.causes = s.hardpan.causes ||| 2 ^ Cause.shield.bit
        ∧ (s.mode ≠ .factory → s.mode ≠ .retired → t.hardpan.set = true))
  ∧
  (∀ (s : State),
      s.running = true →
      s.detectorOn 2 = true →
      Completes (.tamper .temperature) s fun t =>
        t.hardpan.temperature = true
        ∧ t.hardpan.causes = s.hardpan.causes ||| 2 ^ Cause.temperature.bit
        ∧ (s.mode ≠ .factory → s.mode ≠ .retired → t.hardpan.set = true))
  ∧
  (∀ (s : State),
      s.running = true →
      s.platform.fallbackClock = false →
      Completes (.tamper .clock) s fun t =>
        t.platform.fallbackClock = true
        ∧ t.hardpan.clock = true
        ∧ t.hardpan.causes = s.hardpan.causes ||| 2 ^ Cause.clock.bit)
  ∧
  (∀ (s : State),
      s.platform.fallbackClock = true →
      Completes (.clockRestored) s fun t =>
        t.platform.fallbackClock = false
        ∧ t.hardpan.clock = false
        ∧ Logged s t Ev.clockFallback 0 [])
  ∧
  (∀ (s : State) (via : Via) (value : Bytes),
      Reached s via 0x2F12 1 value →
      s.signer = some s.exitSigner →
      Completes (.hardpanRelease via value) s fun t =>
        Answered t via 0x2F12 ((({ s with hardpan := { s.hardpan with shield := s.meshFault } }).releaseFails (leNat value)).getD Rc.ok)
        ∧ ((({ s with hardpan := { s.hardpan with shield := s.meshFault } }).releaseFails (leNat value)) = none →
            t.hardpan.causes = 0 ∧ t.hardpan.set = false)
        ∧ ((({ s with hardpan := { s.hardpan with shield := s.meshFault } }).releaseFails (leNat value)) ≠ none →
            t.hardpan.causes = s.hardpan.causes ∧ t.hardpan.set = s.hardpan.set)
        ∧ t.life = s.life
        ∧ t.bytes 0x2F12 2 = codeBytes ((({ s with hardpan := { s.hardpan with shield := s.meshFault } }).releaseFails (leNat
            value)).getD Rc.ok))
  ∧
  (∀ (s : State) (via : Via) (value : Bytes),
      Reached s via 0x2F12 1 value →
      s.signer ≠ some s.exitSigner →
      Completes (.hardpanRelease via value) s fun t =>
        Answered t via 0x2F12 Rc.envelopeSigner
        ∧ t.hardpan = s.hardpan)
  ∧
  (∀ (s : State) (via : Via) (value : Bytes),
      Reached s via 0x2F11 0 value →
      s.signer = some .owner →
      Completes (.hardpanRequest via value) s fun t =>
        Answered t via 0x2F11 Rc.ok
        ∧ t.hardpan.causes = s.hardpan.causes ||| 2 ^ Cause.ownerRequest.bit
        ∧ (s.mode ≠ .factory → s.mode ≠ .retired → t.hardpan.set = true)
        ∧ (s.mode = .depot → s.hardpan.set = false → s.life.pending = none → t.life.mode = .quarantine))
  ∧
  (∀ (s : State) (via : Via) (value : Bytes),
      Reached s via 0x2F11 0 value →
      s.signer ≠ some .owner →
      Completes (.hardpanRequest via value) s fun t =>
        Answered t via 0x2F11 Rc.envelopeSigner
        ∧ t.hardpan = s.hardpan
        ∧ t.life = s.life)

/-- A plain write stores its value and its result and no more; a refused one stores nothing; selectors show what they select; blocks and
captures are read (R356, R441, R449, R450, R451, R455, R456, R458, R460, R461). -/
def Obligations.DictionaryWritesAndSelectorsAct : Prop :=
  (∀ (s : State) (via : Via) (idx sub : Nat) (value : Bytes),
      (∀ u, ownRule via idx sub value u = storeValue idx sub value u) →
      Reached s via idx sub value →
      isSealed idx sub = false →
      needsSession (entryRow? idx sub) = false →
      entryKey idx sub ≠ 0x200101 →
      entryKey idx sub ≠ 0x2D4001 →
      Completes (.dictionaryWrite via idx sub value) s fun t =>
        Answered t via idx Rc.ok
        ∧ t.bytes idx sub = value
        ∧ (∀ k, k ≠ entryKey idx sub → k ≠ entryKey 0x2B30 (srvSub via.srv) → lookup k t.dict = lookup k s.dict)
        ∧ Only [.dict, .net] s t)
  ∧
  (∀ (s : State) (via : Via) (idx sub : Nat) (value : Bytes) (c : Code),
      s.portServes via.port = true →
      s.carries via.srv = [] →
      (s.server via.srv).slot = none →
      s.writeRefused idx sub value = some c →
      (needsSession (entryRow? idx sub) = true → s.sessionRoom via = true) →
      entryKey idx sub ≠ 0x2D4001 →
      (idx = 0x2B01 → s.lock.released = false) →
      Completes (.dictionaryWrite via idx sub value) s fun t =>
        Answered t via idx c
        ∧ (∀ k, k ≠ entryKey 0x2B30 (srvSub via.srv) → lookup k t.dict = lookup k s.dict)
        ∧ Only [.dict, .net, .tilth] s t)
  ∧
  (∀ (s : State) (via : Via) (idx sub : Nat) (value : Bytes) (c : Code),
      s.portServes via.port = true →
      s.carries via.srv = [] →
      (s.server via.srv).slot = none →
      s.writeRefused idx sub value = none →
      isSealed idx sub = true →
      s.sessionRoom via = true →
      s.envelopeResult idx sub value = some c →
      s.streams idx sub value = false →
      entryKey idx sub ≠ 0x200101 →
      entryKey idx sub ≠ 0x2D4001 →
      (idx = 0x2B01 → s.lock.released = false) →
      Completes (.dictionaryWrite via idx sub value) s fun t =>
        Answered t via idx c
        ∧ t.bytes 0x2020 2 = codeBytes c
        ∧ (∀ k, k ≠ entryKey 0x2B30 (srvSub via.srv) → k ≠ 0x202002 → lookup k t.dict = lookup k s.dict)
        ∧ Only [.dict, .net, .tilth] s t)
  ∧
  (∀ (s : State) (via : Via) (value : Bytes),
      Reached s via 0x2F20 3 value →
      Completes (.eventSelect via value) s fun t =>
        Answered t via 0x2F20 Rc.ok
        ∧ t.bytes 0x2F20 3 = value
        ∧ t.entryValue 0x2F20 4 = (lookup (leNat value) s.logs.events).getD (zeros 32)
        ∧ (∀ k, k ≠ entryKey 0x2F20 3 → k ≠ entryKey 0x2B30 (srvSub via.srv) → lookup k t.dict = lookup k s.dict)
        ∧ Only [.dict, .net] s t)
  ∧
  (∀ (s : State) (via : Via) (value : Bytes),
      Reached s via 0x3F00 1 value →
      Completes (.credentialFind via value) s fun t =>
        Answered t via 0x3F00 Rc.ok
        ∧ t.bytes 0x3F00 1 = value
        ∧ t.entryValue 0x3F00 2 = leBytes 2 ((findCredential s.credentials (leNat value)).getD 0xFFFF)
        ∧ (∀ k, k ≠ entryKey 0x3F00 1 → k ≠ entryKey 0x2B30 (srvSub via.srv) → lookup k t.dict = lookup k s.dict)
        ∧ Only [.dict, .net] s t)
  ∧
  (∀ (s : State) (via : Via) (value : Bytes),
      Reached s via 0x3800 1 value →
      Completes (.journalSelect via value) s fun t =>
        Answered t via 0x3800 Rc.ok
        ∧ t.bytes 0x3800 1 = value
        ∧ t.entryValue 0x3800 2 = s.ledger.record (leNat value)
        ∧ (∀ k, k ≠ entryKey 0x3800 1 → k ≠ entryKey 0x2B30 (srvSub via.srv) → lookup k t.dict = lookup k s.dict)
        ∧ Only [.dict, .net] s t)
  ∧
  (∀ (s : State) (via : Via) (idx sub : Nat) (value : Bytes),
      Reached s via idx sub value →
      isCredentialIndex idx = true →
      Completes (.credentialRecordWrite via idx sub value) s fun t =>
        Answered t via idx ((s.recordRefused (storeIndex idx sub) value).getD Rc.ok)
        ∧ (s.recordRefused (storeIndex idx sub) value ≠ none → t.credentials = s.credentials)
        ∧ (s.recordRefused (storeIndex idx sub) value = none →
            t.credential (storeIndex idx sub) = withCheck (keptRecord (s.credential (storeIndex idx sub)) value))
        ∧ (∀ i, i ≠ storeIndex idx sub → t.credential i = s.credential i)
        ∧ t.bytes 0x3F02 0 = codeBytes ((s.recordRefused (storeIndex idx sub) value).getD Rc.ok))
  ∧
  (∀ (s : State) (via : Via),
      s.portServes via.port = true →
      s.carries via.srv = [] →
      (s.server via.srv).slot = none →
      s.sessionRoom via = true →
      Completes (.journalBlockRead via) s fun t =>
        Answered t via 0x3810 Rc.ok
        ∧ t.bytes 0x3810 3 = s.ledger.block (s.seenNum 0x3810 1) (s.seenNum 0x3810 2)
        ∧ t.ledger = s.ledger)
  ∧
  (∀ (s : State) (via : Via) (sub : Nat),
      s.portServes via.port = true →
      s.carries via.srv = [] →
      (s.server via.srv).slot = none →
      s.sessionRoom via = true →
      sub = 1 ∨ sub = 2 →
      s.mode = .factory →
      Completes (.gritRawCapture via sub) s fun t =>
        Answered t via 0x5F00 Rc.ok
        ∧ t.bytes 0x5F00 sub = s.fresh 8192
        ∧ t.free = s.free + 8192)
  ∧
  (∀ (s : State) (via : Via) (sub : Nat),
      s.portServes via.port = true →
      s.carries via.srv = [] →
      (s.server via.srv).slot = none →
      s.sessionRoom via = true →
      sub = 1 ∨ sub = 2 →
      s.mode ≠ .factory →
      Completes (.gritRawCapture via sub) s fun t =>
        Answered t via 0x5F00 Rc.modeForbids
        ∧ t.free = s.free)

/-- A step runs the command at the front of the queue on the state with the rest of it; an empty queue idles (the model's choice, log
entry 12) (R355, R35). -/
def Obligations.StepRunsTheCommandAtTheFront : Prop :=
  (∀ (c : Instr) (rest : List Instr) (s : State), s.pending = c :: rest → step s = exec c { s with pending := rest })
  ∧ (∀ s : State, s.pending = [] → step s = .next s)

/-- Every command answers a next state from every state, and leaves the queue as it found it (log entry 1) (R2, R355). -/
def Obligations.CommandsCompleteAndKeepTheQueue : Prop :=
  ∀ (c : Instr) (s : State), ∃ t, exec c s = .next t ∧ t.pending = s.pending

/-- Right after reset: mode BLANK, the lock withheld, no session, high-water 8,192, every entry at its default, the arrays at their
sizes (R10, R34, R41, R86, R96, R173, R240, R404, R451). -/
def Obligations.ResetLeavesTheDeliveredMachine : Prop :=
  State.reset.life.mode = .blank ∧ State.reset.lock.released = false ∧ State.reset.latch.on = false
  ∧ (∀ n, (State.reset.slot n).state = .free) ∧ State.reset.tilth.waiting = [] ∧ State.reset.tilth.highWater = 8192
  ∧ State.reset.tilth.highWaterCopy = 8192  ∧ (∀ c ∈ State.reset.lf.channels, c.state = .uncalibrated ∧ c.ceiling = 15)
  ∧ (∀ d, State.reset.isOn d = (d == .aon)) ∧ (∀ idx sub, State.reset.bytes idx sub = defaultAt (entryKey idx sub))
  ∧ State.reset.file 0xE103 = some [0x00, 0x0F, 0x20, 0x00, 0xF6, 0x00, 0xF6, 0x04, 0x06, 0xE1, 0x04, 0x10, 0x00, 0x00, 0xFF]
  ∧ State.reset.running = false ∧ Shape State.reset ∧ Canonical State.reset ∧ LockRecord State.reset.lock

/-- Every step keeps the number of slots, LF channels, calibrations, banks, instances, partner entries, domains, wake sources and
electrodes (R41, R68, R144, R314, R322, R344, R404, R415, R417). -/
def Obligations.ArraysKeepTheirSizes : Prop :=
  ∀ s t : State, Shape s → step s = .next t → Shape t

/-- Every step keeps the dictionary and the credential store in canonical form: keys rise, no default entry, no empty record (R57, R449,
R451, R454, R456). -/
def Obligations.StoresStayCanonical : Prop :=
  ∀ s t : State, Canonical s → step s = .next t → Canonical t

/-- Every reset leaves both outputs withheld with no release in sight, and only a release proposed since then releases them (R176). -/
def Obligations.LockIsNotHeldAcrossAReset : Prop :=
  State.reset.lock.released = false
  ∧ (∀ (s t : State) (c : Instr),
      (∃ rail aonLost, c = .supplyReset rail aonLost) ∨ (∃ lowNs, c = .resetPin lowNs ∧ 2000 ≤ lowNs)
        ∨ (c = .tickWatchdog ∧ s.running = true)
        ∨ (∃ detector slot engine detail, c = .faultDetected detector .e slot engine detail
            ∧ (detectorClasses detector).contains .e = true ∧ s.running = true) →
      exec c s = .next t →
        t.lock.released = false ∧ t.running = false ∧ (∀ n, (t.slot n).state = .free) ∧ t.tilth.waiting = [] ∧ t.tilth.proposals = [])
  ∧ (∀ (s t : State) (c : Instr), exec c s = .next t → s.lock.released = false → t.lock.released = true →
      ∃ i n, c = .frameTick i ∧ s.running = true ∧ s.sig.activating = false
        ∧ Proposal.release n ∈ (s.head.1.body i).tilth.proposals ∧ (∀ m, Proposal.stop m ∉ (s.head.1.body i).tilth.proposals))

/-- The lock goes from released to withheld only by a proposed STOP, the HV interlock or a reset of the main die; other commands leave
it alone (R173, R174, R175, R202, R317). -/
def Obligations.ReleaseIsWithdrawnOnlyByStopHvilOrReset : Prop :=
  (∀ (c : Instr) (s t : State), exec c s = .next t → s.lock.released = true → t.lock.released = false →
      (∃ i n, c = .frameTick i ∧ Proposal.stop n ∈ (s.head.1.body i).tilth.proposals ∧ t.lock.cause = 2)
      ∨ (∃ i, c = .frameTick i ∧ (s.head.1.body i).vehicle.hvilDue = true ∧ t.lock.cause = 3)
      ∨ (c = .hvilWithdrawal ∧ s.vehicle.hvilDue = true ∧ t.lock.cause = 3)
      ∨ (mayChangeLock c = true ∧ (∃ kind, t.platform.boot = .resetting kind 0) ∧ t.lock.cause = 0))
  ∧ (∀ (c : Instr) (s t : State), mayChangeLock c = false → exec c s = .next t → t.lock = s.lock)
  ∧ (∀ (c : Instr) (s t : State), LockRecord s.lock → exec c s = .next t → LockRecord t.lock)

/-- A write of 0x01 to 0x2F11:00 under an owner envelope sets cause OWNER_REQUEST, and with it the latch and QUARANTINE, from any host
(R440). -/
def Obligations.OwnerRequestQuarantinesFromAnyHost : Prop :=
  ∀ (s : State) (via : Via), Reached s via 0x2F11 0 [0x01] → s.signer = some .owner →
    Completes (.hardpanRequest via [0x01]) s fun t =>
      Answered t via 0x2F11 Rc.ok ∧ t.hardpan.causes = s.hardpan.causes ||| 2 ^ 11
      ∧ (s.mode ≠ .factory → s.mode ≠ .retired → t.hardpan.set = true)
      ∧ (s.hardpan.set = false → s.mode ≠ .factory → s.mode ≠ .retired →
          t.life.mode = .quarantine
          ∨ ∃ p, s.life.pending = some p ∧ p.firstCopy = true ∧ t.life.quarantineDue = (p.target != .retired))

/-- 0x2900:01 reads 0 with SEC not on, else 4 FAILED, 1 TESTING, 2 IDLE with the lock free or 3 BUSY with it held (R300). -/
def Obligations.EngineStateReadsAsListed : Prop :=
  ∀ s : State,
    (s.isOn .sec = false → s.entryValue 0x2900 1 = [0])
    ∧ (s.isOn .sec = true → s.cipher.failed = true → s.entryValue 0x2900 1 = [4])
    ∧ (s.isOn .sec = true → s.cipher.failed = false → s.cipher.testing = true → s.entryValue 0x2900 1 = [1])
    ∧ (s.isOn .sec = true → s.cipher.failed = false → s.cipher.testing = false → s.cipher.lock = none → s.entryValue 0x2900 1 = [2])
    ∧ (s.isOn .sec = true → s.cipher.failed = false → s.cipher.testing = false → s.cipher.lock ≠ none → s.entryValue 0x2900 1 = [3])

/-- What the commands of Tilth, the modes, the LF array, the domains, the wake logic, start-up, the faults and the dictionary leave
alone (R34, R38, R41, R61, R94, R404, R417, R431, R436, R451). -/
def Obligations.TickModeLfPowerAndFaultCommandsLeaveTheRest : Prop :=
  (∀ (s : State) (slot : Nat),
      Leaves [.tilth, .lf, .radio, .inv, .kaolin, .cipher, .sig, .rng, .net, .bridge, .ledger, .logs, .dict, .free] [0x2102, 0x2311,
          0x2601, 0x2710, 0x2820, 0x2940, 0x2A20, 0x2A30, 0x2B30, 0x2B32, 0x2C50, 0x2D60] (.stepTimeout slot) s)
  ∧ (∀ (s : State) (slot : Nat),
      Leaves [.tilth, .lf, .radio, .inv, .kaolin, .cipher, .sig, .rng, .net, .bridge, .ledger, .logs, .dict, .free] [0x2102, 0x2311,
          0x2601, 0x2710, 0x2820, 0x2940, 0x2A20, 0x2A30, 0x2B30, 0x2C50, 0x2D60] (.deadlineMissed slot) s)
  ∧ (∀ (s : State) (slot : Nat), Leaves [.tilth, .ledger, .logs, .dict] [0x2102] (.deadlineLate slot) s)
  ∧ (∀ (s : State), Leaves [.tilth] [] .tickHighWaterUpdate s)
  ∧ (∀ (s : State),
      Leaves [.tilth, .lf, .badges, .radio, .inv, .kaolin, .cipher, .sig, .rng, .net, .bridge, .ledger, .power, .logs, .dict,
          .free] [0x2102, 0x2103, 0x2311, 0x2312, 0x2601, 0x2710, 0x2731, 0x2750, 0x2820, 0x2903, 0x2940, 0x2A20, 0x2A30, 0x2B30,
          0x2B32, 0x2C50, 0x2D60] .sessionAdmitted s)
  ∧ (∀ (s : State),
      Leaves [.tilth, .lf, .radio, .kaolin, .cipher, .sig, .rng, .net, .bridge, .ledger, .logs, .dict] [0x2102, 0x2311, 0x2710,
          0x2820, 0x2A30, 0x2B30, 0x2C50, 0x2D60] .admissionTimeout s)
  ∧ (∀ (s : State) (slot : Nat), Leaves [.tilth, .net, .ledger, .logs, .dict] [0x2103, 0x2B32] (.clodGranted slot) s)
  ∧ (∀ (s : State) (slot : Nat),
      Leaves [.tilth, .lf, .radio, .inv, .kaolin, .cipher, .sig, .rng, .net, .bridge, .ledger, .logs, .dict, .free] [0x2311, 0x2601,
          0x2710, 0x2820, 0x2940, 0x2A20, 0x2A30, 0x2B30, 0x2C50, 0x2D60] (.clodWaitTimeout slot) s)
  ∧ (∀ (s : State) (index : Nat),
      Leaves [.tilth, .lf, .radio, .inv, .kaolin, .cipher, .sig, .rng, .net, .bridge, .ledger, .logs, .dict, .free] [0x2311, 0x2601,
          0x2710, 0x2820, 0x2940, 0x2A20, 0x2A30, 0x2B30, 0x2C50, 0x2D60] (.credentialPageInDone index) s)
  ∧ (∀ (s : State) (slot : Nat) (result : Code),
      Leaves [.tilth, .lf, .radio, .vehicle, .inv, .kaolin, .cipher, .sig, .rng, .net, .bridge, .ledger, .logs, .dict, .credentials,
          .free] [0x2311, 0x2601, 0x2611, 0x2710, 0x2820, 0x2903, 0x2940, 0x2A00, 0x2A20, 0x2A30, 0x2B30, 0x2C50,
          0x2D60] (.engineOperationEnd slot result) s)
  ∧ (∀ (s : State) (via : Via) (fn : Nat) (value : Bytes), Fresh s via →
      Leaves [.tilth, .net, .dict] [0x2B30] (.abortRequest via fn value) s)
  ∧ (∀ (s : State) (target : AbortTarget) (idle : Bool),
      Leaves [.tilth, .lf, .radio, .inv, .kaolin, .cipher, .sig, .rng, .net, .bridge, .ledger, .logs, .dict, .free] [0x2112, 0x2221,
          0x2311, 0x2451, 0x2601, 0x2710, 0x2820, 0x2940, 0x2A20, 0x2A30, 0x2B30, 0x2B32, 0x2C20, 0x2C21, 0x2C30, 0x2C31, 0x2C50,
          0x2D60] (.abortCompletion target idle) s)
  ∧ (∀ (s : State) (via : Via) (slot : Nat) (value : Bytes), Fresh s via →
      Leaves [.tilth, .net, .dict] [0x2B30] (.sessionAbort via slot value) s)
  ∧ (∀ (s : State) (via : Via) (value : Bytes), Fresh s via →
      Leaves [.life, .sealing, .tilth, .rng, .net, .dict, .free] [0x2001, 0x2020, 0x2022, 0x2102, 0x2103,
          0x2B30] (.modeRequest via value) s)
  ∧ (∀ (s : State) (via : Via) (value : Bytes), Fresh s via →
      Leaves [.life, .net, .dict] [0x2001, 0x2022, 0x2B30] (.depotRequest via value) s)
  ∧ (∀ (s : State),
      Leaves [.life, .sealing, .tilth, .latch, .inv, .kaolin, .cipher, .sig, .rng, .net, .ledger, .logs, .dict, .credentials,
          .free] [0x2001, 0x2004, 0x2021, 0x2022, 0x2102, 0x2660, 0x2B32, 0x2D41] .modeCommit s)
  ∧ (∀ (s : State),
      Leaves [.life, .sealing, .tilth, .latch, .inv, .kaolin, .cipher, .sig, .rng, .net, .ledger, .logs, .dict, .credentials,
          .free] [0x2004, 0x2021, 0x2022, 0x2102, 0x2660, 0x2B32, 0x2D41] .serviceExit s)
  ∧ (∀ (s : State), Leaves [.life, .ledger, .logs] [] .serviceOverrun s)
  ∧ (∀ (s : State) (via : Via) (value : Bytes), Fresh s via →
      Leaves [.sealing, .tilth, .rng, .net, .dict, .free] [0x2020, 0x2102, 0x2103, 0x2A00, 0x2B30] (.envelopeWrite via value) s)
  ∧ (∀ (s : State) (via : Via) (value : Bytes), Fresh s via →
      Leaves [.sealing, .rng, .net, .dict, .free] [0x2B30] (.envelopeCancel via value) s)
  ∧ (∀ (s : State), Leaves [.sealing, .rng, .free] [] .envelopeExpiry s)
  ∧ (∀ (s : State) (via : Via) (idx sub : Nat) (value : Bytes), Fresh s via →
      Leaves [.sealing, .tilth, .rng, .net, .dict, .free] [idx, 0x2020, 0x2102, 0x2103, 0x2A00,
          0x2B30] (.publicKeyWrite via idx sub value) s)
  ∧ (∀ (s : State) (vlfMv : Nat) (driven : List LfMeasure),
      Leaves [.tilth, .lf, .radio, .inv, .kaolin, .cipher, .sig, .rng, .net, .bridge, .ledger, .logs, .dict, .free] [0x2206, 0x2207,
          0x2240, 0x2242, 0x2311, 0x2601, 0x2710, 0x2820, 0x2940, 0x2A20, 0x2A30, 0x2B30, 0x2C50,
          0x2D60] (.lfOperationEnd vlfMv driven) s)
  ∧ (∀ (s : State) (ch : Nat) (clamp : LfClamp) (driven : List LfMeasure),
      Leaves [.tilth, .lf, .radio, .inv, .kaolin, .cipher, .sig, .rng, .net, .bridge, .ledger, .logs, .dict, .free] [0x2206, 0x2207,
          0x2242, 0x2311, 0x2601, 0x2710, 0x2820, 0x2940, 0x2A20, 0x2A30, 0x2B30, 0x2B32, 0x2C50,
          0x2D60] (.lfDetuned ch clamp driven) s)
  ∧ (∀ (s : State) (trip : LfTrip),
      Leaves [.tilth, .lf, .radio, .inv, .kaolin, .cipher, .sig, .rng, .net, .bridge, .ledger, .logs, .dict, .free] [0x2206, 0x2207,
          0x2221, 0x2241, 0x2242, 0x2311, 0x2601, 0x2710, 0x2820, 0x2940, 0x2A20, 0x2A30, 0x2B30, 0x2B32, 0x2C50,
          0x2D60] (.lfOvercurrent trip) s)
  ∧ (∀ (s : State) (loss : LfSupplyLoss),
      Leaves [.tilth, .lf, .radio, .inv, .kaolin, .cipher, .sig, .rng, .net, .bridge, .ledger, .logs, .dict, .free] [0x2206, 0x2207,
          0x2221, 0x2240, 0x2242, 0x2311, 0x2601, 0x2710, 0x2820, 0x2940, 0x2A20, 0x2A30, 0x2B30, 0x2B32, 0x2C50,
          0x2D60] (.lfSupplyFault loss) s)
  ∧ (∀ (s : State) (via : Via) (value : Bytes), Fresh s via →
      Leaves [.lf, .net, .ledger, .power, .logs, .dict] [0x2221, 0x2B30] (.lfCalibrate via value) s)
  ∧ (∀ (s : State), Leaves [.lf, .ledger, .logs, .dict] [0x2221, 0x2240, 0x2E51] .lfCalibrationStart s)
  ∧ (∀ (s : State) (ch : Nat) (outcome : LfCal) (reading : CalReading),
      Leaves [.tilth, .lf, .radio, .inv, .kaolin, .cipher, .sig, .rng, .net, .bridge, .ledger, .logs, .dict, .free] [0x2205, 0x2206,
          0x2207, 0x2221, 0x2222, 0x2242, 0x2311, 0x2601, 0x2710, 0x2820, 0x2940, 0x2A20, 0x2A30, 0x2B30, 0x2B32, 0x2C50,
          0x2D60] (.lfCalibrationEnd ch outcome reading) s)
  ∧ (∀ (s : State) (via : Via) (sub : Nat) (value : Bytes), Fresh s via →
      Leaves [.lf, .net, .ledger, .logs, .dict] [0x2B30] (.lfFaultClear via sub value) s)
  ∧ (∀ (s : State) (via : Via) (value : Bytes), Fresh s via →
      Leaves [.lf, .net, .dict] [0x2201, 0x2B30] (.lfChannelEnableWrite via value) s)
  ∧ (∀ (s : State) (via : Via) (value : Bytes), Fresh s via →
      Leaves [.sealing, .tilth, .lf, .rng, .net, .dict, .free] [0x2020, 0x2102, 0x2103, 0x2200,
          0x2B30] (.lfNominalFrequencyWrite via value) s)
  ∧ (∀ (s : State) (via : Via) (idx sub : Nat) (value : Bytes) (t : State), exec (.dictionaryWrite via idx sub value) s = .next t →
      Only [.life, .sealing, .tilth, .lf, .radio, .latch, .vehicle, .inv, .kaolin, .cipher, .sig, .rng, .net, .bridge, .ledger,
          .power, .hardpan, .logs, .dict, .credentials, .free] s t)
  ∧ (∀ (s : State) (port : Port) (pattern : WakePattern),
      Leaves [.ledger, .power, .platform, .logs, .dict, .free] [0x2E10, 0x2E11] (.canWakePattern port pattern) s)
  ∧ (∀ (s : State) (via : Via) (sub : Nat) (value : Bytes), Fresh s via →
      Leaves [.net, .power, .dict] [0x2B30, 0x2E01] (.domainRequest via sub value) s)
  ∧ (∀ (s : State) (via : Via) (value : Bytes), Fresh s via → Leaves [.net, .power, .dict] [0x2B30, 0x2E02] (.groupRequest via value) s)
  ∧ (∀ (s : State) (found : PowerUp) (t : State), exec (.domainTransitionEnd found) s = .next t →
      Only [.life, .sealing, .tilth, .lf, .badges, .radio, .latch, .vehicle, .inv, .kaolin, .cipher, .sig, .rng, .net, .bridge,
          .ledger, .power, .platform, .hardpan, .logs, .dict, .credentials, .free] s t)
  ∧ (∀ (s : State) (dom : Domain), Leaves [.net, .ledger, .power, .logs, .dict] [0x2B32] (.domainFaulted dom) s)
  ∧ (∀ (s : State) (source subject : Nat), Leaves [.ledger, .power, .platform, .logs, .dict, .free] [0x2E10,
      0x2E11] (.wake source subject) s)
  ∧ (∀ (s : State) (source : Nat), Leaves [.ledger, .power, .logs] [] (.wakeSourceStuck source) s)
  ∧ (∀ (s : State) (source : Nat), Leaves [.ledger, .power, .logs, .free] [] (.wakeSourceRearmed source) s)
  ∧ (∀ (s : State) (caps : List Nat), Leaves [.power, .dict] [0x2E42] (.capScan caps) s)
  ∧ (∀ (s : State) (via : Via) (value : Bytes), Fresh s via → Leaves [.net, .power, .dict] [0x2B30] (.baselineReacquire via value) s)
  ∧ (∀ (s : State) (via : Via) (value : Bytes), Fresh s via →
      Leaves [.net, .ledger, .power, .logs, .dict] [0x2B30] (.rtcSet via value) s)
  ∧ (∀ (s : State) (via : Via) (value : Bytes), Fresh s via →
      Leaves [.sealing, .tilth, .rng, .net, .ledger, .power, .logs, .dict, .free] [0x2020, 0x2102, 0x2103,
          0x2B30] (.rtcSetSealed via value) s)
  ∧ (∀ (s : State), Leaves [.ledger, .power, .platform, .logs, .dict] [0x2E10, 0x2E11] .rtcAlarm s)
  ∧ (∀ (s : State) (tempDeci : Int), Leaves [.net, .ledger, .power, .hardpan, .logs, .dict] [0x2B32] (.thermalGuard tempDeci) s)
  ∧ (∀ (s : State), Leaves [.platform] [] .bootRetry s)
  ∧ (∀ (s : State) (rail : Rail) (aonLost : Bool) (t : State), exec (.supplyReset rail aonLost) s = .next t →
      Only [.life, .sealing, .tilth, .lf, .badges, .radio, .lock, .latch, .vehicle, .inv, .kaolin, .cipher, .sig, .rng, .net, .bridge,
          .ledger, .power, .platform, .dict] s t)
  ∧ (∀ (s : State) (lowNs : Nat) (t : State), exec (.resetPin lowNs) s = .next t →
      Only [.life, .sealing, .tilth, .lf, .badges, .radio, .lock, .latch, .vehicle, .inv, .kaolin, .cipher, .sig, .rng, .net, .bridge,
          .ledger, .power, .platform, .dict] s t)
  ∧ (∀ (s : State) (vbatMv : Nat), Leaves [.ledger, .logs] [] (.supplyWarning vbatMv) s)
  ∧ (∀ (s : State) (t : State), exec .tickWatchdog s = .next t →
      Only [.life, .sealing, .tilth, .lf, .badges, .radio, .lock, .latch, .vehicle, .inv, .kaolin, .cipher, .sig, .rng, .net, .bridge,
          .ledger, .power, .platform, .dict] s t)
  ∧ (∀ (s : State) (detector : Detector) (cls : FaultClass) (slot engine : Nat) (detail : Bytes) (t : State),
      exec (.faultDetected detector cls slot engine detail) s = .next t →
      Only [.life, .sealing, .tilth, .lf, .badges, .radio, .lock, .latch, .vehicle, .inv, .kaolin, .cipher, .sig, .rng, .net, .bridge,
          .ledger, .power, .platform, .hardpan, .logs, .dict, .credentials, .free] s t)
  ∧ (∀ (s : State) (detector : Tamper),
      Leaves [.life, .sealing, .tilth, .lf, .radio, .latch, .inv, .kaolin, .cipher, .sig, .rng, .net, .bridge, .ledger, .platform,
          .hardpan, .logs, .dict, .credentials, .free] [0x2001, 0x2004, 0x2021, 0x2022, 0x2102, 0x2311, 0x2601, 0x2660, 0x2710,
          0x2820, 0x2940, 0x2A20, 0x2A30, 0x2B30, 0x2B32, 0x2C50, 0x2D41, 0x2D60, 0x2F10] (.tamper detector) s)
  ∧ (∀ (s : State), Leaves [.ledger, .platform, .hardpan, .logs] [] .clockRestored s)
  ∧ (∀ (s : State) (via : Via) (value : Bytes), Fresh s via →
      Leaves [.sealing, .tilth, .rng, .net, .ledger, .hardpan, .logs, .dict, .free] [0x2020, 0x2102, 0x2103, 0x2B30,
          0x2F12] (.hardpanRelease via value) s)
  ∧ (∀ (s : State) (via : Via) (value : Bytes), Fresh s via →
      Leaves [.life, .sealing, .tilth, .latch, .inv, .kaolin, .cipher, .sig, .rng, .net, .ledger, .hardpan, .logs, .dict,
          .credentials, .free] [0x2001, 0x2004, 0x2020, 0x2021, 0x2022, 0x2102, 0x2103, 0x2660, 0x2B30, 0x2B32, 0x2D41,
          0x2F10] (.hardpanRequest via value) s)
  ∧ (∀ (s : State) (via : Via) (value : Bytes), Fresh s via → Leaves [.net, .dict] [0x2B30, 0x2F20] (.eventSelect via value) s)
  ∧ (∀ (s : State) (via : Via) (idx sub : Nat) (value : Bytes), Fresh s via →
      Leaves [.sealing, .tilth, .rng, .net, .ledger, .logs, .dict, .credentials, .free] [0x2020, 0x2102, 0x2103, 0x2B30,
          0x3F02] (.credentialRecordWrite via idx sub value) s)
  ∧ (∀ (s : State) (via : Via) (value : Bytes), Fresh s via → Leaves [.net, .dict] [0x2B30, 0x3F00] (.credentialFind via value) s)
  ∧ (∀ (s : State) (via : Via) (value : Bytes), Fresh s via → Leaves [.net, .dict] [0x2B30, 0x3800] (.journalSelect via value) s)
  ∧ (∀ (s : State) (via : Via), Fresh s via → Leaves [.tilth, .net, .dict] [0x2102, 0x2103, 0x2B30, 0x3810] (.journalBlockRead via) s)
  ∧ (∀ (s : State) (via : Via) (sub : Nat), Fresh s via →
      Leaves [.tilth, .net, .ledger, .power, .logs, .dict, .free] [0x2102, 0x2103, 0x2B30, 0x5F00] (.gritRawCapture via sub) s)
  ∧ (∀ (s : State) (tempDeci : Int), Leaves [.power, .hardpan] [] (.thermalGuardLeft tempDeci) s)

/-- What the commands of badge sessions, the radio, ranging, the vehicle exchange, the lock, the latch and the panel leave alone (R98,
R108, R138, R144, R149, R163, R174, R181, R182, R203). -/
def Obligations.BadgeRadioRangingAndVehicleCommandsLeaveTheRest : Prop :=
  (∀ (s : State) (electrode : Nat), Leaves [.tilth, .ledger, .power, .logs, .dict] [0x2102, 0x2311] (.touchEvent electrode) s)
  ∧ (∀ (s : State) (via : Via) (value : Bytes), Fresh s via →
      Leaves [.tilth, .net, .ledger, .logs, .dict] [0x2102, 0x2311, 0x2B30] (.hostApproachRequest via value) s)
  ∧ (∀ (s : State) (slot : Nat) (answers : List Answer) (noise : RoundNoise),
      Leaves [.tilth, .lf, .badges, .radio, .inv, .kaolin, .cipher, .sig, .rng, .net, .bridge, .ledger, .power, .logs, .dict,
          .free] [0x2102, 0x2311, 0x2440, 0x2460, 0x2601, 0x2710, 0x2820, 0x2903, 0x2940, 0x2A20, 0x2A30, 0x2B30, 0x2C50,
          0x2D60] (.roundEnd slot answers noise) s)
  ∧ (∀ (s : State) (slot : Nat) (rx : Reception) (payload : Bytes),
      Leaves [.tilth, .lf, .radio, .inv, .kaolin, .cipher, .sig, .rng, .net, .bridge, .ledger, .logs, .dict, .free] [0x2104, 0x2311,
          0x2312, 0x2440, 0x2460, 0x2601, 0x2710, 0x2820, 0x2903, 0x2904, 0x2940, 0x2A20, 0x2A30, 0x2B30, 0x2B32, 0x2C50,
          0x2D60] (.badgeResponse slot rx payload) s)
  ∧ (∀ (s : State) (slot : Nat) (rx : Reception) (payload : Bytes),
      Leaves [.tilth, .lf, .radio, .inv, .kaolin, .cipher, .sig, .rng, .net, .bridge, .ledger, .logs, .dict, .free] [0x2104, 0x2311,
          0x2312, 0x2440, 0x2460, 0x2601, 0x2710, 0x2820, 0x2903, 0x2940, 0x2A20, 0x2A30, 0x2B30, 0x2C50,
          0x2D60] (.lresponse slot rx payload) s)
  ∧ (∀ (s : State) (slot : Nat) (report : ReportPacket),
      Leaves [.tilth, .lf, .radio, .inv, .kaolin, .cipher, .sig, .rng, .net, .bridge, .ledger, .logs, .dict, .free] [0x2311, 0x2312,
          0x2440, 0x2460, 0x2601, 0x2710, 0x2820, 0x2904, 0x2940, 0x2A20, 0x2A30, 0x2B30, 0x2C50, 0x2D60] (.vreport slot report) s)
  ∧ (∀ (s : State) (missed : MissedReply),
      Leaves [.tilth, .lf, .radio, .inv, .kaolin, .cipher, .sig, .rng, .net, .bridge, .ledger, .logs, .dict, .free] [0x2311, 0x2460,
          0x2601, 0x2710, 0x2820, 0x2940, 0x2A20, 0x2A30, 0x2B30, 0x2C50, 0x2D60] (.badgeReplyMissing missed) s)
  ∧ (∀ (s : State) (slot : Nat),
      Leaves [.tilth, .lf, .radio, .inv, .kaolin, .cipher, .sig, .rng, .net, .bridge, .ledger, .logs, .dict, .free] [0x2311, 0x2601,
          0x2710, 0x2820, 0x2940, 0x2A20, 0x2A30, 0x2B30, 0x2C50, 0x2D60] (.badgeSessionTimeout slot) s)
  ∧ (∀ (s : State) (slot : Nat),
      Leaves [.tilth, .lf, .radio, .inv, .kaolin, .cipher, .sig, .rng, .net, .bridge, .ledger, .logs, .dict, .free] [0x2311, 0x2601,
          0x2710, 0x2820, 0x2940, 0x2A20, 0x2A30, 0x2B30, 0x2C50, 0x2D60] (.approachTimeout slot) s)
  ∧ (∀ (s : State) (via : Via) (value : Bytes), Fresh s via → Leaves [.radio, .net, .dict] [0x2B30] (.synthCalibrate via value) s)
  ∧ (∀ (s : State) (tempDeci : Int), Leaves [.radio, .ledger, .power, .hardpan, .logs, .dict] [0x2400,
      0x2421] (.rfTemperatureCheck tempDeci) s)
  ∧ (∀ (s : State), Leaves [.radio] [] .synthCalStart s)
  ∧ (∀ (s : State), Leaves [.radio, .ledger, .logs] [] .rfSynthCalOverdue s)
  ∧ (∀ (s : State) (subBands : List (Option (Nat × Nat))) (tempDeci : Int),
      Leaves [.radio, .net, .ledger, .logs, .dict] [0x2404, 0x2421, 0x2B32] (.synthCalEnd subBands tempDeci) s)
  ∧ (∀ (s : State), Leaves [.radio] [] .rfCalRetry s)
  ∧ (∀ (s : State) (slot : Nat),
      Leaves [.tilth, .lf, .radio, .inv, .kaolin, .cipher, .sig, .rng, .net, .bridge, .ledger, .logs, .dict, .free] [0x2311, 0x2460,
          0x2601, 0x2710, 0x2820, 0x2940, 0x2A20, 0x2A30, 0x2B30, 0x2C50, 0x2D60] (.rfTxDeferred slot) s)
  ∧ (∀ (s : State) (slot : Nat),
      Leaves [.tilth, .lf, .radio, .inv, .kaolin, .cipher, .sig, .rng, .net, .bridge, .ledger, .logs, .dict, .free] [0x2311, 0x2460,
          0x2601, 0x2710, 0x2820, 0x2940, 0x2A20, 0x2A30, 0x2B30, 0x2C50, 0x2D60] (.rfLockFail slot) s)
  ∧ (∀ (s : State) (which : BgCal) (passed : Bool) (tempDeci : Int) (found : BgFound),
      Leaves [.radio, .ledger, .logs, .dict] [0x2404, 0x2423] (.backgroundCal which passed tempDeci found) s)
  ∧ (∀ (s : State),
      Leaves [.tilth, .lf, .radio, .inv, .kaolin, .cipher, .sig, .rng, .net, .bridge, .ledger, .logs, .dict, .free] [0x2311, 0x2451,
          0x2460, 0x2601, 0x2710, 0x2820, 0x2940, 0x2A20, 0x2A30, 0x2B30, 0x2C50, 0x2D60] .cxgntWithdrawn s)
  ∧ (∀ (s : State), Leaves [.radio, .net, .ledger, .logs, .dict] [0x2B32] .rfCoexStuck s)
  ∧ (∀ (s : State), Leaves [.radio, .ledger, .logs] [] .rfCoexRearmed s)
  ∧ (∀ (s : State) (via : Via), Fresh s via → Leaves [.radio, .net, .dict] [0x2451, 0x2B30] (.rawStop via) s)
  ∧ (∀ (s : State) (via : Via), Fresh s via → Leaves [.radio, .net, .ledger, .power, .logs, .dict] [0x2451, 0x2B30] (.rawTxCw via) s)
  ∧ (∀ (s : State) (via : Via), Fresh s via → Leaves [.radio, .net, .ledger, .power, .logs, .dict] [0x2451, 0x2B30] (.rawTxPrbs via) s)
  ∧ (∀ (s : State) (via : Via), Fresh s via → Leaves [.radio, .net, .ledger, .power, .logs, .dict] [0x2451,
      0x2B30] (.rawTxPacket via) s)
  ∧ (∀ (s : State) (via : Via), Fresh s via → Leaves [.radio, .net, .ledger, .power, .logs, .dict] [0x2451, 0x2B30] (.rawRx via) s)
  ∧ (∀ (s : State) (via : Via), Fresh s via → Leaves [.radio, .net, .ledger, .power, .logs, .dict] [0x2451, 0x2B30] (.rawScan via) s)
  ∧ (∀ (s : State) (via : Via), Fresh s via → Leaves [.radio, .net, .ledger, .power, .logs, .dict] [0x2451, 0x2B30] (.rawCapture via) s)
  ∧ (∀ (s : State) (outcome : RawEnd), Leaves [.radio, .dict] [0x2440, 0x2441, 0x2451, 0x2452, 0x2460] (.rawCommandEnd outcome) s)
  ∧ (∀ (s : State) (via : Via) (value : Bytes), Fresh s via → Leaves [.net, .dict] [0x2501, 0x2B30] (.toneMaskWrite via value) s)
  ∧ (∀ (s : State) (slot : Nat) (tones : List Tone), Leaves [.tilth, .radio] [] (.sweepEnd slot tones) s)
  ∧ (∀ (s : State) (slot : Nat) (echoes : List (Option ProbeEcho)) (gaps : List Nat),
      Leaves [.tilth, .radio, .dict] [0x2440, 0x2460, 0x2940] (.probeExchangeEnd slot echoes gaps) s)
  ∧ (∀ (s : State) (slot : Nat), Leaves [.tilth, .net, .ledger, .logs, .dict, .free] [0x2312, 0x2500, 0x2530, 0x2940,
      0x2B32] (.fusion slot) s)
  ∧ (∀ (s : State) (port : Port) (carrier : Carrier) (msg : Bytes),
      Leaves [.sealing, .tilth, .lf, .radio, .vehicle, .inv, .kaolin, .cipher, .sig, .rng, .net, .bridge, .ledger, .power, .logs,
          .dict, .free] [0x2020, 0x2102, 0x2103, 0x2104, 0x2311, 0x2601, 0x2611, 0x2630, 0x2710, 0x2820, 0x2940, 0x2A20, 0x2A30,
          0x2B30, 0x2B32, 0x2C50, 0x2D60] (.vehicleRequest port carrier msg) s)
  ∧ (∀ (s : State) (port : Port) (carrier : Carrier) (msg : Bytes),
      Leaves [.sealing, .tilth, .lf, .radio, .vehicle, .inv, .kaolin, .cipher, .sig, .rng, .net, .bridge, .ledger, .logs, .dict,
          .free] [0x2020, 0x2102, 0x2103, 0x2311, 0x2601, 0x2611, 0x2710, 0x2820, 0x2903, 0x2940, 0x2A00, 0x2A20, 0x2A30, 0x2B30,
          0x2B32, 0x2C50, 0x2D60] (.vehicleResponse port carrier msg) s)
  ∧ (∀ (s : State) (carrier : Carrier),
      Leaves [.tilth, .lf, .radio, .vehicle, .inv, .kaolin, .cipher, .sig, .rng, .net, .bridge, .ledger, .logs, .dict, .free] [0x2311,
          0x2601, 0x2611, 0x2710, 0x2820, 0x2940, 0x2A20, 0x2A30, 0x2B30, 0x2C50, 0x2D60] (.vehicleResponseTimeout carrier) s)
  ∧ (∀ (s : State), Leaves [.tilth, .lock, .vehicle, .net, .ledger, .logs, .dict] [0x2102, 0x2600, 0x2B32] .hvilWithdrawal s)
  ∧ (∀ (s : State) (land : Land),
      Leaves [.life, .sealing, .tilth, .latch, .vehicle, .inv, .kaolin, .cipher, .sig, .rng, .net, .ledger, .hardpan, .logs, .dict, .credentials, .free] [0x2001, 0x2004, 0x2021, 0x2022, 0x2102, 0x2660, 0x2B32, 0x2D41, 0x2F10] (.readbackMismatch land) s)
  ∧ (∀ (s : State), Leaves [.latch] [] .latchPullInEnd s)
  ∧ (∀ (s : State),
      Leaves [.life, .sealing, .tilth, .latch, .vehicle, .inv, .kaolin, .cipher, .sig, .rng, .net, .ledger, .hardpan, .logs, .dict,
          .credentials, .free] [0x2001, 0x2004, 0x2021, 0x2022, 0x2102, 0x2660, 0x2B32, 0x2D41, 0x2F10] .svpanelOpenEdge s)
  ∧ (∀ (s : State) (cause : MaskCause), Leaves [.vehicle, .ledger, .logs] [] (.panelMasked cause) s)
  ∧ (∀ (s : State), Leaves [.vehicle, .ledger, .logs] [] .panelRearmed s)
  ∧ (∀ (s : State), Leaves [.vehicle] [] .panelClosed s)

/-- What the commands of the module inventory, Kaolin, the cipher engine, signatures and the random source leave alone (R212, R223,
R234, R260, R265, R277, R284, R306, R316, R325). -/
def Obligations.InventoryPassportCipherAndRandomCommandsLeaveTheRest : Prop :=
  (∀ (s : State) (via : Via), Fresh s via → Leaves [.tilth, .inv, .net, .dict] [0x2102, 0x2B30] (.inventoryRead via) s)
  ∧ (∀ (s : State) (via : Via), Fresh s via → Leaves [.tilth, .inv, .net, .dict] [0x2102, 0x2B30] (.inventoryBind via) s)
  ∧ (∀ (s : State) (via : Via), Fresh s via → Leaves [.tilth, .inv, .net, .dict] [0x2102, 0x2B30] (.inventoryCheck via) s)
  ∧ (∀ (s : State), Leaves [.tilth, .inv, .dict] [0x2102] .periodicCheck s)
  ∧ (∀ (s : State) (vhfMv driverPercent : Nat),
      Leaves [.life, .sealing, .tilth, .lf, .radio, .latch, .inv, .kaolin, .cipher, .sig, .rng, .net, .bridge, .ledger, .hardpan,
          .logs, .dict, .credentials, .free] [0x2001, 0x2004, 0x2021, 0x2022, 0x2102, 0x2311, 0x2601, 0x2660, 0x2700, 0x2710, 0x2712,
          0x2731, 0x2820, 0x2940, 0x2A20, 0x2A30, 0x2B30, 0x2B32, 0x2C50, 0x2D41, 0x2D60, 0x2E51,
          0x2F10] (.loopFieldOn vhfMv driverPercent) s)
  ∧ (∀ (s : State) (reply : HfReply),
      Leaves [.life, .sealing, .tilth, .lf, .radio, .latch, .inv, .kaolin, .cipher, .sig, .rng, .net, .bridge, .ledger, .power,
          .hardpan, .logs, .dict, .credentials, .free] [0x2001, 0x2004, 0x2021, 0x2022, 0x2102, 0x2311, 0x2601, 0x2660, 0x2710,
          0x2712, 0x2731, 0x2820, 0x2940, 0x2A20, 0x2A30, 0x2B30, 0x2B32, 0x2C50, 0x2D41, 0x2D60, 0x2F10] (.hfFrameExchangeEnd reply) s)
  ∧ (∀ (s : State) (entry : Nat),
      Leaves [.life, .sealing, .tilth, .lf, .radio, .latch, .inv, .kaolin, .cipher, .sig, .rng, .net, .bridge, .ledger, .hardpan,
          .logs, .dict, .credentials, .free] [0x2001, 0x2004, 0x2021, 0x2022, 0x2102, 0x2311, 0x2601, 0x2660, 0x2710, 0x2712, 0x2731,
          0x2820, 0x2940, 0x2A00, 0x2A20, 0x2A30, 0x2B30, 0x2B32, 0x2C50, 0x2D41, 0x2D60, 0x2F10] (.originVerifyEnd entry) s)
  ∧ (∀ (s : State),
      Leaves [.tilth, .lf, .radio, .inv, .kaolin, .cipher, .sig, .rng, .net, .bridge, .ledger, .logs, .dict, .free] [0x2311, 0x2601,
          0x2710, 0x2820, 0x2940, 0x2A20, 0x2A30, 0x2B30, 0x2C50, 0x2D60] .inventoryTimeout s)
  ∧ (∀ (s : State) (via : Via) (value : Bytes), Fresh s via →
      Leaves [.sealing, .tilth, .inv, .rng, .net, .ledger, .logs, .dict, .free] [0x2020, 0x2102, 0x2103, 0x2712,
          0x2B30] (.bindingCommit via value) s)
  ∧ (∀ (s : State) (power reservoir : Nat) (torn : List Torn),
      Leaves [.kaolin, .net, .ledger, .logs, .dict] [0x2B32] (.kaolinFieldPowerUp power reservoir torn) s)
  ∧ (∀ (s : State), Leaves [.kaolin, .cipher, .dict, .free] [0x2822] .kaolinDropOut s)
  ∧ (∀ (s : State) (found : Activation), Leaves [.kaolin, .dict] [0x2822] (.kaolinActivation found) s)
  ∧ (∀ (s : State), Leaves [.kaolin, .cipher, .dict, .free] [0x2822] .kaolinDeselect s)
  ∧ (∀ (s : State) (p1 p2 : Byte) (apdu : Apdu), Leaves [.tilth, .kaolin, .dict] [0x2904, 0x2940] (.kaolinSelectAid p1 p2 apdu) s)
  ∧ (∀ (s : State) (p1 p2 : Byte) (apdu : Apdu), Leaves [.tilth, .kaolin, .dict] [0x2904, 0x2940] (.kaolinSelectFid p1 p2 apdu) s)
  ∧ (∀ (s : State) (p1 p2 : Byte) (apdu : Apdu) (le : Nat), Leaves [.tilth, .kaolin, .dict] [0x2904,
      0x2940] (.kaolinReadBinary p1 p2 apdu le) s)
  ∧ (∀ (s : State) (p1 p2 : Byte) (apdu : Apdu), Leaves [.tilth, .kaolin, .ledger, .logs, .dict] [0x2822, 0x2904,
      0x2940] (.kaolinVerify p1 p2 apdu) s)
  ∧ (∀ (s : State) (params : ApduParams) (apdu : Apdu) (le : Nat),
      Leaves [.tilth, .kaolin, .rng, .dict, .free] [0x2822, 0x2904, 0x2940] (.kaolinGetChallenge params apdu le) s)
  ∧ (∀ (s : State) (p1 p2 : Byte) (apdu : Apdu),
      Leaves [.tilth, .kaolin, .cipher, .net, .ledger, .logs, .dict] [0x2822, 0x2903, 0x2904, 0x2940,
          0x2B32] (.kaolinMutualAuthenticate p1 p2 apdu) s)
  ∧ (∀ (s : State) (p1 p2 : Byte) (apdu : Apdu),
      Leaves [.tilth, .kaolin, .rng, .dict] [0x2822, 0x2904, 0x2940, 0x2A00] (.kaolinInternalAuthenticate p1 p2 apdu) s)
  ∧ (∀ (s : State), Leaves [.kaolin, .dict] [0x2822] .liveSignAbandoned s)
  ∧ (∀ (s : State) (p1 p2 : Byte) (apdu : Apdu), Leaves [.tilth, .kaolin, .dict] [0x2822, 0x2904,
      0x2940] (.kaolinUpdateBinary p1 p2 apdu) s)
  ∧ (∀ (s : State) (p1 p2 : Byte) (apdu : Apdu),
      Leaves [.tilth, .kaolin, .ledger, .logs, .dict] [0x2822, 0x2904, 0x2940] (.kaolinCommitFile p1 p2 apdu) s)
  ∧ (∀ (s : State) (h : Harvest) (header : ApduHeader), Leaves [.kaolin] [] (.kaolinUnknownCommand h header) s)
  ∧ (∀ (s : State) (via : Via) (value : Bytes), Fresh s via →
      Leaves [.tilth, .kaolin, .net, .dict] [0x2102, 0x2103, 0x2820, 0x2B30] (.hostFileWrite via value) s)
  ∧ (∀ (s : State),
      Leaves [.tilth, .lf, .radio, .inv, .kaolin, .cipher, .sig, .rng, .net, .bridge, .ledger, .logs, .dict, .free] [0x2311, 0x2601,
          0x2710, 0x2820, 0x2940, 0x2A20, 0x2A30, 0x2B30, 0x2C50, 0x2D60] .fileCommitted s)
  ∧ (∀ (s : State), Leaves [.tilth, .kaolin, .dict] [0x2820] .hostFileWriteTimeout s)
  ∧ (∀ (s : State), Leaves [.kaolin, .ledger, .logs] [] .statusFileRefresh s)
  ∧ (∀ (s : State) (via : Via) (value : Bytes), Fresh s via →
      Leaves [.sealing, .tilth, .kaolin, .rng, .net, .ledger, .logs, .dict, .free] [0x2020, 0x2102, 0x2103, 0x2802, 0x2A00,
          0x2B30] (.ownerUidSignatureWrite via value) s)
  ∧ (∀ (s : State) (via : Via) (value : Bytes), Fresh s via →
      Leaves [.sealing, .tilth, .kaolin, .rng, .net, .dict, .free] [0x2020, 0x2102, 0x2103, 0x2810,
          0x2B30] (.pinDigestWrite via value) s)
  ∧ (∀ (s : State) (via : Via) (sub : Nat) (value : Bytes), Fresh s via →
      Leaves [.sealing, .tilth, .kaolin, .rng, .net, .dict, .free] [0x2020, 0x2102, 0x2103, 0x2811,
          0x2B30] (.readerEntryWrite via sub value) s)
  ∧ (∀ (s : State), Leaves [.kaolin, .rng, .ledger, .hardpan, .logs, .free] [] .carryRefreshed s)
  ∧ (∀ (s : State) (via : Via) (value : Bytes), Fresh s via →
      Leaves [.sealing, .tilth, .cipher, .rng, .net, .ledger, .power, .hardpan, .logs, .dict, .free] [0x2020, 0x2102, 0x2103, 0x2302,
          0x2904, 0x2912, 0x2940, 0x2B30] (.rootImport via value) s)
  ∧ (∀ (s : State) (via : Via) (value : Bytes), Fresh s via →
      Leaves [.cipher, .net, .ledger, .power, .logs, .dict] [0x2B30] (.cipherSelftestRequest via value) s)
  ∧ (∀ (s : State) (passed shePassed : Bool),
      Leaves [.life, .sealing, .tilth, .lf, .radio, .latch, .inv, .kaolin, .cipher, .sig, .rng, .net, .bridge, .ledger, .hardpan,
          .logs, .dict, .credentials, .free] [0x2001, 0x2004, 0x2021, 0x2022, 0x2102, 0x2311, 0x2601, 0x2660, 0x2710, 0x2820, 0x2921,
          0x2940, 0x2A20, 0x2A30, 0x2B30, 0x2B32, 0x2C50, 0x2D41, 0x2D60, 0x2F10] (.cipherSelftest passed shePassed) s)
  ∧ (∀ (s : State), Leaves [.tilth, .cipher] [] .cipherResume s)
  ∧ (∀ (s : State) (slot : Nat) (op : Byte) (t : State), exec (.cipherCompareFail slot op) s = .next t →
      Only [.life, .sealing, .tilth, .lf, .badges, .radio, .lock, .latch, .vehicle, .inv, .kaolin, .cipher, .sig, .rng, .net, .bridge,
          .ledger, .power, .platform, .hardpan, .logs, .dict, .credentials, .free] s t)
  ∧ (∀ (s : State),
      Leaves [.tilth, .lf, .radio, .inv, .kaolin, .cipher, .sig, .rng, .net, .bridge, .ledger, .logs, .dict, .free] [0x2311, 0x2601,
          0x2710, 0x2820, 0x2940, 0x2A20, 0x2A30, 0x2B30, 0x2C50, 0x2D60] .cipherLockStale s)
  ∧ (∀ (s : State) (slot : Nat),
      Leaves [.tilth, .lf, .radio, .inv, .kaolin, .cipher, .sig, .rng, .net, .bridge, .ledger, .logs, .dict, .free] [0x2311, 0x2601,
          0x2710, 0x2820, 0x2940, 0x2A20, 0x2A30, 0x2B30, 0x2C50, 0x2D60] (.keyRegisterWaitTimeout slot) s)
  ∧ (∀ (s : State) (slot : Nat) (tagHolds : Bool),
      Leaves [.tilth, .lf, .radio, .inv, .kaolin, .cipher, .sig, .rng, .net, .bridge, .ledger, .logs, .dict, .free] [0x2311, 0x2601,
          0x2710, 0x2820, 0x2940, 0x2A20, 0x2A30, 0x2B30, 0x2C50, 0x2D60] (.gcmOpenEnd slot tagHolds) s)
  ∧ (∀ (s : State) (via : Via) (value : Bytes),
      Leaves [.sealing, .tilth, .lf, .radio, .inv, .kaolin, .cipher, .sig, .rng, .net, .bridge, .ledger, .logs, .dict, .free] [0x2020,
          0x2102, 0x2103, 0x2311, 0x2601, 0x2710, 0x2820, 0x2940, 0x2A20, 0x2A30, 0x2B30, 0x2C50,
          0x2D60] (.attestationChallenge via value) s)
  ∧ (∀ (s : State) (via : Via) (header : Bytes),
      Leaves [.tilth, .lf, .radio, .cipher, .sig, .rng, .net, .bridge, .ledger, .logs, .dict, .free] [0x2102, 0x2103, 0x2940, 0x2A00,
          0x2A30, 0x2B30, 0x2C50, 0x2D60] (.firmwareImageHeader via header) s)
  ∧ (∀ (s : State) (payload readBack : Bytes),
      Leaves [.tilth, .lf, .radio, .inv, .kaolin, .cipher, .sig, .rng, .net, .bridge, .ledger, .logs, .dict, .free] [0x2311, 0x2601,
          0x2710, 0x2820, 0x2940, 0x2A00, 0x2A20, 0x2A30, 0x2B30, 0x2C50, 0x2D60] (.firmwareInstallEnd payload readBack) s)
  ∧ (∀ (s : State) (via : Via) (value : Bytes), Fresh s via →
      Leaves [.sig, .net, .ledger, .logs, .dict] [0x2A31, 0x2B30] (.activateBank via value) s)
  ∧ (∀ (s : State) (via : Via) (value : Bytes), Fresh s via →
      Leaves [.sealing, .tilth, .kaolin, .sig, .rng, .net, .ledger, .logs, .dict, .free] [0x2020, 0x2102, 0x2103, 0x2A00, 0x2A04,
          0x2B30] (.certificateChainWrite via value) s)
  ∧ (∀ (s : State) (via : Via) (value : Bytes), Fresh s via →
      Leaves [.sealing, .tilth, .kaolin, .sig, .rng, .net, .ledger, .logs, .dict, .free] [0x2020, 0x2102, 0x2103, 0x2A00, 0x2A04,
          0x2B30] (.vendorUidSignatureWrite via value) s)
  ∧ (∀ (s : State) (slot : Nat) (t : State), exec (.sheCompareFail slot) s = .next t →
      Only [.life, .sealing, .tilth, .lf, .badges, .radio, .lock, .latch, .vehicle, .inv, .kaolin, .cipher, .sig, .rng, .net, .bridge,
          .ledger, .power, .platform, .hardpan, .logs, .dict, .credentials, .free] s t)
  ∧ (∀ (s : State) (cell : Cell) (test : HealthTest),
      Leaves [.tilth, .lf, .radio, .vehicle, .inv, .kaolin, .cipher, .sig, .rng, .net, .bridge, .ledger, .logs, .dict, .free] [0x2311,
          0x2601, 0x2611, 0x2630, 0x2710, 0x2820, 0x2940, 0x2A20, 0x2A30, 0x2A40, 0x2B30, 0x2B32, 0x2C50,
          0x2D60] (.rngHealthFail cell test) s)
  ∧ (∀ (s : State) (passed : Bool),
      Leaves [.tilth, .lf, .radio, .vehicle, .inv, .kaolin, .cipher, .sig, .rng, .net, .bridge, .ledger, .logs, .dict, .free] [0x2311,
          0x2601, 0x2611, 0x2630, 0x2710, 0x2820, 0x2940, 0x2A20, 0x2A30, 0x2A40, 0x2B30, 0x2B32, 0x2C50,
          0x2D60] (.rngStartupTestEnd passed) s)
  ∧ (∀ (s : State) (via : Via) (value : Bytes), Fresh s via → Leaves [.rng, .net, .dict] [0x2B30] (.rngRestartSource via value) s)
  ∧ (∀ (s : State),
      Leaves [.tilth, .lf, .badges, .radio, .vehicle, .inv, .kaolin, .cipher, .sig, .rng, .net, .bridge, .ledger, .power, .logs,
          .dict, .free] [0x2311, 0x2601, 0x2611, 0x2630, 0x2710, 0x2820, 0x2903, 0x2940, 0x2A20, 0x2A30, 0x2A40, 0x2B30, 0x2C50,
          0x2D60] .rngSeeded s)
  ∧ (∀ (s : State),
      Leaves [.tilth, .lf, .radio, .vehicle, .inv, .kaolin, .cipher, .sig, .rng, .net, .bridge, .ledger, .logs, .dict, .free] [0x2311,
          0x2601, 0x2611, 0x2630, 0x2710, 0x2820, 0x2940, 0x2A20, 0x2A30, 0x2B30, 0x2C50, 0x2D60] .rngNotReadyTimeout s)
  ∧ (∀ (s : State),
      Leaves [.tilth, .lf, .badges, .radio, .vehicle, .inv, .kaolin, .cipher, .sig, .rng, .net, .bridge, .ledger, .power, .logs,
          .dict, .free] [0x2311, 0x2601, 0x2611, 0x2630, 0x2710, 0x2820, 0x2903, 0x2940, 0x2A20, 0x2A30, 0x2B30, 0x2C50,
          0x2D60] .strictRequestServed s)
  ∧ (∀ (s : State) (inst : Nat), Leaves [.rng] [] (.stretchReseed inst) s)
  ∧ (∀ (s : State) (inst : Nat), Leaves [.rng, .ledger, .logs] [] (.rngStretchExhausted inst) s)
  ∧ (∀ (s : State) (via : Via), Fresh s via → Leaves [.rng, .net, .ledger, .power, .logs, .dict, .free] [0x2A45,
      0x2B30] (.hostRandomRead via) s)

/-- What the commands of the field network, LSS, the Sahun bridge, the metering and the lease ledger leave alone (R332, R335, R344,
R347, R351, R361, R371, R376, R379, R393). -/
def Obligations.NetworkBridgeAndMeteringCommandsLeaveTheRest : Prop :=
  (∀ (s : State) (port : Port) (node : Nat), Leaves [.net] [] (.nmtStart port node) s)
  ∧ (∀ (s : State) (port : Port) (node : Nat), Leaves [.net] [] (.nmtStop port node) s)
  ∧ (∀ (s : State) (port : Port) (node : Nat), Leaves [.net] [] (.nmtEnterPreOperational port node) s)
  ∧ (∀ (s : State) (port : Port) (node : Nat),
      Leaves [.tilth, .lf, .radio, .cipher, .sig, .rng, .net, .bridge, .ledger, .logs, .dict, .free] [0x2940, 0x2A30, 0x2B30, 0x2C50,
          0x2D60] (.nmtResetCommunication port node) s)
  ∧ (∀ (s : State) (port : Port) (node : Nat) (t : State), exec (.nmtResetNode port node) s = .next t →
      Only [.life, .sealing, .tilth, .lf, .badges, .radio, .lock, .latch, .vehicle, .inv, .kaolin, .cipher, .sig, .rng, .net, .bridge,
          .ledger, .power, .platform, .logs, .dict, .free] s t)
  ∧ (∀ (s : State) (port : Port) (node state : Nat), Leaves [.net, .ledger, .logs,
      .dict] [0x2B32] (.heartbeatReceived port node state) s)
  ∧ (∀ (s : State) (port : Port) (node : Nat), Leaves [.net, .ledger, .logs] [] (.bootUpReceived port node) s)
  ∧ (∀ (s : State) (entry : Nat), Leaves [.net, .ledger, .logs, .dict] [0x2B32] (.partnerLost entry) s)
  ∧ (∀ (s : State) (port : Port) (counter : Option Nat), Leaves [.net] [] (.syncReceived port counter) s)
  ∧ (∀ (s : State) (port : Port) (num : Nat) (payload : Bytes) (t : State), exec (.rpdoReceived port num payload) s = .next t →
      Only [.life, .sealing, .tilth, .lf, .radio, .latch, .vehicle, .inv, .kaolin, .cipher, .sig, .rng, .net, .bridge, .ledger,
          .power, .hardpan, .logs, .dict, .credentials, .free] s t)
  ∧ (∀ (s : State) (num : Nat), Leaves [.net] [] (.tpdoTrigger num) s)
  ∧ (∀ (s : State) (port : Port) (client : Nat) (segmented : Bool),
      Leaves [.tilth, .lf, .radio, .cipher, .sig, .rng, .net, .bridge, .ledger, .logs, .dict, .free] [0x2102, 0x2940, 0x2A30, 0x2B30,
          0x2B31, 0x2C50, 0x2D60] (.usdoInitiate port client segmented) s)
  ∧ (∀ (s : State) (srv : Srv),
      Leaves [.tilth, .lf, .radio, .cipher, .sig, .rng, .net, .bridge, .ledger, .logs, .dict, .free] [0x2940, 0x2A30, 0x2B30, 0x2C50,
          0x2D60] (.usdoSegmentTimeout srv) s)
  ∧ (∀ (s : State) (port : Port), Leaves [.net, .ledger, .logs] [] (.busOff port) s)
  ∧ (∀ (s : State) (port : Port), Leaves [.net, .ledger, .logs, .dict] [0x2B32] (.busOffRecovery port) s)
  ∧ (∀ (s : State) (via : Via) (value : Bytes), Fresh s via → Leaves [.net, .dict] [0x2B30] (.busOffRecover via value) s)
  ∧ (∀ (s : State) (port : Port), Leaves [.net, .ledger, .logs, .dict] [0x2B32] (.errorPassive port) s)
  ∧ (∀ (s : State) (port : Port), Leaves [.net, .ledger, .logs, .dict] [0x2B32] (.rxOverrun port) s)
  ∧ (∀ (s : State) (via : Via) (sub : Nat) (value : Bytes), Fresh s via →
      Leaves [.net, .dict] [0x2B01, 0x2B30] (.canBitrateWrite via sub value) s)
  ∧ (∀ (s : State) (via : Via) (idx sub : Nat) (value : Bytes), Fresh s via →
      Leaves [.net, .dict] [idx, 0x2B30] (.pdoMappingWrite via idx sub value) s)
  ∧ (∀ (s : State) (port : Port) (config : Bool), Leaves [.net] [] (.lssSwitchStateGlobal port config) s)
  ∧ (∀ (s : State) (port : Port) (vendor product revision serial : Nat),
      Leaves [.net] [] (.lssSwitchStateSelective port vendor product revision serial) s)
  ∧ (∀ (s : State) (port : Port) (node : Nat), Leaves [.net] [] (.lssConfigureNodeId port node) s)
  ∧ (∀ (s : State) (port : Port) (selector code : Nat), Leaves [.net] [] (.lssConfigureBitTiming port selector code) s)
  ∧ (∀ (s : State) (port : Port), Leaves [.net] [] (.lssActivateBitTiming port) s)
  ∧ (∀ (s : State) (port : Port), Leaves [.net, .dict] [0x2B00, 0x2B01] (.lssStoreConfiguration port) s)
  ∧ (∀ (s : State) (port : Port) (part : Nat), Leaves [.net] [] (.lssInquireIdentity port part) s)
  ∧ (∀ (s : State) (port : Port), Leaves [.net] [] (.lssInquireNodeId port) s)
  ∧ (∀ (s : State) (port : Port) (vendor product revLow revHigh serLow serHigh : Nat),
      Leaves [.net] [] (.lssIdentifyRemoteSlave port vendor product revLow revHigh serLow serHigh) s)
  ∧ (∀ (s : State) (port : Port), Leaves [.net] [] (.lssIdentifyNonConfigured port) s)
  ∧ (∀ (s : State) (port : Port) (idNumber bitCheck lssSub lssNext : Nat),
      Leaves [.net] [] (.lssFastscan port idNumber bitCheck lssSub lssNext) s)
  ∧ (∀ (s : State) (lanes : BitVec 4) (attrMap : Bytes),
      Leaves [.tilth, .lf, .radio, .inv, .kaolin, .cipher, .sig, .rng, .net, .bridge, .ledger, .logs, .dict, .free] [0x2311, 0x2601,
          0x2710, 0x2820, 0x2940, 0x2A20, 0x2A30, 0x2B30, 0x2B32, 0x2C00, 0x2C03, 0x2C20, 0x2C21, 0x2C30, 0x2C31, 0x2C50,
          0x2D60] (.linkTrainingEnd lanes attrMap) s)
  ∧ (∀ (s : State), Leaves [.bridge] [] .linkTrainingRetry s)
  ∧ (∀ (s : State) (lane : Nat), Leaves [.net, .bridge, .ledger, .logs, .dict] [0x2B32, 0x2C20, 0x2C21] (.linkDegraded lane) s)
  ∧ (∀ (s : State) (direction : Nat), Leaves [.net, .bridge, .ledger, .logs, .dict] [0x2B32, 0x2C20, 0x2C21] (.linkDown direction) s)
  ∧ (∀ (s : State) (packet : SahunPacket), Leaves [.net, .bridge, .ledger, .logs, .dict] [0x2B32, 0x2C00, 0x2C20,
      0x2C21] (.sahunNak packet) s)
  ∧ (∀ (s : State) (tag : Nat) (data : Bytes),
      Leaves [.tilth, .lf, .radio, .cipher, .rng, .net, .bridge, .dict] [0x2B30, 0x2C50] (.readDataLanded tag data) s)
  ∧ (∀ (s : State) (tag : Nat),
      Leaves [.tilth, .lf, .radio, .cipher, .rng, .net, .bridge, .ledger, .logs, .dict] [0x2B30, 0x2B32, 0x2C01, 0x2C20, 0x2C21,
          0x2C50] (.readTimeoutLogged tag) s)
  ∧ (∀ (s : State) (slot : Nat),
      Leaves [.tilth, .lf, .radio, .inv, .kaolin, .cipher, .sig, .rng, .net, .bridge, .ledger, .logs, .dict, .free] [0x2311, 0x2601,
          0x2710, 0x2820, 0x2940, 0x2A20, 0x2A30, 0x2B30, 0x2C50, 0x2D60] (.postedWriteRoomTimeout slot) s)
  ∧ (∀ (s : State) (tag : Nat),
      Leaves [.tilth, .lf, .radio, .cipher, .rng, .net, .bridge, .ledger, .logs, .dict] [0x2B30, 0x2C30, 0x2C31,
          0x2C50] (.writeAckReceived tag) s)
  ∧ (∀ (s : State) (tag : Nat) (cause : Code),
      Leaves [.tilth, .lf, .radio, .cipher, .rng, .net, .bridge, .ledger, .logs, .dict] [0x2B30, 0x2B32, 0x2C20, 0x2C21, 0x2C30,
          0x2C31, 0x2C50] (.postedWriteFailed tag cause) s)
  ∧ (∀ (s : State) (seq lost : Nat) (record : Bytes), Leaves [.bridge] [] (.samplePacketLanded seq lost record) s)
  ∧ (∀ (s : State) (seq lost : Nat) (event : Bytes), Leaves [.bridge] [] (.eventPacketLanded seq lost event) s)
  ∧ (∀ (s : State), Leaves [.bridge, .ledger, .logs, .dict] [0x2C30, 0x2C31] .prefetchDiscarded s)
  ∧ (∀ (s : State) (via : Via),
      Leaves [.tilth, .lf, .radio, .cipher, .sig, .rng, .net, .bridge, .ledger, .logs, .dict, .free] [0x2102, 0x2103, 0x2940, 0x2A30,
          0x2B30, 0x2C50, 0x2D60] (.hostWindowRead via) s)
  ∧ (∀ (s : State) (via : Via) (value : Bytes),
      Leaves [.sealing, .tilth, .lf, .radio, .cipher, .sig, .rng, .net, .bridge, .ledger, .power, .logs, .dict, .free] [0x2020,
          0x2102, 0x2103, 0x2940, 0x2A30, 0x2B30, 0x2C30, 0x2C31, 0x2C50, 0x2D60] (.hostWindowWrite via value) s)
  ∧ (∀ (s : State) (snapshot : Option Snapshot), Leaves [.tilth, .net, .ledger, .logs, .dict] [0x2102, 0x2B32,
      0x2D20] (.meterFold snapshot) s)
  ∧ (∀ (s : State), Leaves [.tilth, .ledger, .logs, .dict] [0x2102] .graceTimeExpiry s)
  ∧ (∀ (s : State) (readBack : List Bytes), Leaves [.net, .bridge, .ledger, .logs, .dict] [0x2B32, 0x2C30,
      0x2C31] (.eptanConfigCheck readBack) s)
  ∧ (∀ (s : State) (via : Via) (value : Bytes), Fresh s via →
      Leaves [.net, .ledger, .dict] [0x2B30, 0x2D12] (.zeroCurrentOffset via value) s)
  ∧ (∀ (s : State), Leaves [.bridge, .ledger, .logs, .dict] [0x2C30, 0x2C31, 0x2D12] .zeroOffsetEnd s)
  ∧ (∀ (s : State) (via : Via) (value : Bytes), Fresh s via →
      Leaves [.tilth, .net, .ledger, .logs, .dict] [0x2102, 0x2103, 0x2A00, 0x2B30, 0x2D40] (.tokenTopup via value) s)
  ∧ (∀ (s : State) (via : Via) (value : Bytes), Fresh s via →
      Leaves [.tilth, .net, .ledger, .logs, .dict] [0x2102, 0x2103, 0x2A00, 0x2B30, 0x2D40] (.tokenTerms via value) s)
  ∧ (∀ (s : State) (via : Via) (value : Bytes), Fresh s via →
      Leaves [.tilth, .net, .ledger, .logs, .dict] [0x2102, 0x2103, 0x2A00, 0x2B30, 0x2D40] (.tokenAdjust via value) s)
  ∧ (∀ (s : State) (via : Via) (value : Bytes), Fresh s via →
      Leaves [.tilth, .net, .ledger, .logs, .dict] [0x2102, 0x2103, 0x2A00, 0x2B30, 0x2D40] (.tokenJournalAck via value) s)
  ∧ (∀ (s : State) (via : Via) (value : Bytes), Fresh s via →
      Leaves [.tilth, .net, .dict] [0x2102, 0x2B30] (.receiptRequest via value) s)
  ∧ (∀ (s : State), Leaves [.tilth, .ledger, .dict] [0x2102] .periodicReceipt s)
  ∧ (∀ (s : State),
      Leaves [.tilth, .lf, .radio, .inv, .kaolin, .cipher, .sig, .rng, .net, .bridge, .ledger, .logs, .dict, .free] [0x2311, 0x2601,
          0x2710, 0x2820, 0x2940, 0x2A00, 0x2A20, 0x2A30, 0x2B30, 0x2C50, 0x2D60] .receiptWrite s)
  ∧ (∀ (s : State) (via : Via) (length : Nat) (header : Bytes),
      Leaves [.tilth, .lf, .radio, .cipher, .sig, .rng, .net, .bridge, .ledger, .logs, .dict, .free] [0x2102, 0x2103, 0x2940, 0x2A30,
          0x2B30, 0x2C50, 0x2D60] (.journalImport via length header) s)
  ∧ (∀ (s : State) (cipher tag : Bytes),
      Leaves [.tilth, .lf, .radio, .inv, .kaolin, .cipher, .sig, .rng, .net, .bridge, .ledger, .logs, .dict, .free] [0x2102, 0x2311,
          0x2601, 0x2710, 0x2820, 0x2940, 0x2A20, 0x2A30, 0x2B30, 0x2C50, 0x2D60] (.journalImportEnd cipher tag) s)
  ∧ (∀ (s : State), Leaves [.net] [] .producerHeartbeat s)
  ∧ (∀ (s : State) (port : Port), Leaves [.net] [] (.portErrorActive port) s)

end
end

