-- ==== Sys2Proof/Laws/State.lean ====
section
/-! SUPPORT. What each basic update of the state leaves as it was: one lemma per field and update, true by `rfl`. A later proof cites
these and unfolds no update of a record. -/

namespace Sys2Proof.Machine

section
variable (s : State) (idx sub : Nat) (v : Bytes)
@[simp] theorem State.put_life : (s.put idx sub v).life = s.life := rfl
@[simp] theorem State.put_sealing : (s.put idx sub v).sealing = s.sealing := rfl
@[simp] theorem State.put_tilth : (s.put idx sub v).tilth = s.tilth := rfl
@[simp] theorem State.put_lf : (s.put idx sub v).lf = s.lf := rfl
@[simp] theorem State.put_badges : (s.put idx sub v).badges = s.badges := rfl
@[simp] theorem State.put_radio : (s.put idx sub v).radio = s.radio := rfl
@[simp] theorem State.put_lock : (s.put idx sub v).lock = s.lock := rfl
@[simp] theorem State.put_latch : (s.put idx sub v).latch = s.latch := rfl
@[simp] theorem State.put_vehicle : (s.put idx sub v).vehicle = s.vehicle := rfl
@[simp] theorem State.put_inv : (s.put idx sub v).inv = s.inv := rfl
@[simp] theorem State.put_kaolin : (s.put idx sub v).kaolin = s.kaolin := rfl
@[simp] theorem State.put_cipher : (s.put idx sub v).cipher = s.cipher := rfl
@[simp] theorem State.put_sig : (s.put idx sub v).sig = s.sig := rfl
@[simp] theorem State.put_rng : (s.put idx sub v).rng = s.rng := rfl
@[simp] theorem State.put_net : (s.put idx sub v).net = s.net := rfl
@[simp] theorem State.put_bridge : (s.put idx sub v).bridge = s.bridge := rfl
@[simp] theorem State.put_ledger : (s.put idx sub v).ledger = s.ledger := rfl
@[simp] theorem State.put_power : (s.put idx sub v).power = s.power := rfl
@[simp] theorem State.put_platform : (s.put idx sub v).platform = s.platform := rfl
@[simp] theorem State.put_hardpan : (s.put idx sub v).hardpan = s.hardpan := rfl
@[simp] theorem State.put_logs : (s.put idx sub v).logs = s.logs := rfl
@[simp] theorem State.put_credentials : (s.put idx sub v).credentials = s.credentials := rfl
@[simp] theorem State.put_hist1 : (s.put idx sub v).hist1 = s.hist1 := rfl
@[simp] theorem State.put_hist2 : (s.put idx sub v).hist2 = s.hist2 := rfl
@[simp] theorem State.put_free : (s.put idx sub v).free = s.free := rfl
@[simp] theorem State.put_pending : (s.put idx sub v).pending = s.pending := rfl
end

section
variable (s : State) (idx sub n : Nat)
@[simp] theorem State.putNum_life : (s.putNum idx sub n).life = s.life := rfl
@[simp] theorem State.putNum_sealing : (s.putNum idx sub n).sealing = s.sealing := rfl
@[simp] theorem State.putNum_tilth : (s.putNum idx sub n).tilth = s.tilth := rfl
@[simp] theorem State.putNum_lf : (s.putNum idx sub n).lf = s.lf := rfl
@[simp] theorem State.putNum_badges : (s.putNum idx sub n).badges = s.badges := rfl
@[simp] theorem State.putNum_radio : (s.putNum idx sub n).radio = s.radio := rfl
@[simp] theorem State.putNum_lock : (s.putNum idx sub n).lock = s.lock := rfl
@[simp] theorem State.putNum_latch : (s.putNum idx sub n).latch = s.latch := rfl
@[simp] theorem State.putNum_vehicle : (s.putNum idx sub n).vehicle = s.vehicle := rfl
@[simp] theorem State.putNum_inv : (s.putNum idx sub n).inv = s.inv := rfl
@[simp] theorem State.putNum_kaolin : (s.putNum idx sub n).kaolin = s.kaolin := rfl
@[simp] theorem State.putNum_cipher : (s.putNum idx sub n).cipher = s.cipher := rfl
@[simp] theorem State.putNum_sig : (s.putNum idx sub n).sig = s.sig := rfl
@[simp] theorem State.putNum_rng : (s.putNum idx sub n).rng = s.rng := rfl
@[simp] theorem State.putNum_net : (s.putNum idx sub n).net = s.net := rfl
@[simp] theorem State.putNum_bridge : (s.putNum idx sub n).bridge = s.bridge := rfl
@[simp] theorem State.putNum_ledger : (s.putNum idx sub n).ledger = s.ledger := rfl
@[simp] theorem State.putNum_power : (s.putNum idx sub n).power = s.power := rfl
@[simp] theorem State.putNum_platform : (s.putNum idx sub n).platform = s.platform := rfl
@[simp] theorem State.putNum_hardpan : (s.putNum idx sub n).hardpan = s.hardpan := rfl
@[simp] theorem State.putNum_logs : (s.putNum idx sub n).logs = s.logs := rfl
@[simp] theorem State.putNum_credentials : (s.putNum idx sub n).credentials = s.credentials := rfl
@[simp] theorem State.putNum_hist1 : (s.putNum idx sub n).hist1 = s.hist1 := rfl
@[simp] theorem State.putNum_hist2 : (s.putNum idx sub n).hist2 = s.hist2 := rfl
@[simp] theorem State.putNum_free : (s.putNum idx sub n).free = s.free := rfl
@[simp] theorem State.putNum_pending : (s.putNum idx sub n).pending = s.pending := rfl
end

section
variable (s : State) (idx sub : Nat) (n : Int)
@[simp] theorem State.putInt_life : (s.putInt idx sub n).life = s.life := rfl
@[simp] theorem State.putInt_sealing : (s.putInt idx sub n).sealing = s.sealing := rfl
@[simp] theorem State.putInt_tilth : (s.putInt idx sub n).tilth = s.tilth := rfl
@[simp] theorem State.putInt_lf : (s.putInt idx sub n).lf = s.lf := rfl
@[simp] theorem State.putInt_badges : (s.putInt idx sub n).badges = s.badges := rfl
@[simp] theorem State.putInt_radio : (s.putInt idx sub n).radio = s.radio := rfl
@[simp] theorem State.putInt_lock : (s.putInt idx sub n).lock = s.lock := rfl
@[simp] theorem State.putInt_latch : (s.putInt idx sub n).latch = s.latch := rfl
@[simp] theorem State.putInt_vehicle : (s.putInt idx sub n).vehicle = s.vehicle := rfl
@[simp] theorem State.putInt_inv : (s.putInt idx sub n).inv = s.inv := rfl
@[simp] theorem State.putInt_kaolin : (s.putInt idx sub n).kaolin = s.kaolin := rfl
@[simp] theorem State.putInt_cipher : (s.putInt idx sub n).cipher = s.cipher := rfl
@[simp] theorem State.putInt_sig : (s.putInt idx sub n).sig = s.sig := rfl
@[simp] theorem State.putInt_rng : (s.putInt idx sub n).rng = s.rng := rfl
@[simp] theorem State.putInt_net : (s.putInt idx sub n).net = s.net := rfl
@[simp] theorem State.putInt_bridge : (s.putInt idx sub n).bridge = s.bridge := rfl
@[simp] theorem State.putInt_ledger : (s.putInt idx sub n).ledger = s.ledger := rfl
@[simp] theorem State.putInt_power : (s.putInt idx sub n).power = s.power := rfl
@[simp] theorem State.putInt_platform : (s.putInt idx sub n).platform = s.platform := rfl
@[simp] theorem State.putInt_hardpan : (s.putInt idx sub n).hardpan = s.hardpan := rfl
@[simp] theorem State.putInt_logs : (s.putInt idx sub n).logs = s.logs := rfl
@[simp] theorem State.putInt_credentials : (s.putInt idx sub n).credentials = s.credentials := rfl
@[simp] theorem State.putInt_hist1 : (s.putInt idx sub n).hist1 = s.hist1 := rfl
@[simp] theorem State.putInt_hist2 : (s.putInt idx sub n).hist2 = s.hist2 := rfl
@[simp] theorem State.putInt_free : (s.putInt idx sub n).free = s.free := rfl
@[simp] theorem State.putInt_pending : (s.putInt idx sub n).pending = s.pending := rfl
end

section
variable (s : State) (idx sub : Nat) (c : Code)
@[simp] theorem State.putCode_life : (s.putCode idx sub c).life = s.life := rfl
@[simp] theorem State.putCode_sealing : (s.putCode idx sub c).sealing = s.sealing := rfl
@[simp] theorem State.putCode_tilth : (s.putCode idx sub c).tilth = s.tilth := rfl
@[simp] theorem State.putCode_lf : (s.putCode idx sub c).lf = s.lf := rfl
@[simp] theorem State.putCode_badges : (s.putCode idx sub c).badges = s.badges := rfl
@[simp] theorem State.putCode_radio : (s.putCode idx sub c).radio = s.radio := rfl
@[simp] theorem State.putCode_lock : (s.putCode idx sub c).lock = s.lock := rfl
@[simp] theorem State.putCode_latch : (s.putCode idx sub c).latch = s.latch := rfl
@[simp] theorem State.putCode_vehicle : (s.putCode idx sub c).vehicle = s.vehicle := rfl
@[simp] theorem State.putCode_inv : (s.putCode idx sub c).inv = s.inv := rfl
@[simp] theorem State.putCode_kaolin : (s.putCode idx sub c).kaolin = s.kaolin := rfl
@[simp] theorem State.putCode_cipher : (s.putCode idx sub c).cipher = s.cipher := rfl
@[simp] theorem State.putCode_sig : (s.putCode idx sub c).sig = s.sig := rfl
@[simp] theorem State.putCode_rng : (s.putCode idx sub c).rng = s.rng := rfl
@[simp] theorem State.putCode_net : (s.putCode idx sub c).net = s.net := rfl
@[simp] theorem State.putCode_bridge : (s.putCode idx sub c).bridge = s.bridge := rfl
@[simp] theorem State.putCode_ledger : (s.putCode idx sub c).ledger = s.ledger := rfl
@[simp] theorem State.putCode_power : (s.putCode idx sub c).power = s.power := rfl
@[simp] theorem State.putCode_platform : (s.putCode idx sub c).platform = s.platform := rfl
@[simp] theorem State.putCode_hardpan : (s.putCode idx sub c).hardpan = s.hardpan := rfl
@[simp] theorem State.putCode_logs : (s.putCode idx sub c).logs = s.logs := rfl
@[simp] theorem State.putCode_credentials : (s.putCode idx sub c).credentials = s.credentials := rfl
@[simp] theorem State.putCode_hist1 : (s.putCode idx sub c).hist1 = s.hist1 := rfl
@[simp] theorem State.putCode_hist2 : (s.putCode idx sub c).hist2 = s.hist2 := rfl
@[simp] theorem State.putCode_free : (s.putCode idx sub c).free = s.free := rfl
@[simp] theorem State.putCode_pending : (s.putCode idx sub c).pending = s.pending := rfl
end

section
variable (s : State) (idx sub : Nat)
@[simp] theorem State.bump_life : (s.bump idx sub).life = s.life := rfl
@[simp] theorem State.bump_sealing : (s.bump idx sub).sealing = s.sealing := rfl
@[simp] theorem State.bump_tilth : (s.bump idx sub).tilth = s.tilth := rfl
@[simp] theorem State.bump_lf : (s.bump idx sub).lf = s.lf := rfl
@[simp] theorem State.bump_badges : (s.bump idx sub).badges = s.badges := rfl
@[simp] theorem State.bump_radio : (s.bump idx sub).radio = s.radio := rfl
@[simp] theorem State.bump_lock : (s.bump idx sub).lock = s.lock := rfl
@[simp] theorem State.bump_latch : (s.bump idx sub).latch = s.latch := rfl
@[simp] theorem State.bump_vehicle : (s.bump idx sub).vehicle = s.vehicle := rfl
@[simp] theorem State.bump_inv : (s.bump idx sub).inv = s.inv := rfl
@[simp] theorem State.bump_kaolin : (s.bump idx sub).kaolin = s.kaolin := rfl
@[simp] theorem State.bump_cipher : (s.bump idx sub).cipher = s.cipher := rfl
@[simp] theorem State.bump_sig : (s.bump idx sub).sig = s.sig := rfl
@[simp] theorem State.bump_rng : (s.bump idx sub).rng = s.rng := rfl
@[simp] theorem State.bump_net : (s.bump idx sub).net = s.net := rfl
@[simp] theorem State.bump_bridge : (s.bump idx sub).bridge = s.bridge := rfl
@[simp] theorem State.bump_ledger : (s.bump idx sub).ledger = s.ledger := rfl
@[simp] theorem State.bump_power : (s.bump idx sub).power = s.power := rfl
@[simp] theorem State.bump_platform : (s.bump idx sub).platform = s.platform := rfl
@[simp] theorem State.bump_hardpan : (s.bump idx sub).hardpan = s.hardpan := rfl
@[simp] theorem State.bump_logs : (s.bump idx sub).logs = s.logs := rfl
@[simp] theorem State.bump_credentials : (s.bump idx sub).credentials = s.credentials := rfl
@[simp] theorem State.bump_hist1 : (s.bump idx sub).hist1 = s.hist1 := rfl
@[simp] theorem State.bump_hist2 : (s.bump idx sub).hist2 = s.hist2 := rfl
@[simp] theorem State.bump_free : (s.bump idx sub).free = s.free := rfl
@[simp] theorem State.bump_pending : (s.bump idx sub).pending = s.pending := rfl
end

section
variable (s : State) (n : Nat)
@[simp] theorem State.used_life : (s.used n).life = s.life := rfl
@[simp] theorem State.used_sealing : (s.used n).sealing = s.sealing := rfl
@[simp] theorem State.used_tilth : (s.used n).tilth = s.tilth := rfl
@[simp] theorem State.used_lf : (s.used n).lf = s.lf := rfl
@[simp] theorem State.used_badges : (s.used n).badges = s.badges := rfl
@[simp] theorem State.used_radio : (s.used n).radio = s.radio := rfl
@[simp] theorem State.used_lock : (s.used n).lock = s.lock := rfl
@[simp] theorem State.used_latch : (s.used n).latch = s.latch := rfl
@[simp] theorem State.used_vehicle : (s.used n).vehicle = s.vehicle := rfl
@[simp] theorem State.used_inv : (s.used n).inv = s.inv := rfl
@[simp] theorem State.used_kaolin : (s.used n).kaolin = s.kaolin := rfl
@[simp] theorem State.used_cipher : (s.used n).cipher = s.cipher := rfl
@[simp] theorem State.used_sig : (s.used n).sig = s.sig := rfl
@[simp] theorem State.used_rng : (s.used n).rng = s.rng := rfl
@[simp] theorem State.used_net : (s.used n).net = s.net := rfl
@[simp] theorem State.used_bridge : (s.used n).bridge = s.bridge := rfl
@[simp] theorem State.used_ledger : (s.used n).ledger = s.ledger := rfl
@[simp] theorem State.used_power : (s.used n).power = s.power := rfl
@[simp] theorem State.used_platform : (s.used n).platform = s.platform := rfl
@[simp] theorem State.used_hardpan : (s.used n).hardpan = s.hardpan := rfl
@[simp] theorem State.used_logs : (s.used n).logs = s.logs := rfl
@[simp] theorem State.used_dict : (s.used n).dict = s.dict := rfl
@[simp] theorem State.used_credentials : (s.used n).credentials = s.credentials := rfl
@[simp] theorem State.used_hist1 : (s.used n).hist1 = s.hist1 := rfl
@[simp] theorem State.used_hist2 : (s.used n).hist2 = s.hist2 := rfl
@[simp] theorem State.used_pending : (s.used n).pending = s.pending := rfl
end

section
variable (s : State) (inst : Nat) (f : Generator → Generator)
@[simp] theorem State.setInstance_life : (s.setInstance inst f).life = s.life := rfl
@[simp] theorem State.setInstance_sealing : (s.setInstance inst f).sealing = s.sealing := rfl
@[simp] theorem State.setInstance_tilth : (s.setInstance inst f).tilth = s.tilth := rfl
@[simp] theorem State.setInstance_lf : (s.setInstance inst f).lf = s.lf := rfl
@[simp] theorem State.setInstance_badges : (s.setInstance inst f).badges = s.badges := rfl
@[simp] theorem State.setInstance_radio : (s.setInstance inst f).radio = s.radio := rfl
@[simp] theorem State.setInstance_lock : (s.setInstance inst f).lock = s.lock := rfl
@[simp] theorem State.setInstance_latch : (s.setInstance inst f).latch = s.latch := rfl
@[simp] theorem State.setInstance_vehicle : (s.setInstance inst f).vehicle = s.vehicle := rfl
@[simp] theorem State.setInstance_inv : (s.setInstance inst f).inv = s.inv := rfl
@[simp] theorem State.setInstance_kaolin : (s.setInstance inst f).kaolin = s.kaolin := rfl
@[simp] theorem State.setInstance_cipher : (s.setInstance inst f).cipher = s.cipher := rfl
@[simp] theorem State.setInstance_sig : (s.setInstance inst f).sig = s.sig := rfl
@[simp] theorem State.setInstance_net : (s.setInstance inst f).net = s.net := rfl
@[simp] theorem State.setInstance_bridge : (s.setInstance inst f).bridge = s.bridge := rfl
@[simp] theorem State.setInstance_ledger : (s.setInstance inst f).ledger = s.ledger := rfl
@[simp] theorem State.setInstance_power : (s.setInstance inst f).power = s.power := rfl
@[simp] theorem State.setInstance_platform : (s.setInstance inst f).platform = s.platform := rfl
@[simp] theorem State.setInstance_hardpan : (s.setInstance inst f).hardpan = s.hardpan := rfl
@[simp] theorem State.setInstance_logs : (s.setInstance inst f).logs = s.logs := rfl
@[simp] theorem State.setInstance_dict : (s.setInstance inst f).dict = s.dict := rfl
@[simp] theorem State.setInstance_credentials : (s.setInstance inst f).credentials = s.credentials := rfl
@[simp] theorem State.setInstance_hist1 : (s.setInstance inst f).hist1 = s.hist1 := rfl
@[simp] theorem State.setInstance_hist2 : (s.setInstance inst f).hist2 = s.hist2 := rfl
@[simp] theorem State.setInstance_free : (s.setInstance inst f).free = s.free := rfl
@[simp] theorem State.setInstance_pending : (s.setInstance inst f).pending = s.pending := rfl
end

section
variable (s : State) (d : Domain) (f : DomainCell → DomainCell)
@[simp] theorem State.setCell_life : (s.setCell d f).life = s.life := rfl
@[simp] theorem State.setCell_sealing : (s.setCell d f).sealing = s.sealing := rfl
@[simp] theorem State.setCell_tilth : (s.setCell d f).tilth = s.tilth := rfl
@[simp] theorem State.setCell_lf : (s.setCell d f).lf = s.lf := rfl
@[simp] theorem State.setCell_badges : (s.setCell d f).badges = s.badges := rfl
@[simp] theorem State.setCell_radio : (s.setCell d f).radio = s.radio := rfl
@[simp] theorem State.setCell_lock : (s.setCell d f).lock = s.lock := rfl
@[simp] theorem State.setCell_latch : (s.setCell d f).latch = s.latch := rfl
@[simp] theorem State.setCell_vehicle : (s.setCell d f).vehicle = s.vehicle := rfl
@[simp] theorem State.setCell_inv : (s.setCell d f).inv = s.inv := rfl
@[simp] theorem State.setCell_kaolin : (s.setCell d f).kaolin = s.kaolin := rfl
@[simp] theorem State.setCell_cipher : (s.setCell d f).cipher = s.cipher := rfl
@[simp] theorem State.setCell_sig : (s.setCell d f).sig = s.sig := rfl
@[simp] theorem State.setCell_rng : (s.setCell d f).rng = s.rng := rfl
@[simp] theorem State.setCell_net : (s.setCell d f).net = s.net := rfl
@[simp] theorem State.setCell_bridge : (s.setCell d f).bridge = s.bridge := rfl
@[simp] theorem State.setCell_ledger : (s.setCell d f).ledger = s.ledger := rfl
@[simp] theorem State.setCell_platform : (s.setCell d f).platform = s.platform := rfl
@[simp] theorem State.setCell_hardpan : (s.setCell d f).hardpan = s.hardpan := rfl
@[simp] theorem State.setCell_logs : (s.setCell d f).logs = s.logs := rfl
@[simp] theorem State.setCell_dict : (s.setCell d f).dict = s.dict := rfl
@[simp] theorem State.setCell_credentials : (s.setCell d f).credentials = s.credentials := rfl
@[simp] theorem State.setCell_hist1 : (s.setCell d f).hist1 = s.hist1 := rfl
@[simp] theorem State.setCell_hist2 : (s.setCell d f).hist2 = s.hist2 := rfl
@[simp] theorem State.setCell_free : (s.setCell d f).free = s.free := rfl
@[simp] theorem State.setCell_pending : (s.setCell d f).pending = s.pending := rfl
end

section
variable (s : State) (pt : Port) (f : CanPort → CanPort)
@[simp] theorem State.setPort_life : (s.setPort pt f).life = s.life := rfl
@[simp] theorem State.setPort_sealing : (s.setPort pt f).sealing = s.sealing := rfl
@[simp] theorem State.setPort_tilth : (s.setPort pt f).tilth = s.tilth := rfl
@[simp] theorem State.setPort_lf : (s.setPort pt f).lf = s.lf := rfl
@[simp] theorem State.setPort_badges : (s.setPort pt f).badges = s.badges := rfl
@[simp] theorem State.setPort_radio : (s.setPort pt f).radio = s.radio := rfl
@[simp] theorem State.setPort_lock : (s.setPort pt f).lock = s.lock := rfl
@[simp] theorem State.setPort_latch : (s.setPort pt f).latch = s.latch := rfl
@[simp] theorem State.setPort_vehicle : (s.setPort pt f).vehicle = s.vehicle := rfl
@[simp] theorem State.setPort_inv : (s.setPort pt f).inv = s.inv := rfl
@[simp] theorem State.setPort_kaolin : (s.setPort pt f).kaolin = s.kaolin := rfl
@[simp] theorem State.setPort_cipher : (s.setPort pt f).cipher = s.cipher := rfl
@[simp] theorem State.setPort_sig : (s.setPort pt f).sig = s.sig := rfl
@[simp] theorem State.setPort_rng : (s.setPort pt f).rng = s.rng := rfl
@[simp] theorem State.setPort_bridge : (s.setPort pt f).bridge = s.bridge := rfl
@[simp] theorem State.setPort_ledger : (s.setPort pt f).ledger = s.ledger := rfl
@[simp] theorem State.setPort_power : (s.setPort pt f).power = s.power := rfl
@[simp] theorem State.setPort_platform : (s.setPort pt f).platform = s.platform := rfl
@[simp] theorem State.setPort_hardpan : (s.setPort pt f).hardpan = s.hardpan := rfl
@[simp] theorem State.setPort_logs : (s.setPort pt f).logs = s.logs := rfl
@[simp] theorem State.setPort_dict : (s.setPort pt f).dict = s.dict := rfl
@[simp] theorem State.setPort_credentials : (s.setPort pt f).credentials = s.credentials := rfl
@[simp] theorem State.setPort_hist1 : (s.setPort pt f).hist1 = s.hist1 := rfl
@[simp] theorem State.setPort_hist2 : (s.setPort pt f).hist2 = s.hist2 := rfl
@[simp] theorem State.setPort_free : (s.setPort pt f).free = s.free := rfl
@[simp] theorem State.setPort_pending : (s.setPort pt f).pending = s.pending := rfl
end

section
variable (s : State) (v : Srv) (f : UsdoServer → UsdoServer)
@[simp] theorem State.setServer_life : (s.setServer v f).life = s.life := rfl
@[simp] theorem State.setServer_sealing : (s.setServer v f).sealing = s.sealing := rfl
@[simp] theorem State.setServer_tilth : (s.setServer v f).tilth = s.tilth := rfl
@[simp] theorem State.setServer_lf : (s.setServer v f).lf = s.lf := rfl
@[simp] theorem State.setServer_badges : (s.setServer v f).badges = s.badges := rfl
@[simp] theorem State.setServer_radio : (s.setServer v f).radio = s.radio := rfl
@[simp] theorem State.setServer_lock : (s.setServer v f).lock = s.lock := rfl
@[simp] theorem State.setServer_latch : (s.setServer v f).latch = s.latch := rfl
@[simp] theorem State.setServer_vehicle : (s.setServer v f).vehicle = s.vehicle := rfl
@[simp] theorem State.setServer_inv : (s.setServer v f).inv = s.inv := rfl
@[simp] theorem State.setServer_kaolin : (s.setServer v f).kaolin = s.kaolin := rfl
@[simp] theorem State.setServer_cipher : (s.setServer v f).cipher = s.cipher := rfl
@[simp] theorem State.setServer_sig : (s.setServer v f).sig = s.sig := rfl
@[simp] theorem State.setServer_rng : (s.setServer v f).rng = s.rng := rfl
@[simp] theorem State.setServer_bridge : (s.setServer v f).bridge = s.bridge := rfl
@[simp] theorem State.setServer_ledger : (s.setServer v f).ledger = s.ledger := rfl
@[simp] theorem State.setServer_power : (s.setServer v f).power = s.power := rfl
@[simp] theorem State.setServer_platform : (s.setServer v f).platform = s.platform := rfl
@[simp] theorem State.setServer_hardpan : (s.setServer v f).hardpan = s.hardpan := rfl
@[simp] theorem State.setServer_logs : (s.setServer v f).logs = s.logs := rfl
@[simp] theorem State.setServer_dict : (s.setServer v f).dict = s.dict := rfl
@[simp] theorem State.setServer_credentials : (s.setServer v f).credentials = s.credentials := rfl
@[simp] theorem State.setServer_hist1 : (s.setServer v f).hist1 = s.hist1 := rfl
@[simp] theorem State.setServer_hist2 : (s.setServer v f).hist2 = s.hist2 := rfl
@[simp] theorem State.setServer_free : (s.setServer v f).free = s.free := rfl
@[simp] theorem State.setServer_pending : (s.setServer v f).pending = s.pending := rfl
end

section
variable (s : State) (r : Bytes)
@[simp] theorem State.appendRaw_life : (s.appendRaw r).life = s.life := rfl
@[simp] theorem State.appendRaw_sealing : (s.appendRaw r).sealing = s.sealing := rfl
@[simp] theorem State.appendRaw_tilth : (s.appendRaw r).tilth = s.tilth := rfl
@[simp] theorem State.appendRaw_lf : (s.appendRaw r).lf = s.lf := rfl
@[simp] theorem State.appendRaw_badges : (s.appendRaw r).badges = s.badges := rfl
@[simp] theorem State.appendRaw_radio : (s.appendRaw r).radio = s.radio := rfl
@[simp] theorem State.appendRaw_lock : (s.appendRaw r).lock = s.lock := rfl
@[simp] theorem State.appendRaw_latch : (s.appendRaw r).latch = s.latch := rfl
@[simp] theorem State.appendRaw_vehicle : (s.appendRaw r).vehicle = s.vehicle := rfl
@[simp] theorem State.appendRaw_inv : (s.appendRaw r).inv = s.inv := rfl
@[simp] theorem State.appendRaw_kaolin : (s.appendRaw r).kaolin = s.kaolin := rfl
@[simp] theorem State.appendRaw_cipher : (s.appendRaw r).cipher = s.cipher := rfl
@[simp] theorem State.appendRaw_sig : (s.appendRaw r).sig = s.sig := rfl
@[simp] theorem State.appendRaw_rng : (s.appendRaw r).rng = s.rng := rfl
@[simp] theorem State.appendRaw_net : (s.appendRaw r).net = s.net := rfl
@[simp] theorem State.appendRaw_bridge : (s.appendRaw r).bridge = s.bridge := rfl
@[simp] theorem State.appendRaw_power : (s.appendRaw r).power = s.power := rfl
@[simp] theorem State.appendRaw_platform : (s.appendRaw r).platform = s.platform := rfl
@[simp] theorem State.appendRaw_hardpan : (s.appendRaw r).hardpan = s.hardpan := rfl
@[simp] theorem State.appendRaw_logs : (s.appendRaw r).logs = s.logs := rfl
@[simp] theorem State.appendRaw_dict : (s.appendRaw r).dict = s.dict := rfl
@[simp] theorem State.appendRaw_credentials : (s.appendRaw r).credentials = s.credentials := rfl
@[simp] theorem State.appendRaw_hist1 : (s.appendRaw r).hist1 = s.hist1 := rfl
@[simp] theorem State.appendRaw_hist2 : (s.appendRaw r).hist2 = s.hist2 := rfl
@[simp] theorem State.appendRaw_free : (s.appendRaw r).free = s.free := rfl
@[simp] theorem State.appendRaw_pending : (s.appendRaw r).pending = s.pending := rfl
end

section
variable (s : State) (code : Code) (subject : Nat) (data : Bytes) (carried emcy : Bool)
@[simp] theorem State.logWith_life : (s.logWith code subject data carried emcy).life = s.life := rfl
@[simp] theorem State.logWith_sealing : (s.logWith code subject data carried emcy).sealing = s.sealing := rfl
@[simp] theorem State.logWith_tilth : (s.logWith code subject data carried emcy).tilth = s.tilth := rfl
@[simp] theorem State.logWith_lf : (s.logWith code subject data carried emcy).lf = s.lf := rfl
@[simp] theorem State.logWith_badges : (s.logWith code subject data carried emcy).badges = s.badges := rfl
@[simp] theorem State.logWith_radio : (s.logWith code subject data carried emcy).radio = s.radio := rfl
@[simp] theorem State.logWith_lock : (s.logWith code subject data carried emcy).lock = s.lock := rfl
@[simp] theorem State.logWith_latch : (s.logWith code subject data carried emcy).latch = s.latch := rfl
@[simp] theorem State.logWith_vehicle : (s.logWith code subject data carried emcy).vehicle = s.vehicle := rfl
@[simp] theorem State.logWith_inv : (s.logWith code subject data carried emcy).inv = s.inv := rfl
@[simp] theorem State.logWith_kaolin : (s.logWith code subject data carried emcy).kaolin = s.kaolin := rfl
@[simp] theorem State.logWith_cipher : (s.logWith code subject data carried emcy).cipher = s.cipher := rfl
@[simp] theorem State.logWith_sig : (s.logWith code subject data carried emcy).sig = s.sig := rfl
@[simp] theorem State.logWith_rng : (s.logWith code subject data carried emcy).rng = s.rng := rfl
@[simp] theorem State.logWith_net : (s.logWith code subject data carried emcy).net = s.net := rfl
@[simp] theorem State.logWith_bridge : (s.logWith code subject data carried emcy).bridge = s.bridge := rfl
@[simp] theorem State.logWith_power : (s.logWith code subject data carried emcy).power = s.power := rfl
@[simp] theorem State.logWith_platform : (s.logWith code subject data carried emcy).platform = s.platform := rfl
@[simp] theorem State.logWith_hardpan : (s.logWith code subject data carried emcy).hardpan = s.hardpan := rfl
@[simp] theorem State.logWith_dict : (s.logWith code subject data carried emcy).dict = s.dict := rfl
@[simp] theorem State.logWith_credentials : (s.logWith code subject data carried emcy).credentials = s.credentials := rfl
@[simp] theorem State.logWith_hist1 : (s.logWith code subject data carried emcy).hist1 = s.hist1 := rfl
@[simp] theorem State.logWith_hist2 : (s.logWith code subject data carried emcy).hist2 = s.hist2 := rfl
@[simp] theorem State.logWith_free : (s.logWith code subject data carried emcy).free = s.free := rfl
@[simp] theorem State.logWith_pending : (s.logWith code subject data carried emcy).pending = s.pending := rfl
end

section
variable (s : State) (code : Code) (subject : Nat) (data : Bytes)
@[simp] theorem State.event_life : (s.event code subject data).life = s.life := rfl
@[simp] theorem State.event_sealing : (s.event code subject data).sealing = s.sealing := rfl
@[simp] theorem State.event_tilth : (s.event code subject data).tilth = s.tilth := rfl
@[simp] theorem State.event_lf : (s.event code subject data).lf = s.lf := rfl
@[simp] theorem State.event_badges : (s.event code subject data).badges = s.badges := rfl
@[simp] theorem State.event_radio : (s.event code subject data).radio = s.radio := rfl
@[simp] theorem State.event_lock : (s.event code subject data).lock = s.lock := rfl
@[simp] theorem State.event_latch : (s.event code subject data).latch = s.latch := rfl
@[simp] theorem State.event_vehicle : (s.event code subject data).vehicle = s.vehicle := rfl
@[simp] theorem State.event_inv : (s.event code subject data).inv = s.inv := rfl
@[simp] theorem State.event_kaolin : (s.event code subject data).kaolin = s.kaolin := rfl
@[simp] theorem State.event_cipher : (s.event code subject data).cipher = s.cipher := rfl
@[simp] theorem State.event_sig : (s.event code subject data).sig = s.sig := rfl
@[simp] theorem State.event_rng : (s.event code subject data).rng = s.rng := rfl
@[simp] theorem State.event_net : (s.event code subject data).net = s.net := rfl
@[simp] theorem State.event_bridge : (s.event code subject data).bridge = s.bridge := rfl
@[simp] theorem State.event_power : (s.event code subject data).power = s.power := rfl
@[simp] theorem State.event_platform : (s.event code subject data).platform = s.platform := rfl
@[simp] theorem State.event_hardpan : (s.event code subject data).hardpan = s.hardpan := rfl
@[simp] theorem State.event_dict : (s.event code subject data).dict = s.dict := rfl
@[simp] theorem State.event_credentials : (s.event code subject data).credentials = s.credentials := rfl
@[simp] theorem State.event_hist1 : (s.event code subject data).hist1 = s.hist1 := rfl
@[simp] theorem State.event_hist2 : (s.event code subject data).hist2 = s.hist2 := rfl
@[simp] theorem State.event_free : (s.event code subject data).free = s.free := rfl
@[simp] theorem State.event_pending : (s.event code subject data).pending = s.pending := rfl
end

section
variable (s : State) (cls detector : Nat) (code : Code) (slot engine : Nat) (detail : Bytes)
@[simp] theorem State.logFault_life : (s.logFault cls detector code slot engine detail).life = s.life := rfl
@[simp] theorem State.logFault_sealing : (s.logFault cls detector code slot engine detail).sealing = s.sealing := rfl
@[simp] theorem State.logFault_tilth : (s.logFault cls detector code slot engine detail).tilth = s.tilth := rfl
@[simp] theorem State.logFault_lf : (s.logFault cls detector code slot engine detail).lf = s.lf := rfl
@[simp] theorem State.logFault_badges : (s.logFault cls detector code slot engine detail).badges = s.badges := rfl
@[simp] theorem State.logFault_radio : (s.logFault cls detector code slot engine detail).radio = s.radio := rfl
@[simp] theorem State.logFault_lock : (s.logFault cls detector code slot engine detail).lock = s.lock := rfl
@[simp] theorem State.logFault_latch : (s.logFault cls detector code slot engine detail).latch = s.latch := rfl
@[simp] theorem State.logFault_vehicle : (s.logFault cls detector code slot engine detail).vehicle = s.vehicle := rfl
@[simp] theorem State.logFault_inv : (s.logFault cls detector code slot engine detail).inv = s.inv := rfl
@[simp] theorem State.logFault_kaolin : (s.logFault cls detector code slot engine detail).kaolin = s.kaolin := rfl
@[simp] theorem State.logFault_cipher : (s.logFault cls detector code slot engine detail).cipher = s.cipher := rfl
@[simp] theorem State.logFault_sig : (s.logFault cls detector code slot engine detail).sig = s.sig := rfl
@[simp] theorem State.logFault_rng : (s.logFault cls detector code slot engine detail).rng = s.rng := rfl
@[simp] theorem State.logFault_net : (s.logFault cls detector code slot engine detail).net = s.net := rfl
@[simp] theorem State.logFault_bridge : (s.logFault cls detector code slot engine detail).bridge = s.bridge := rfl
@[simp] theorem State.logFault_ledger : (s.logFault cls detector code slot engine detail).ledger = s.ledger := rfl
@[simp] theorem State.logFault_power : (s.logFault cls detector code slot engine detail).power = s.power := rfl
@[simp] theorem State.logFault_platform : (s.logFault cls detector code slot engine detail).platform = s.platform := rfl
@[simp] theorem State.logFault_hardpan : (s.logFault cls detector code slot engine detail).hardpan = s.hardpan := rfl
@[simp] theorem State.logFault_dict : (s.logFault cls detector code slot engine detail).dict = s.dict := rfl
@[simp] theorem State.logFault_credentials : (s.logFault cls detector code slot engine detail).credentials = s.credentials := rfl
@[simp] theorem State.logFault_hist1 : (s.logFault cls detector code slot engine detail).hist1 = s.hist1 := rfl
@[simp] theorem State.logFault_hist2 : (s.logFault cls detector code slot engine detail).hist2 = s.hist2 := rfl
@[simp] theorem State.logFault_free : (s.logFault cls detector code slot engine detail).free = s.free := rfl
@[simp] theorem State.logFault_pending : (s.logFault cls detector code slot engine detail).pending = s.pending := rfl
end

section
variable (s : State) (n : Nat) (f : Slot → Slot)
@[simp] theorem State.setSlot_life : (s.setSlot n f).life = s.life := rfl
@[simp] theorem State.setSlot_sealing : (s.setSlot n f).sealing = s.sealing := rfl
@[simp] theorem State.setSlot_lf : (s.setSlot n f).lf = s.lf := rfl
@[simp] theorem State.setSlot_badges : (s.setSlot n f).badges = s.badges := rfl
@[simp] theorem State.setSlot_radio : (s.setSlot n f).radio = s.radio := rfl
@[simp] theorem State.setSlot_lock : (s.setSlot n f).lock = s.lock := rfl
@[simp] theorem State.setSlot_latch : (s.setSlot n f).latch = s.latch := rfl
@[simp] theorem State.setSlot_vehicle : (s.setSlot n f).vehicle = s.vehicle := rfl
@[simp] theorem State.setSlot_inv : (s.setSlot n f).inv = s.inv := rfl
@[simp] theorem State.setSlot_kaolin : (s.setSlot n f).kaolin = s.kaolin := rfl
@[simp] theorem State.setSlot_cipher : (s.setSlot n f).cipher = s.cipher := rfl
@[simp] theorem State.setSlot_sig : (s.setSlot n f).sig = s.sig := rfl
@[simp] theorem State.setSlot_rng : (s.setSlot n f).rng = s.rng := rfl
@[simp] theorem State.setSlot_net : (s.setSlot n f).net = s.net := rfl
@[simp] theorem State.setSlot_bridge : (s.setSlot n f).bridge = s.bridge := rfl
@[simp] theorem State.setSlot_ledger : (s.setSlot n f).ledger = s.ledger := rfl
@[simp] theorem State.setSlot_power : (s.setSlot n f).power = s.power := rfl
@[simp] theorem State.setSlot_platform : (s.setSlot n f).platform = s.platform := rfl
@[simp] theorem State.setSlot_hardpan : (s.setSlot n f).hardpan = s.hardpan := rfl
@[simp] theorem State.setSlot_logs : (s.setSlot n f).logs = s.logs := rfl
@[simp] theorem State.setSlot_dict : (s.setSlot n f).dict = s.dict := rfl
@[simp] theorem State.setSlot_credentials : (s.setSlot n f).credentials = s.credentials := rfl
@[simp] theorem State.setSlot_hist1 : (s.setSlot n f).hist1 = s.hist1 := rfl
@[simp] theorem State.setSlot_hist2 : (s.setSlot n f).hist2 = s.hist2 := rfl
@[simp] theorem State.setSlot_free : (s.setSlot n f).free = s.free := rfl
@[simp] theorem State.setSlot_pending : (s.setSlot n f).pending = s.pending := rfl
end

section
variable (s : State) (ns : List Nat)
@[simp] theorem State.releaseHolds_life : (s.releaseHolds ns).life = s.life := rfl
@[simp] theorem State.releaseHolds_sealing : (s.releaseHolds ns).sealing = s.sealing := rfl
@[simp] theorem State.releaseHolds_tilth : (s.releaseHolds ns).tilth = s.tilth := rfl
@[simp] theorem State.releaseHolds_badges : (s.releaseHolds ns).badges = s.badges := rfl
@[simp] theorem State.releaseHolds_lock : (s.releaseHolds ns).lock = s.lock := rfl
@[simp] theorem State.releaseHolds_latch : (s.releaseHolds ns).latch = s.latch := rfl
@[simp] theorem State.releaseHolds_vehicle : (s.releaseHolds ns).vehicle = s.vehicle := rfl
@[simp] theorem State.releaseHolds_inv : (s.releaseHolds ns).inv = s.inv := rfl
@[simp] theorem State.releaseHolds_kaolin : (s.releaseHolds ns).kaolin = s.kaolin := rfl
@[simp] theorem State.releaseHolds_sig : (s.releaseHolds ns).sig = s.sig := rfl
@[simp] theorem State.releaseHolds_net : (s.releaseHolds ns).net = s.net := rfl
@[simp] theorem State.releaseHolds_ledger : (s.releaseHolds ns).ledger = s.ledger := rfl
@[simp] theorem State.releaseHolds_power : (s.releaseHolds ns).power = s.power := rfl
@[simp] theorem State.releaseHolds_platform : (s.releaseHolds ns).platform = s.platform := rfl
@[simp] theorem State.releaseHolds_hardpan : (s.releaseHolds ns).hardpan = s.hardpan := rfl
@[simp] theorem State.releaseHolds_logs : (s.releaseHolds ns).logs = s.logs := rfl
@[simp] theorem State.releaseHolds_dict : (s.releaseHolds ns).dict = s.dict := rfl
@[simp] theorem State.releaseHolds_credentials : (s.releaseHolds ns).credentials = s.credentials := rfl
@[simp] theorem State.releaseHolds_hist1 : (s.releaseHolds ns).hist1 = s.hist1 := rfl
@[simp] theorem State.releaseHolds_hist2 : (s.releaseHolds ns).hist2 = s.hist2 := rfl
@[simp] theorem State.releaseHolds_free : (s.releaseHolds ns).free = s.free := rfl
@[simp] theorem State.releaseHolds_pending : (s.releaseHolds ns).pending = s.pending := rfl
end

section
variable (s : State) (n : Nat) (c : Code)
@[simp] theorem State.endSession_life : (s.endSession n c).life = s.life := rfl
@[simp] theorem State.endSession_sealing : (s.endSession n c).sealing = s.sealing := rfl
@[simp] theorem State.endSession_badges : (s.endSession n c).badges = s.badges := rfl
@[simp] theorem State.endSession_lock : (s.endSession n c).lock = s.lock := rfl
@[simp] theorem State.endSession_latch : (s.endSession n c).latch = s.latch := rfl
@[simp] theorem State.endSession_vehicle : (s.endSession n c).vehicle = s.vehicle := rfl
@[simp] theorem State.endSession_inv : (s.endSession n c).inv = s.inv := rfl
@[simp] theorem State.endSession_kaolin : (s.endSession n c).kaolin = s.kaolin := rfl
@[simp] theorem State.endSession_sig : (s.endSession n c).sig = s.sig := rfl
@[simp] theorem State.endSession_net : (s.endSession n c).net = s.net := rfl
@[simp] theorem State.endSession_ledger : (s.endSession n c).ledger = s.ledger := rfl
@[simp] theorem State.endSession_power : (s.endSession n c).power = s.power := rfl
@[simp] theorem State.endSession_platform : (s.endSession n c).platform = s.platform := rfl
@[simp] theorem State.endSession_hardpan : (s.endSession n c).hardpan = s.hardpan := rfl
@[simp] theorem State.endSession_logs : (s.endSession n c).logs = s.logs := rfl
@[simp] theorem State.endSession_dict : (s.endSession n c).dict = s.dict := rfl
@[simp] theorem State.endSession_credentials : (s.endSession n c).credentials = s.credentials := rfl
@[simp] theorem State.endSession_hist1 : (s.endSession n c).hist1 = s.hist1 := rfl
@[simp] theorem State.endSession_hist2 : (s.endSession n c).hist2 = s.hist2 := rfl
@[simp] theorem State.endSession_free : (s.endSession n c).free = s.free := rfl
@[simp] theorem State.endSession_pending : (s.endSession n c).pending = s.pending := rfl
end

section
variable (s : State) (i : Nat) (r : Bytes)
@[simp] theorem State.putCredential_life : (s.putCredential i r).life = s.life := rfl
@[simp] theorem State.putCredential_sealing : (s.putCredential i r).sealing = s.sealing := rfl
@[simp] theorem State.putCredential_tilth : (s.putCredential i r).tilth = s.tilth := rfl
@[simp] theorem State.putCredential_lf : (s.putCredential i r).lf = s.lf := rfl
@[simp] theorem State.putCredential_badges : (s.putCredential i r).badges = s.badges := rfl
@[simp] theorem State.putCredential_radio : (s.putCredential i r).radio = s.radio := rfl
@[simp] theorem State.putCredential_lock : (s.putCredential i r).lock = s.lock := rfl
@[simp] theorem State.putCredential_latch : (s.putCredential i r).latch = s.latch := rfl
@[simp] theorem State.putCredential_vehicle : (s.putCredential i r).vehicle = s.vehicle := rfl
@[simp] theorem State.putCredential_inv : (s.putCredential i r).inv = s.inv := rfl
@[simp] theorem State.putCredential_kaolin : (s.putCredential i r).kaolin = s.kaolin := rfl
@[simp] theorem State.putCredential_cipher : (s.putCredential i r).cipher = s.cipher := rfl
@[simp] theorem State.putCredential_sig : (s.putCredential i r).sig = s.sig := rfl
@[simp] theorem State.putCredential_rng : (s.putCredential i r).rng = s.rng := rfl
@[simp] theorem State.putCredential_net : (s.putCredential i r).net = s.net := rfl
@[simp] theorem State.putCredential_bridge : (s.putCredential i r).bridge = s.bridge := rfl
@[simp] theorem State.putCredential_ledger : (s.putCredential i r).ledger = s.ledger := rfl
@[simp] theorem State.putCredential_power : (s.putCredential i r).power = s.power := rfl
@[simp] theorem State.putCredential_platform : (s.putCredential i r).platform = s.platform := rfl
@[simp] theorem State.putCredential_hardpan : (s.putCredential i r).hardpan = s.hardpan := rfl
@[simp] theorem State.putCredential_logs : (s.putCredential i r).logs = s.logs := rfl
@[simp] theorem State.putCredential_dict : (s.putCredential i r).dict = s.dict := rfl
@[simp] theorem State.putCredential_hist1 : (s.putCredential i r).hist1 = s.hist1 := rfl
@[simp] theorem State.putCredential_hist2 : (s.putCredential i r).hist2 = s.hist2 := rfl
@[simp] theorem State.putCredential_free : (s.putCredential i r).free = s.free := rfl
@[simp] theorem State.putCredential_pending : (s.putCredential i r).pending = s.pending := rfl
end

section
variable (s : State) (l : Lock)
@[simp] theorem State.withLock_life : (s.withLock l).life = s.life := rfl
@[simp] theorem State.withLock_sealing : (s.withLock l).sealing = s.sealing := rfl
@[simp] theorem State.withLock_tilth : (s.withLock l).tilth = s.tilth := rfl
@[simp] theorem State.withLock_lf : (s.withLock l).lf = s.lf := rfl
@[simp] theorem State.withLock_badges : (s.withLock l).badges = s.badges := rfl
@[simp] theorem State.withLock_radio : (s.withLock l).radio = s.radio := rfl
@[simp] theorem State.withLock_latch : (s.withLock l).latch = s.latch := rfl
@[simp] theorem State.withLock_vehicle : (s.withLock l).vehicle = s.vehicle := rfl
@[simp] theorem State.withLock_inv : (s.withLock l).inv = s.inv := rfl
@[simp] theorem State.withLock_kaolin : (s.withLock l).kaolin = s.kaolin := rfl
@[simp] theorem State.withLock_cipher : (s.withLock l).cipher = s.cipher := rfl
@[simp] theorem State.withLock_sig : (s.withLock l).sig = s.sig := rfl
@[simp] theorem State.withLock_rng : (s.withLock l).rng = s.rng := rfl
@[simp] theorem State.withLock_net : (s.withLock l).net = s.net := rfl
@[simp] theorem State.withLock_bridge : (s.withLock l).bridge = s.bridge := rfl
@[simp] theorem State.withLock_ledger : (s.withLock l).ledger = s.ledger := rfl
@[simp] theorem State.withLock_power : (s.withLock l).power = s.power := rfl
@[simp] theorem State.withLock_platform : (s.withLock l).platform = s.platform := rfl
@[simp] theorem State.withLock_hardpan : (s.withLock l).hardpan = s.hardpan := rfl
@[simp] theorem State.withLock_logs : (s.withLock l).logs = s.logs := rfl
@[simp] theorem State.withLock_dict : (s.withLock l).dict = s.dict := rfl
@[simp] theorem State.withLock_credentials : (s.withLock l).credentials = s.credentials := rfl
@[simp] theorem State.withLock_hist1 : (s.withLock l).hist1 = s.hist1 := rfl
@[simp] theorem State.withLock_hist2 : (s.withLock l).hist2 = s.hist2 := rfl
@[simp] theorem State.withLock_free : (s.withLock l).free = s.free := rfl
@[simp] theorem State.withLock_pending : (s.withLock l).pending = s.pending := rfl
end

/-! ## What each basic update sets -/

@[simp] theorem State.put_dict (s : State) (idx sub : Nat) (v : Bytes) : (s.put idx sub v).dict = dictPut s.dict (entryKey idx sub) v := rfl
@[simp] theorem State.used_free (s : State) (n : Nat) : (s.used n).free = s.free + n := rfl
@[simp] theorem State.withLock_lock (s : State) (l : Lock) : (s.withLock l).lock = l := rfl
theorem State.logWith_logs (s : State) (code : Code) (subject : Nat) (data : Bytes) (carried emcy : Bool) :
    (s.logWith code subject data carried emcy).logs = s.logs.enter (s.eventEntry code subject (s.eventFlags code carried emcy) data) := rfl

end Sys2Proof.Machine
end

