-- ==== Sys2Proof/Laws/Store.lean ====
section
/-! SUPPORT. The stores: what a read gives after a write, and that every store operation keeps the canonical form. -/

namespace Sys2Proof.Machine

section
variable {α : Type}

theorem lookup_insert_self (k : Nat) (v : α) (l : List (Nat × α)) : lookup k (insert k v l) = some v := by
  induction l with
  | nil => simp [insert, lookup]
  | cons e l ih =>
    obtain ⟨k', v'⟩ := e
    simp only [insert]
    split
    · simp [lookup]
    · split
      · simp [lookup]
      · simp only [lookup, ih, ite_eq_right_iff]; omega

theorem lookup_insert_ne {k j : Nat} (h : j ≠ k) (v : α) (l : List (Nat × α)) : lookup j (insert k v l) = lookup j l := by
  induction l with
  | nil => simp [insert, lookup]; omega
  | cons e l ih =>
    obtain ⟨k', v'⟩ := e
    simp only [insert]
    split
    · simp only [lookup, ite_eq_right_iff]; omega
    · split
      · have hk : ¬k' = j := by omega
        have hj : ¬k = j := by omega
        simp only [lookup, if_neg hk, if_neg hj]
      · simp only [lookup, ih]

theorem lookup_erase_self (k : Nat) (l : List (Nat × α)) : lookup k (erase k l) = none := by
  induction l with
  | nil => rfl
  | cons e l ih =>
    by_cases h : e.1 = k <;> simp_all [erase, lookup]

theorem lookup_erase_ne {k j : Nat} (h : j ≠ k) (l : List (Nat × α)) : lookup j (erase k l) = lookup j l := by
  induction l with
  | nil => rfl
  | cons e l ih =>
    by_cases hk : e.1 = k
    · have : e.1 ≠ j := fun h' => h (h' ▸ hk)
      simp_all [erase, lookup]
    · by_cases hj : e.1 = j <;> simp_all [erase, lookup]

theorem keysRise_filter {l : List (Nat × α)} (h : keysRise l) (p : Nat × α → Bool) : keysRise (l.filter p) := List.Pairwise.filter p h

theorem keysRise_erase {l : List (Nat × α)} (h : keysRise l) (k : Nat) : keysRise (erase k l) := keysRise_filter h _

theorem mem_insert {k : Nat} {v : α} {e : Nat × α} {l : List (Nat × α)} (h : e ∈ insert k v l) : e = (k, v) ∨ e ∈ l := by
  induction l with
  | nil => simpa [insert] using h
  | cons x l ih =>
    simp only [insert] at h
    split at h
    · simpa using h
    · split at h
      · rcases List.mem_cons.1 h with h | h
        · exact .inl h
        · exact .inr (List.mem_cons_of_mem _ h)
      · rcases List.mem_cons.1 h with h | h
        · exact .inr (h ▸ List.mem_cons_self)
        · exact (ih h).imp_right (List.mem_cons_of_mem _)

theorem keysRise_insert {l : List (Nat × α)} (h : keysRise l) (k : Nat) (v : α) : keysRise (insert k v l) := by
  induction l with
  | nil => simp [insert, keysRise]
  | cons e l ih =>
    obtain ⟨k', v'⟩ := e
    have h' := List.pairwise_cons.1 h
    simp only [insert]
    split
    · rename_i hk
      refine List.pairwise_cons.2 ⟨fun a ha => ?_, h⟩
      rcases List.mem_cons.1 ha with rfl | ha
      · exact hk
      · exact Nat.lt_trans hk (h'.1 a ha)
    · split
      · rename_i hk
        exact List.pairwise_cons.2 ⟨fun a ha => hk ▸ h'.1 a ha, h'.2⟩
      · refine List.pairwise_cons.2 ⟨fun a ha => ?_, ih h'.2⟩
        rcases mem_insert ha with rfl | ha
        · show k' < k; omega
        · exact h'.1 a ha

end

/-! ## Dictionary values -/

/-- Reading an entry after storing it gives the value stored. -/
@[simp] theorem State.bytes_put (s : State) (idx sub : Nat) (v : Bytes) : (s.put idx sub v).bytes idx sub = v := by
  simp only [State.bytes, State.put, dictPut]
  split
  · rw [lookup_erase_self, Option.getD_none]; simp_all
  · rw [lookup_insert_self, Option.getD_some]

/-- Storing an entry leaves every other key as it was. -/
theorem State.lookup_put {k : Nat} (s : State) (idx sub : Nat) (v : Bytes) (h : k ≠ entryKey idx sub) :
    lookup k (s.put idx sub v).dict = lookup k s.dict := by
  simp only [State.put, dictPut]
  split
  · exact lookup_erase_ne h _
  · exact lookup_insert_ne h _ _

/-- Storing an entry leaves every other entry as it was. -/
theorem State.bytes_put_ne {i j : Nat} (s : State) (idx sub : Nat) (v : Bytes) (h : entryKey i j ≠ entryKey idx sub) :
    (s.put idx sub v).bytes i j = s.bytes i j := by
  simp only [State.bytes, State.lookup_put s idx sub v h]

/-- The object of an entry's key. -/
theorem entryKey_div (idx sub : Nat) : entryKey idx sub / 256 = idx := by unfold entryKey; omega

/-! ## The canonical form -/

/-- Storing an entry keeps the canonical form. -/
theorem Canonical.put {s : State} (h : Canonical s) (idx sub : Nat) (v : Bytes) : Canonical (s.put idx sub v) := by
  refine ⟨?_, ?_, h.2.2.1, h.2.2.2⟩
  · simp only [State.put, dictPut]
    split
    · exact keysRise_erase h.1 _
    · exact keysRise_insert h.1 _ _
  · simp only [State.put, dictPut]
    split
    · exact fun e he => h.2.1 e (List.mem_filter.1 he).1
    · intro e he
      rcases mem_insert he with rfl | he
      · assumption
      · exact h.2.1 e he

/-- Storing a credential record keeps the canonical form. -/
theorem Canonical.putCredential {s : State} (h : Canonical s) (i : Nat) (r : Bytes) : Canonical (s.putCredential i r) := by
  refine ⟨h.1, h.2.1, ?_, ?_⟩
  · simp only [State.putCredential]
    split
    · exact keysRise_erase h.2.2.1 _
    · exact keysRise_insert h.2.2.1 _ _
  · simp only [State.putCredential]
    split
    · exact fun e he => h.2.2.2 e (List.mem_filter.1 he).1
    · intro e he
      rcases mem_insert he with rfl | he
      · simp_all
      · exact h.2.2.2 e he

/-- The canonical form is one of the two stores alone. -/
theorem Canonical.congr {s t : State} (h : Canonical s) (hd : t.dict = s.dict) (hc : t.credentials = s.credentials) : Canonical t := by
  unfold Canonical; rw [hd, hc]; exact h

/-- A dictionary with entries taken out keeps the canonical form. -/
theorem Canonical.filter {s t : State} (h : Canonical s) (p q : Nat × Bytes → Bool) (hd : t.dict = s.dict.filter p)
    (hc : t.credentials = s.credentials.filter q) : Canonical t := by
  unfold Canonical; rw [hd, hc]
  exact ⟨keysRise_filter h.1 _, fun e he => h.2.1 e (List.mem_filter.1 he).1, keysRise_filter h.2.2.1 _,
    fun e he => h.2.2.2 e (List.mem_filter.1 he).1⟩

end Sys2Proof.Machine
end

