-- ==== Sys2Proof/Laws/Frame.lean ====
section
/-! SUPPORT. How frames compose: `Only`, `OnlyObjects` and `Within` along a chain of operations, and what each shared operation
stays within. A proof of a frame cites the lemma of each operation a meaning runs and never unfolds one. -/

namespace Sys2Proof.Machine

variable {ps qs : List Part} {os xs : List Nat} {s t u : State}

/-! ## Composition -/

theorem State.same_refl (s : State) (p : Part) : s.same s p := by cases p <;> rfl

theorem State.same_trans {p : Part} (h : s.same t p) (k : t.same u p) : s.same u p := by cases p <;> exact Eq.trans k h

theorem Only.refl (ps : List Part) (s : State) : Only ps s s := fun p => .inr (s.same_refl p)

theorem Only.trans (h : Only ps s t) (k : Only ps t u) : Only ps s u := fun p =>
  (h p).elim .inl fun a => (k p).imp_right fun b => State.same_trans a b

theorem Only.mono (h : Only ps s t) (hs : ∀ p ∈ ps, p ∈ qs) : Only qs s t := fun p => (h p).imp_left (hs p)

/-- A part outside the frame is the same. -/
theorem Only.get (h : Only ps s t) (p : Part) (hp : p ∉ ps) : s.same t p := (h p).resolve_left hp

theorem OnlyObjects.refl (os : List Nat) (s : State) : OnlyObjects os s s := fun _ => .inr rfl

theorem OnlyObjects.trans (h : OnlyObjects os s t) (k : OnlyObjects os t u) : OnlyObjects os s u := fun key =>
  (h key).elim .inl fun a => (k key).imp_right fun b => b.trans a

theorem OnlyObjects.mono (h : OnlyObjects os s t) (hs : ∀ o ∈ os, o ∈ xs) : OnlyObjects xs s t := fun k => (h k).imp_left (hs _)

theorem OnlyObjects.of_dict (h : t.dict = s.dict) : OnlyObjects os s t := fun _ => .inr (by rw [h])

/-- An entry of an object outside the frame reads as before. -/
theorem OnlyObjects.bytes (h : OnlyObjects os s t) (idx sub : Nat) (hi : idx ∉ os) : t.bytes idx sub = s.bytes idx sub := by
  have := (h (entryKey idx sub)).resolve_left (by rwa [entryKey_div])
  simp only [State.bytes, this]

theorem Within.refl (ps : List Part) (os : List Nat) (s : State) : Within ps os s s := ⟨.refl _ _, .refl _ _⟩

theorem Within.trans (h : Within ps os s t) (k : Within ps os t u) : Within ps os s u := ⟨h.1.trans k.1, h.2.trans k.2⟩

theorem Within.mono (h : Within ps os s t) (hp : ∀ p ∈ ps, p ∈ qs) (ho : ∀ o ∈ os, o ∈ xs) : Within qs xs s t :=
  ⟨h.1.mono hp, h.2.mono ho⟩

/-- One more operation at the end of a chain, whose frame lies in the chain's. -/
theorem Within.step (k : Within qs xs t u) (h : Within ps os s t) (hp : ∀ p ∈ qs, p ∈ ps) (ho : ∀ o ∈ xs, o ∈ os) :
    Within ps os s u := h.trans (k.mono hp ho)

theorem Within.of_only (h : Only ps s t) (hd : t.dict = s.dict) : Within ps os s t := ⟨h, .of_dict hd⟩

theorem Within.foldl {α : Type} {f : State → α → State} (h : ∀ u x, Within ps os u (f u x)) (l : List α) (s : State) :
    Within ps os s (l.foldl f s) := by
  induction l generalizing s with
  | nil => exact .refl _ _ _
  | cons x l ih => exact (h s x).trans (ih _)

theorem Within.ite {c : Prop} [Decidable c] (h : Within ps os s t) (k : Within ps os s u) :
    Within ps os s (if c then t else u) := by split <;> assumption

/-! ## The basic updates -/

theorem State.put_within (s : State) (idx sub : Nat) (v : Bytes) : Within [.dict] [idx] s (s.put idx sub v) := by
  refine ⟨fun p => ?_, fun k => ?_⟩
  · cases p <;> first | exact .inr rfl | exact .inl (by decide)
  · by_cases h : k = entryKey idx sub
    · exact .inl (by rw [h, entryKey_div]; exact List.mem_singleton_self _)
    · exact .inr (s.lookup_put idx sub v h)

theorem State.putNum_within (s : State) (idx sub n : Nat) : Within [.dict] [idx] s (s.putNum idx sub n) := s.put_within _ _ _
theorem State.putInt_within (s : State) (idx sub : Nat) (n : Int) : Within [.dict] [idx] s (s.putInt idx sub n) := s.put_within _ _ _
theorem State.putCode_within (s : State) (idx sub : Nat) (c : Code) : Within [.dict] [idx] s (s.putCode idx sub c) := s.put_within _ _ _
theorem State.count_within (s : State) (idx sub n : Nat) : Within [.dict] [idx] s (s.count idx sub n) := s.put_within _ _ _
theorem State.bump_within (s : State) (idx sub : Nat) : Within [.dict] [idx] s (s.bump idx sub) := s.put_within _ _ _

theorem State.used_within (s : State) (n : Nat) : Within [.free] [] s (s.used n) :=
  .of_only (fun p => by cases p <;> first | exact .inr rfl | exact .inl (by decide)) rfl
theorem State.setInstance_within (s : State) (i : Nat) (f : Generator → Generator) : Within [.rng] [] s (s.setInstance i f) :=
  .of_only (fun p => by cases p <;> first | exact .inr rfl | exact .inl (by decide)) rfl
theorem State.setCell_within (s : State) (d : Domain) (f : DomainCell → DomainCell) : Within [.power] [] s (s.setCell d f) :=
  .of_only (fun p => by cases p <;> first | exact .inr rfl | exact .inl (by decide)) rfl
theorem State.setPort_within (s : State) (pt : Port) (f : CanPort → CanPort) : Within [.net] [] s (s.setPort pt f) :=
  .of_only (fun p => by cases p <;> first | exact .inr rfl | exact .inl (by decide)) rfl
theorem State.setServer_within (s : State) (v : Srv) (f : UsdoServer → UsdoServer) : Within [.net] [] s (s.setServer v f) :=
  .of_only (fun p => by cases p <;> first | exact .inr rfl | exact .inl (by decide)) rfl
theorem State.setSlot_within (s : State) (n : Nat) (f : Slot → Slot) : Within [.tilth] [] s (s.setSlot n f) :=
  .of_only (fun p => by cases p <;> first | exact .inr rfl | exact .inl (by decide)) rfl
theorem State.putCredential_within (s : State) (i : Nat) (r : Bytes) : Within [.credentials] [] s (s.putCredential i r) :=
  .of_only (fun p => by cases p <;> first | exact .inr rfl | exact .inl (by decide)) rfl
theorem State.withLock_within (s : State) (l : Lock) : Within [.lock] [] s (s.withLock l) :=
  .of_only (fun p => by cases p <;> first | exact .inr rfl | exact .inl (by decide)) rfl

/-! ## Journal, logs and EMCY -/

theorem State.appendRaw_within (s : State) (r : Bytes) : Within [.ledger] [] s (s.appendRaw r) :=
  .of_only (fun p => by cases p <;> first | exact .inr rfl | exact .inl (by decide)) rfl
theorem State.appendRecord_within (s : State) (type flags : Nat) (body : Bytes) :
    Within [.ledger] [] s (s.appendRecord type flags body) := s.appendRaw_within _
theorem State.logWith_within (s : State) (code : Code) (subject : Nat) (data : Bytes) (carried emcy : Bool) :
    Within [.logs, .ledger] [] s (s.logWith code subject data carried emcy) :=
  .of_only (fun p => by cases p <;> first | exact .inr rfl | exact .inl (by decide)) rfl
theorem State.event_within (s : State) (code : Code) (subject : Nat) (data : Bytes) :
    Within [.logs, .ledger] [] s (s.event code subject data) := s.logWith_within _ _ _ _ _
theorem State.logFault_within (s : State) (cls detector : Nat) (code : Code) (slot engine : Nat) (detail : Bytes) :
    Within [.logs] [] s (s.logFault cls detector code slot engine detail) :=
  .of_only (fun p => by cases p <;> first | exact .inr rfl | exact .inl (by decide)) rfl

/-- An event logged is in the log, under the next number (R441). -/
theorem State.event_logged (s : State) (code : Code) (subject : Nat) (data : Bytes) :
    Logged s (s.event code subject data) code subject data :=
  ⟨s.logs.nextEvent, s.eventFlags code false false, Nat.le_refl _, List.mem_cons_self⟩

theorem State.offerOn_within (s : State) (onV onP : Bool) (error code : Code) (subject : Nat) :
    Within [.net, .dict] [0x2B32] s (s.offerOn onV onP error code subject) :=
  (State.count_within _ _ _ _).step
    (.of_only (fun p => by cases p <;> first | exact .inr rfl | exact .inl (by decide)) rfl) (by decide) (by decide)

theorem State.raiseOn_within (s : State) (onV onP : Bool) (error code : Code) (subject : Nat) :
    Within [.net, .logs, .ledger, .dict] [0x2B32] s (s.raiseOn onV onP error code subject) := by
  have a := (s.offerOn_within onV onP error code subject).mono (qs := [.net, .logs, .ledger, .dict]) (xs := [0x2B32]) (by decide) (by decide)
  unfold State.raiseOn
  dsimp only
  split
  · exact (State.offerOn_within _ _ _ _ _ _).step ((State.logWith_within _ _ _ _ _ _).step a (by decide) (by decide)) (by decide) (by decide)
  · exact a

theorem State.raise_within (s : State) (error code : Code) (subject : Nat) :
    Within [.net, .logs, .ledger, .dict] [0x2B32] s (s.raise error code subject) := s.raiseOn_within _ _ _ _ _

theorem State.alarm_within (s : State) (code : Code) (subject : Nat) (data : Bytes) :
    Within [.net, .logs, .ledger, .dict] [0x2B32] s (s.alarm code subject data) :=
  (State.raise_within _ _ _ _).step ((s.logWith_within _ _ _ _ _).mono (by decide) (by decide)) (by decide) (by decide)

theorem State.alarmAs_within (s : State) (error code : Code) (subject : Nat) (data : Bytes) :
    Within [.net, .logs, .ledger, .dict] [0x2B32] s (s.alarmAs error code subject data) :=
  (State.raise_within _ _ _ _).step ((s.logWith_within _ _ _ _ _).mono (by decide) (by decide)) (by decide) (by decide)

/-! ## Draws, first access, receipts -/

theorem State.countCall_within (s : State) (inst : Nat) : Within [.rng] [] s (s.countCall inst) := by
  unfold State.countCall
  dsimp only
  split
  · exact .of_only (fun p => by cases p <;> first | exact .inr rfl | exact .inl (by decide)) rfl
  · exact s.setInstance_within _ _

theorem State.newNonce_within (s : State) : Within [.sealing, .rng, .free] [] s s.newNonce := by
  unfold State.newNonce
  split
  · exact (State.countCall_within _ _).step ((State.used_within _ _).step
      (.of_only (fun p => by cases p <;> first | exact .inr rfl | exact .inl (by decide)) rfl) (by decide) (by decide)) (by decide) (by decide)
  · exact .of_only (fun p => by cases p <;> first | exact .inr rfl | exact .inl (by decide)) rfl

theorem State.endEnvelope_within (s : State) (expired : Bool) : Within [.sealing, .rng, .free] [] s (s.endEnvelope expired) :=
  (State.newNonce_within _).step (.of_only (fun p => by cases p <;> first | exact .inr rfl | exact .inl (by decide)) rfl)
    (by decide) (by decide)

theorem State.consume_within (s : State) (idx sub : Nat) (value : Bytes) :
    Within [.sealing, .rng, .free] [] s (s.consume idx sub value) := by
  unfold State.consume
  split
  · exact .refl _ _ _
  · dsimp only
    split
    · exact s.endEnvelope_within _
    · exact .of_only (fun p => by cases p <;> first | exact .inr rfl | exact .inl (by decide)) rfl

theorem State.firstAccess_within (s : State) (d : Domain) (slot : Nat) :
    Within [.power, .logs, .ledger] [] s (s.firstAccess d slot) := by
  unfold State.firstAccess
  split
  · exact .refl _ _ _
  · exact (State.event_within _ _ _ _).step
      (.foldl (fun u x => (u.setCell_within x _).mono (by decide) (by decide)) _ s) (by decide) (by decide)

theorem State.requestSession_within (s : State) (k : SessionKind) (parent : Option Nat) (work : Work) :
    Within [.tilth] [] s (s.requestSession k parent work).1 :=
  .of_only (fun p => by cases p <;> first | exact .inr rfl | exact .inl (by decide)) rfl

theorem State.occasion_within (s : State) (o : Occasion) : Within [.tilth, .dict] [0x2102] s (s.occasion o) := by
  unfold State.occasion
  split
  · exact .refl _ _ _
  split
  · exact .of_only (fun p => by cases p <;> first | exact .inr rfl | exact .inl (by decide)) rfl
  split
  · split
    · exact (s.setSlot_within _ _).mono (by decide) (by decide)
    · exact .refl _ _ _
  · have a := (s.requestSession_within .receipt none (.receipt (2 ^ o.bit) false)).mono (qs := [.tilth, .dict]) (xs := [0x2102])
      (by decide) (by decide)
    dsimp only
    split
    · exact a
    · exact (State.bump_within _ _ _).step a (by decide) (by decide)

/-! ## The end of a session (R42, R44, R294) -/

theorem State.endSession_within (s : State) (n : Nat) (c : Code) :
    Within [.tilth, .lf, .radio, .cipher, .rng, .bridge] [] s (s.endSession n c) :=
  .of_only (fun p => by cases p <;> first | exact .inr rfl | exact .inl (by decide)) rfl

theorem State.freeServer_within (s : State) (v : Srv) (c : Code) : Within [.net, .dict] [0x2B30] s (s.freeServer v c) :=
  (State.putCode_within _ _ _ _).step ((s.setServer_within _ _).mono (by decide) (by decide)) (by decide) (by decide)

theorem State.windowEnds_within (s : State) (m : Nat) (c : Code) : Within [.dict] [0x2C50] s (s.windowEnds m c) :=
  .ite (s.putCode_within _ _ _) (.refl _ _ _)

theorem State.dropTransfer_within (s : State) (v : Srv) (c : Code) :
    Within [.tilth, .lf, .radio, .cipher, .rng, .net, .bridge, .dict] [0x2B30, 0x2C50] s (s.dropTransfer v c) := by
  unfold State.dropTransfer
  split
  · exact (State.endSession_within _ _ _).step ((State.freeServer_within _ _ _).step
      ((s.windowEnds_within _ _).mono (by decide) (by decide)) (by decide) (by decide)) (by decide) (by decide)
  · exact (s.freeServer_within _ _).mono (by decide) (by decide)

theorem State.dropCarrier_within (s : State) (v : Srv) (c : Code) :
    Within [.tilth, .lf, .radio, .cipher, .rng, .net, .bridge, .dict] [0x2B30, 0x2C50] s (s.dropCarrier v c) :=
  .ite (s.dropTransfer_within _ _) (.refl _ _ _)

theorem State.failInstall_within (s : State) (c : Code) :
    Within [.tilth, .lf, .radio, .cipher, .sig, .rng, .net, .bridge, .dict] [0x2A30, 0x2B30, 0x2C50] s (s.failInstall c) := by
  unfold State.failInstall
  split
  · exact .refl _ _ _
  · exact (State.dropCarrier_within _ _ _).step ((State.putCode_within _ _ _ _).step
      (.of_only (fun p => by cases p <;> first | exact .inr rfl | exact .inl (by decide)) rfl) (by decide) (by decide)) (by decide) (by decide)

theorem State.failImport_within (s : State) (c : Code) :
    Within [.tilth, .lf, .radio, .cipher, .rng, .net, .bridge, .ledger, .dict] [0x2B30, 0x2C50, 0x2D60] s (s.failImport c) := by
  unfold State.failImport
  split
  · exact .refl _ _ _
  · dsimp only
    refine (State.dropCarrier_within _ _ _).step ((State.putCode_within _ _ _ _).step ?_ (by decide) (by decide)) (by decide) (by decide)
    split
    · exact (State.appendRecord_within _ _ _ _).step
        (.of_only (fun p => by cases p <;> first | exact .inr rfl | exact .inl (by decide)) rfl) (by decide) (by decide)
    · exact .of_only (fun p => by cases p <;> first | exact .inr rfl | exact .inl (by decide)) rfl

theorem State.failConsumer_within (s : State) (k : Consumer) (c : Code) :
    Within [.tilth, .lf, .radio, .cipher, .sig, .rng, .net, .bridge, .ledger, .dict] [0x2A30, 0x2B30, 0x2C50, 0x2D60] s
      (s.failConsumer k c) := by
  cases k
  · exact (s.failInstall_within c).mono (by decide) (by decide)
  · exact (s.failImport_within c).mono (by decide) (by decide)

theorem State.retract_within (s : State) (o : GcmOpen) :
    Within [.tilth, .lf, .radio, .cipher, .sig, .rng, .net, .bridge, .ledger, .logs, .dict, .free]
      [0x2940, 0x2A30, 0x2B30, 0x2C50, 0x2D60] s (s.retract o) := by
  have a : Within [.tilth, .lf, .radio, .cipher, .sig, .rng, .net, .bridge, .ledger, .logs, .dict, .free]
      [0x2940, 0x2A30, 0x2B30, 0x2C50, 0x2D60] s
      (((s.bump 0x2940 3).event Ev.cipherRetract o.slot (leBytes 1 (consumerCode o.provisional) ++ leBytes 4 (s.extentOf o))).used 1) :=
    (State.used_within _ _).step ((State.event_within _ _ _ _).step ((s.bump_within _ _).mono (by decide) (by decide)) (by decide) (by decide))
      (by decide) (by decide)
  unfold State.retract
  dsimp only
  split
  · exact a
  · exact (State.failConsumer_within _ _ _).step a (by decide) (by decide)

theorem State.retractOpens_within (s : State) (ns : List Nat) :
    Within [.tilth, .lf, .radio, .cipher, .sig, .rng, .net, .bridge, .ledger, .logs, .dict, .free]
      [0x2940, 0x2A30, 0x2B30, 0x2C50, 0x2D60] s (s.retractOpens ns) :=
  .foldl (fun u x => u.retract_within x) _ s

theorem State.dropJob_within (s : State) (code : Code) (c : Consumer) :
    Within [.tilth, .lf, .radio, .cipher, .sig, .rng, .net, .bridge, .ledger, .logs, .dict, .free]
      [0x2940, 0x2A30, 0x2B30, 0x2C50, 0x2D60] s (s.dropJob code c) := by
  unfold State.dropJob
  refine Within.trans ?_ (.foldl (fun u x => (u.endSession_within x code).mono (by decide) (by decide)) _ _)
  refine (State.failConsumer_within _ _ _).step ((State.retractOpens_within _ _).step ?_ (by decide) (by decide)) (by decide) (by decide)
  exact .of_only (fun p => by cases p <;> first | exact .inr rfl | exact .inl (by decide)) rfl

theorem State.supersede_within (s : State) (v : Srv) :
    Within [.tilth, .lf, .radio, .cipher, .sig, .rng, .net, .bridge, .ledger, .logs, .dict, .free]
      [0x2940, 0x2A30, 0x2B30, 0x2C50, 0x2D60] s (s.supersede v) := by
  unfold State.supersede
  split
  · exact .refl _ _ _
  · exact ((s.dropTransfer_within _ _).mono (by decide) (by decide)).trans (.foldl (fun u x => u.dropJob_within _ x) _ _)

/-! ## A host's access (R351, R353, R450) -/

/-- On a server that carries nothing there is nothing to supersede. -/
theorem State.supersede_fresh {via : Via} (h : Fresh s via) : s.supersede via.srv = s := by
  unfold State.supersede; rw [h.1]; rfl

theorem State.markOneAccess_within (s : State) : Within [.dict] [0x2102, 0x2103] s s.markOneAccess :=
  (State.putNum_within _ _ _ _).step ((s.putNum_within _ _ _).mono (by decide) (by decide)) (by decide) (by decide)

/-- The end of a transfer on a server without a session. -/
theorem State.endTransfer_within {via : Via} (h : (s.server via.srv).slot = none) (session : Bool) (code : Code) (abort : Nat) :
    Within [.tilth, .net, .dict] [0x2102, 0x2103, 0x2B30] s (s.endTransfer via session code abort) := by
  unfold State.endTransfer
  dsimp only
  rw [h]
  refine (State.putCode_within _ _ _ _).step ((State.setServer_within _ _ _).step ?_ (by decide) (by decide)) (by decide) (by decide)
  dsimp only
  split
  · split
    · exact (State.setSlot_within _ _ _).step (s.markOneAccess_within.mono (by decide) (by decide)) (by decide) (by decide)
    · exact .refl _ _ _
  · exact .refl _ _ _

/-- The end of a transfer that needs no session, on a server without one. -/
theorem State.endTransfer_plain {via : Via} (h : (s.server via.srv).slot = none) (code : Code) (abort : Nat) :
    Within [.net, .dict] [0x2B30] s (s.endTransfer via false code abort) := by
  unfold State.endTransfer
  dsimp only
  rw [h]
  exact (State.putCode_within _ _ _ _).step ((s.setServer_within _ _).mono (by decide) (by decide)) (by decide) (by decide)

/-- A host's write that reaches its entry's own rule: what the rule leaves, the item consumed where the entry is sealed, and the end of
the transfer. -/
theorem State.hostWrite_reached {via : Via} {idx sub : Nat} {value : Bytes} (h : Reached s via idx sub value) (own : Own) :
    s.hostWrite via idx sub value own =
      (if isSealed idx sub = true then
        ((if (own s).2 = Rc.ok ∨ (own s).2 = Rc.pending then (own s).1.consume idx sub value else (own s).1).putCode 0x2020 2 (own s).2)
       else (own s).1).endTransfer via (needsSession (entryRow? idx sub)) (own s).2 (abortCodeOf (own s).2 idx true) := by
  obtain ⟨hp, hc, hs, hw, hr, he⟩ := h
  have hf : s.supersede via.srv = s := State.supersede_fresh ⟨hc, hs⟩
  have hroom : (needsSession (entryRow? idx sub) && !s.sessionRoom via) = false := by
    cases hn : needsSession (entryRow? idx sub)
    · rfl
    · simp [hr hn]
  simp only [State.hostWrite, hp, hf, hroom, State.write, hw, Bool.not_true]
  cases hx : isSealed idx sub
  · simp
  · simp [he hx]

/-- A host's write the checks refuse at a step before its own rule: nothing but the result is recorded. -/
theorem State.hostWrite_refused {via : Via} {idx sub : Nat} {value : Bytes} {c : Code} (hp : s.portServes via.port = true)
    (hf : Fresh s via) (hw : s.writeRefused idx sub value = some c)
    (hr : needsSession (entryRow? idx sub) = true → s.sessionRoom via = true) (own : Own) :
    s.hostWrite via idx sub value own = s.endTransfer via (needsSession (entryRow? idx sub)) c (abortCodeOf c idx true) := by
  have hroom : (needsSession (entryRow? idx sub) && !s.sessionRoom via) = false := by
    cases hn : needsSession (entryRow? idx sub)
    · rfl
    · simp [hr hn]
  simp [State.hostWrite, hp, State.supersede_fresh hf, hroom, State.write, hw]

end Sys2Proof.Machine
end

