-- ==== Sys2Proof/Laws/Session.lean ====
section
/-! SUPPORT. What the end of a session, an entry into a mode and a Hardpan cause stay within, and what slots read after an update. -/

namespace Sys2Proof.Machine

/-! ## Slots -/

theorem State.slot_setSlot {s : State} {n : Nat} (h : 1 ≤ n) (hn : n ≤ s.tilth.slots.length) (f : Slot → Slot) :
    (s.setSlot n f).slot n = f (s.slot n) := by
  have h0 : n ≠ 0 := by omega
  have hl : n - 1 < s.tilth.slots.length := by omega
  simp [State.slot, State.setSlot, h0, hl]

theorem State.slot_setSlot_ne {s : State} {n m : Nat} (h : m ≠ n) (f : Slot → Slot) : (s.setSlot n f).slot m = s.slot m := by
  unfold State.slot State.setSlot
  by_cases hm : m = 0
  · simp [hm]
  by_cases hn : n = 0
  · simp [hn]
  have : n - 1 ≠ m - 1 := by omega
  simp [hm, hn, this]

theorem State.length_setSlot (s : State) (n : Nat) (f : Slot → Slot) : (s.setSlot n f).tilth.slots.length = s.tilth.slots.length := by
  unfold State.setSlot; dsimp only; split <;> simp

/-- The slot of an ended session is CLOSING with the result (R42). -/
theorem State.endSession_ended {s : State} {n : Nat} (h : 1 ≤ n) (hn : n ≤ s.tilth.slots.length) (c : Code) :
    Ended (s.endSession n c) n c := by
  have h0 : n ≠ 0 := by omega
  have hl : n - 1 < s.tilth.slots.length := by omega
  have e : n - 1 + 1 = n := by omega
  have : (s.endSession n c).slot n = (s.slot n).close c s.now := by
    simp [State.slot, State.endSession, State.releaseHolds, h0, hl, e]
  exact ⟨by rw [this]; rfl, by rw [this]; rfl⟩

/-! ## The end of a session of each kind (R101, R210, R226, R257) -/

/-- The parts and the objects the end of a session stays within. -/
abbrev endParts : List Part :=
  [.tilth, .lf, .radio, .inv, .kaolin, .cipher, .sig, .rng, .net, .bridge, .ledger, .logs, .dict, .free]
abbrev endObjects : List Nat := [0x2311, 0x2601, 0x2710, 0x2820, 0x2940, 0x2A20, 0x2A30, 0x2B30, 0x2C50, 0x2D60]

theorem State.reportApproach_within (s : State) (n : Nat) (a : Approach) (c : Code) :
    Within endParts endObjects s (s.reportApproach n a c) := by
  have b : Within endParts endObjects s ((((s.putCode 0x2311 1 c).putNum 0x2311 2 a.lastCredential).putNum 0x2311 3 a.touchTick).putNum
      0x2311 4 (s.sinceTick a.touchTick * 25)) :=
    (State.putNum_within _ _ _ _).step ((State.putNum_within _ _ _ _).step ((State.putNum_within _ _ _ _).step
      ((s.putCode_within _ _ _).mono (by decide) (by decide)) (by decide) (by decide)) (by decide) (by decide)) (by decide) (by decide)
  unfold State.reportApproach
  dsimp only
  split
  · exact (State.event_within _ _ _ _).step ((State.event_within _ _ _ _).step b (by decide) (by decide)) (by decide) (by decide)
  · exact (State.event_within _ _ _ _).step b (by decide) (by decide)

theorem State.dropWalk_within (s : State) (n : Nat) (c : Code) : Within endParts endObjects s (s.dropWalk n c) := by
  unfold State.dropWalk
  split
  · exact .refl _ _ _
  · exact (State.putNum_within _ _ _ _).step ((State.putCode_within _ _ _ _).step
      (.of_only (fun p => by cases p <;> first | exact .inr rfl | exact .inl (by decide)) rfl) (by decide) (by decide)) (by decide) (by decide)

theorem State.reportPassport_within (s : State) (c : Code) : Within endParts endObjects s (s.reportPassport c) := by
  unfold State.reportPassport
  split
  · exact .refl _ _ _
  · split
    · exact (State.requestSession_within _ _ _ _).step
        (.of_only (fun p => by cases p <;> first | exact .inr rfl | exact .inl (by decide)) rfl) (by decide) (by decide)
    · exact (State.putCode_within _ _ _ _).step
        (.of_only (fun p => by cases p <;> first | exact .inr rfl | exact .inl (by decide)) rfl) (by decide) (by decide)

theorem State.reportExchange_within (s : State) (cid op : Nat) (c : Code) :
    Within endParts endObjects s (s.reportExchange cid op c) :=
  (State.putNum_within _ _ _ _).step ((State.putNum_within _ _ _ _).step ((s.putCode_within _ _ _).mono (by decide) (by decide))
    (by decide) (by decide)) (by decide) (by decide)

theorem State.reportEnd_within (s : State) (n : Nat) (c : Code) : Within endParts endObjects s (s.reportEnd n c) := by
  unfold State.reportEnd
  split
  · exact s.reportApproach_within _ _ _
  · exact s.dropWalk_within _ _
  · refine Within.trans ?_ (.foldl (fun u x => (u.dropJob_within c x).mono (by decide) (by decide)) _ _)
    exact (State.freeServer_within _ _ _).step ((s.windowEnds_within _ _).mono (by decide) (by decide)) (by decide) (by decide)
  · exact (s.putCode_within _ _ _).mono (by decide) (by decide)
  · exact .ite (.refl _ _ _) ((s.failConsumer_within _ _).mono (by decide) (by decide))
  · exact s.reportPassport_within _
  · exact s.reportExchange_within _ _ _
  · exact .refl _ _ _

/-- Damping the LF operation of an ended session touches the array and the free values only (R62, R93). -/
theorem State.dropRun_within (s : State) (ns : List Nat) : Within [.lf, .free] [] s (s.dropRun ns) := by
  unfold State.dropRun
  split
  · split
    · exact .of_only (fun p => by cases p <;> first | exact .inr rfl | exact .inl (by decide)) rfl
    · exact .refl _ _ _
  · exact .refl _ _ _

/-- The end of a session with its LF operation damped, its kind's record, its opens taken back and its slot closed (R42, R44, R294). -/
theorem State.finish_within (s : State) (n : Nat) (c : Code) : Within endParts endObjects s (s.finish n c) := by
  unfold State.finish
  split
  · exact .refl _ _ _
  · exact (State.endSession_within _ _ _).step
      ((((s.dropRun_within _).mono (by decide) (by decide)).trans ((State.retractOpens_within _ _).mono (by decide) (by decide))).trans (State.reportEnd_within _ _ _))
      (by decide) (by decide)

/-! ## Modes and the Hardpan latch (R13, R15, R24, R437) -/

/-- The parts and the objects an entry into a mode stays within. -/
abbrev modeParts : List Part :=
  [.life, .sealing, .tilth, .latch, .inv, .kaolin, .cipher, .sig, .rng, .net, .ledger, .logs, .dict, .credentials, .free]
abbrev modeObjects : List Nat := [0x2004, 0x2021, 0x2022, 0x2102, 0x2660, 0x2B32, 0x2D41]

theorem State.settleCredit_within (s : State) : Within [.tilth, .ledger, .logs, .dict] [0x2102] s s.settleCredit := by
  have a : ∀ l : Ledger, Within [.tilth, .ledger, .logs, .dict] [0x2102] s { s with ledger := l } := fun l =>
    .of_only (fun p => by cases p <;> first | exact .inr rfl | exact .inl (by decide)) rfl
  unfold State.settleCredit
  dsimp only
  split
  · exact a _
  · exact (State.occasion_within _ _).step ((State.event_within _ _ _ _).step (a _) (by decide) (by decide)) (by decide) (by decide)

theorem State.zeroise_within (s : State) (source target : Mode) : Within modeParts modeObjects s (s.zeroise source target) := by
  unfold State.zeroise State.zeroEntry
  dsimp only
  split
  · refine (State.putNum_within _ _ _ _).step (Within.trans ?_ (.foldl (fun u x => (u.put_within _ _ _).mono (by decide) (by decide)) _ _))
      (by decide) (by decide)
    exact (State.put_within _ _ _ _).step ((State.put_within _ _ _ _).step
      (.of_only (fun p => by cases p <;> first | exact .inr rfl | exact .inl (by decide)) rfl) (by decide) (by decide)) (by decide) (by decide)
  · split
    · exact (State.putNum_within _ _ _ _).step
        (.of_only (fun p => by cases p <;> first | exact .inr rfl | exact .inl (by decide)) rfl) (by decide) (by decide)
    · exact .of_only (fun p => by cases p <;> first | exact .inr rfl | exact .inl (by decide)) rfl

theorem State.purge_within (s : State) : Within modeParts modeObjects s s.purge := by
  have a : ∀ t k, Within modeParts modeObjects s { s with tilth := t, kaolin := k } := fun _ _ =>
    .of_only (fun p => by cases p <;> first | exact .inr rfl | exact .inl (by decide)) rfl
  unfold State.purge
  dsimp only
  split
  · exact (State.endEnvelope_within _ _).step (a _ _) (by decide) (by decide)
  · exact a _ _

theorem State.rewriteStatus_within (s : State) : Within [.kaolin, .logs, .ledger] [] s s.rewriteStatus := by
  unfold State.rewriteStatus
  split
  · exact .refl _ _ _
  · exact (State.event_within _ _ _ _).step
      (.of_only (fun p => by cases p <;> first | exact .inr rfl | exact .inl (by decide)) rfl) (by decide) (by decide)

theorem State.enterMode_within (s : State) (target : Mode) : Within modeParts modeObjects s (s.enterMode target) := by
  unfold State.enterMode
  dsimp only
  refine (State.occasion_within _ _).step ((State.rewriteStatus_within _).step ?_ (by decide) (by decide)) (by decide) (by decide)
  have b : ∀ l k, Within modeParts modeObjects s { s.zeroise s.mode target with life := l, latch := k } := fun l k =>
    (s.zeroise_within s.mode target).trans (.of_only (fun p => by cases p <;> first | exact .inr rfl | exact .inl (by decide)) rfl)
  have c : ∀ t, Within modeParts modeObjects s t →
      Within modeParts modeObjects s (if s.mode = .depot ∨ target = .depot then t.putNum 0x2004 1 0 else t) := fun t h =>
    .ite ((t.putNum_within _ _ _).step h (by decide) (by decide)) h
  have d : ∀ t, Within modeParts modeObjects s t →
      Within modeParts modeObjects s (if target = .service then t.bump 0x2004 4 else t) := fun t h =>
    .ite ((t.bump_within _ _).step h (by decide) (by decide)) h
  have e : ∀ t, Within modeParts modeObjects s t →
      Within modeParts modeObjects s (if target = .quarantine then t.purge else t) := fun t h =>
    .ite (h.trans t.purge_within) h
  have f : ∀ (t : State) (data : Bytes), Within modeParts modeObjects s t →
      Within modeParts modeObjects s
        (if target = .quarantine then (t.logWith Ev.modeChanged 0 data false true).raise 0xFF01 Ev.modeChanged 0
         else t.event Ev.modeChanged 0 data) := fun t data h =>
    .ite ((State.raise_within _ _ _ _).step ((t.logWith_within _ _ _ _ _).step h (by decide) (by decide)) (by decide) (by decide))
      ((t.event_within _ _ _).step h (by decide) (by decide))
  have g : ∀ t : State, Within modeParts modeObjects s t →
      Within modeParts modeObjects s
        (if s.mode = .quarantine ∧ target ≠ .retired then
          { t with ledger := { t.ledger with credit := t.ledger.credit + t.ledger.held, held := 0 } }.settleCredit else t) := fun t h =>
    .ite ((State.settleCredit_within _).step
      (h.trans (.of_only (fun p => by cases p <;> first | exact .inr rfl | exact .inl (by decide)) rfl)) (by decide) (by decide)) h
  exact g _ (f _ _ (e _ (d _ (c _ (b _ _)))))

/-- The parts and the objects a Hardpan cause stays within. -/
abbrev causeParts : List Part := .hardpan :: modeParts
abbrev causeObjects : List Nat := 0x2001 :: 0x2F10 :: modeObjects

theorem State.toQuarantine_within (s : State) : Within modeParts modeObjects s s.toQuarantine :=
  .ite (s.enterMode_within _) (.refl _ _ _)

theorem State.quarantine_within (s : State) : Within causeParts causeObjects s s.quarantine := by
  unfold State.quarantine
  split
  · exact .refl _ _ _
  split
  · exact s.toQuarantine_within.mono (by decide) (by decide)
  · split
    · exact .of_only (fun p => by cases p <;> first | exact .inr rfl | exact .inl (by decide)) rfl
    · exact (State.toQuarantine_within _).step ((State.putCode_within _ _ _ _).step
        (.of_only (fun p => by cases p <;> first | exact .inr rfl | exact .inl (by decide)) rfl) (by decide) (by decide)) (by decide) (by decide)

/-- A Hardpan cause with what it forces (R437, R438). -/
theorem State.cause_within (s : State) (c : Cause) : Within causeParts causeObjects s (s.cause c) := by
  have a : ∀ h : Hardpan, Within causeParts causeObjects s { s with hardpan := h } := fun h =>
    .of_only (fun p => by cases p <;> first | exact .inr rfl | exact .inl (by decide)) rfl
  unfold State.cause
  dsimp only
  split
  · exact (State.event_within _ _ _ _).step (a _) (by decide) (by decide)
  split
  · exact (State.event_within _ _ _ _).step (a _) (by decide) (by decide)
  · exact ((State.alarm_within _ _ _ _).step ((State.bump_within _ _ _).step (a _) (by decide) (by decide)) (by decide) (by decide)).trans
      (State.quarantine_within _)

/-! ## What every meaning ends with -/

/-- A meaning outside the lock's own commands: a next state with the lock and the queue as they were. -/
theorem keepLock_within {s t : State} {ps : List Part} {os : List Nat} (h : Within ps os s t) {u : State} (hu : keepLock s t = .next u) :
    Within ps os s u := by
  cases hu
  refine ⟨fun p => ?_, fun k => (h.2 k).imp_right id⟩
  by_cases hp : p = .lock
  · exact .inr (by rw [hp]; rfl)
  · exact (h.1 p).imp_right fun a => by cases p <;> first | exact a | exact absurd rfl hp

end Sys2Proof.Machine
end

