-- ==== Sys2Proof/WellFormed.lean ====
section
/-! DEFINITION. Which terms of `Instr` spell a command the outside can send: slot numbers 1 to 64 (R41), index and sub-index
in their fields (R7), electrodes 0 to 3 (R417), LF channels 0 to 7 (R68), node-IDs below 128 (R342), bridge tags of one byte
(R365), and so on. `exec` is total on the others as well: what names nothing does nothing. -/

namespace Sys2Proof

/-- A slot number (R41). -/
def slotOk (n : Nat) : Bool := 1 ≤ n && n ≤ 64

/-- The operands of a command lie in their fields (log entry 24). -/
def Instr.wellFormed : Instr → Bool
  | .frameTick _ => true
  | .stepTimeout slot => (slotOk slot)
  | .deadlineMissed slot => (slotOk slot)
  | .deadlineLate slot => (slotOk slot)
  | .tickHighWaterUpdate => true
  | .sessionAdmitted => true
  | .admissionTimeout => true
  | .clodGranted slot => (slotOk slot)
  | .clodWaitTimeout slot => (slotOk slot)
  | .credentialPageInDone _ => true
  | .engineOperationEnd slot _ => (slotOk slot)
  | .abortRequest _ fn _ => (1 ≤ fn && fn ≤ 12)
  | .abortCompletion _ _ => true
  | .sessionAbort _ slot _ => (slotOk slot)
  | .dictionaryWrite _ idx sub _ => (idx < 65536) && (sub < 256)
  | .modeRequest _ _ => true
  | .depotRequest _ _ => true
  | .modeCommit => true
  | .serviceExit => true
  | .serviceOverrun => true
  | .envelopeWrite _ _ => true
  | .envelopeCancel _ _ => true
  | .envelopeExpiry => true
  | .publicKeyWrite _ idx sub _ => (idx < 65536) && (sub < 256)
  | .lfOperationEnd _ _ => true
  | .lfDetuned ch _ _ => (ch < 8)
  | .lfOvercurrent trip => (trip.ch < 8)
  | .lfSupplyFault _ => true
  | .lfCalibrate _ _ => true
  | .lfCalibrationStart => true
  | .lfCalibrationEnd ch _ _ => (ch < 8)
  | .lfFaultClear _ sub _ => (sub < 256)
  | .lfChannelEnableWrite _ _ => true
  | .lfNominalFrequencyWrite _ _ => true
  | .touchEvent electrode => (electrode < 4)
  | .hostApproachRequest _ _ => true
  | .roundEnd slot _ _ => (slotOk slot)
  | .badgeResponse slot _ payload => (slotOk slot) && (payload.length ≤ 255)
  | .lresponse slot _ payload => (slotOk slot) && (payload.length ≤ 255)
  | .vreport slot report => (slotOk slot) && (report.payload.length ≤ 255)
  | .badgeReplyMissing missed => (slotOk missed.slot)
  | .badgeSessionTimeout slot => (slotOk slot)
  | .approachTimeout slot => (slotOk slot)
  | .synthCalibrate _ _ => true
  | .rfTemperatureCheck _ => true
  | .synthCalStart => true
  | .rfSynthCalOverdue => true
  | .synthCalEnd _ _ => true
  | .rfCalRetry => true
  | .rfTxDeferred slot => (slotOk slot)
  | .rfLockFail slot => (slotOk slot)
  | .backgroundCal _ _ _ _ => true
  | .cxgntWithdrawn => true
  | .rfCoexStuck => true
  | .rfCoexRearmed => true
  | .rawStop _ => true
  | .rawTxCw _ => true
  | .rawTxPrbs _ => true
  | .rawTxPacket _ => true
  | .rawRx _ => true
  | .rawScan _ => true
  | .rawCapture _ => true
  | .rawCommandEnd _ => true
  | .toneMaskWrite _ _ => true
  | .sweepEnd slot _ => (slotOk slot)
  | .probeExchangeEnd slot _ _ => (slotOk slot)
  | .fusion slot => (slotOk slot)
  | .vehicleRequest _ _ _ => true
  | .vehicleResponse _ _ _ => true
  | .vehicleResponseTimeout _ => true
  | .hvilWithdrawal => true
  | .readbackMismatch _ => true
  | .latchPullInEnd => true
  | .svpanelOpenEdge => true
  | .panelMasked _ => true
  | .panelRearmed => true
  | .inventoryRead _ => true
  | .inventoryBind _ => true
  | .inventoryCheck _ => true
  | .periodicCheck => true
  | .loopFieldOn _ _ => true
  | .hfFrameExchangeEnd _ => true
  | .originVerifyEnd entry => (1 ≤ entry && entry ≤ 128)
  | .inventoryTimeout => true
  | .bindingCommit _ _ => true
  | .kaolinFieldPowerUp _ _ _ => true
  | .kaolinDropOut => true
  | .kaolinActivation _ => true
  | .kaolinDeselect => true
  | .kaolinSelectAid _ _ _ => true
  | .kaolinSelectFid _ _ _ => true
  | .kaolinReadBinary _ _ _ _ => true
  | .kaolinVerify _ _ _ => true
  | .kaolinGetChallenge _ _ _ => true
  | .kaolinMutualAuthenticate _ _ _ => true
  | .kaolinInternalAuthenticate _ _ _ => true
  | .liveSignAbandoned => true
  | .kaolinUpdateBinary _ _ _ => true
  | .kaolinCommitFile _ _ _ => true
  | .kaolinUnknownCommand _ _ => true
  | .hostFileWrite _ _ => true
  | .fileCommitted => true
  | .hostFileWriteTimeout => true
  | .statusFileRefresh => true
  | .ownerUidSignatureWrite _ _ => true
  | .pinDigestWrite _ _ => true
  | .readerEntryWrite _ sub _ => (sub < 256)
  | .carryRefreshed => true
  | .rootImport _ _ => true
  | .cipherSelftestRequest _ _ => true
  | .cipherSelftest _ _ => true
  | .cipherResume => true
  | .cipherCompareFail slot _ => (slotOk slot)
  | .cipherLockStale => true
  | .keyRegisterWaitTimeout slot => (slotOk slot)
  | .gcmOpenEnd slot _ => (slotOk slot)
  | .attestationChallenge _ _ => true
  | .firmwareImageHeader _ _ => true
  | .firmwareInstallEnd _ _ => true
  | .activateBank _ _ => true
  | .certificateChainWrite _ _ => true
  | .vendorUidSignatureWrite _ _ => true
  | .sheCompareFail slot => (slotOk slot)
  | .rngHealthFail _ _ => true
  | .rngStartupTestEnd _ => true
  | .rngRestartSource _ _ => true
  | .rngSeeded => true
  | .rngNotReadyTimeout => true
  | .strictRequestServed => true
  | .stretchReseed inst => (1 ≤ inst && inst ≤ 16)
  | .rngStretchExhausted inst => (1 ≤ inst && inst ≤ 16)
  | .hostRandomRead _ => true
  | .nmtStart _ node => (node < 128)
  | .nmtStop _ node => (node < 128)
  | .nmtEnterPreOperational _ node => (node < 128)
  | .nmtResetCommunication _ node => (node < 128)
  | .nmtResetNode _ node => (node < 128)
  | .heartbeatReceived _ node state => (node < 128) && (state < 128)
  | .bootUpReceived _ node => (node < 128)
  | .partnerLost entry => (1 ≤ entry && entry ≤ 32)
  | .syncReceived _ _ => true
  | .rpdoReceived _ num payload => (1 ≤ num && num ≤ 16) && (payload.length ≤ 255)
  | .tpdoTrigger num => (1 ≤ num && num ≤ 16)
  | .usdoInitiate _ client _ => (client < 128)
  | .usdoSegmentTimeout _ => true
  | .busOff _ => true
  | .busOffRecovery _ => true
  | .busOffRecover _ _ => true
  | .errorPassive _ => true
  | .rxOverrun _ => true
  | .canBitrateWrite _ sub _ => (sub < 256)
  | .pdoMappingWrite _ idx sub _ => (idx < 65536) && (sub < 256)
  | .lssSwitchStateGlobal _ _ => true
  | .lssSwitchStateSelective _ _ _ _ _ => true
  | .lssConfigureNodeId _ node => (node < 256)
  | .lssConfigureBitTiming _ _ _ => true
  | .lssActivateBitTiming _ => true
  | .lssStoreConfiguration _ => true
  | .lssInquireIdentity _ _ => true
  | .lssInquireNodeId _ => true
  | .lssIdentifyRemoteSlave _ _ _ _ _ _ _ => true
  | .lssIdentifyNonConfigured _ => true
  | .lssFastscan _ _ _ _ _ => true
  | .canWakePattern _ _ => true
  | .linkTrainingEnd _ _ => true
  | .linkTrainingRetry => true
  | .linkDegraded lane => (lane < 4)
  | .linkDown direction => (direction < 2)
  | .sahunNak _ => true
  | .readDataLanded tag _ => (tag < 256)
  | .readTimeoutLogged tag => (tag < 256)
  | .postedWriteRoomTimeout slot => (slotOk slot)
  | .writeAckReceived tag => (tag < 256)
  | .postedWriteFailed tag _ => (tag < 256)
  | .samplePacketLanded seq lost _ => (seq < 4294967296) && (lost < 65536)
  | .eventPacketLanded seq lost _ => (seq < 4294967296) && (lost < 65536)
  | .prefetchDiscarded => true
  | .hostWindowRead _ => true
  | .hostWindowWrite _ _ => true
  | .meterFold _ => true
  | .graceTimeExpiry => true
  | .eptanConfigCheck _ => true
  | .zeroCurrentOffset _ _ => true
  | .zeroOffsetEnd => true
  | .tokenTopup _ _ => true
  | .tokenTerms _ _ => true
  | .tokenAdjust _ _ => true
  | .tokenJournalAck _ _ => true
  | .receiptRequest _ _ => true
  | .periodicReceipt => true
  | .receiptWrite => true
  | .journalImport _ length _ => (length ≤ 2097200)
  | .journalImportEnd _ _ => true
  | .domainRequest _ sub _ => (sub < 256)
  | .groupRequest _ _ => true
  | .domainTransitionEnd _ => true
  | .domainFaulted _ => true
  | .wake source _ => (1 ≤ source && source ≤ 11)
  | .wakeSourceStuck source => (1 ≤ source && source ≤ 11)
  | .wakeSourceRearmed source => (1 ≤ source && source ≤ 11)
  | .capScan _ => true
  | .baselineReacquire _ _ => true
  | .rtcSet _ _ => true
  | .rtcSetSealed _ _ => true
  | .rtcAlarm => true
  | .thermalGuard _ => true
  | .startup _ => true
  | .bootRetry => true
  | .supplyReset _ _ => true
  | .resetPin _ => true
  | .supplyWarning _ => true
  | .tickWatchdog => true
  | .faultDetected _ _ slot engine _ => (slot ≤ 64) && (engine ≤ 11)
  | .tamper _ => true
  | .clockRestored => true
  | .hardpanRelease _ _ => true
  | .hardpanRequest _ _ => true
  | .eventSelect _ _ => true
  | .credentialRecordWrite _ idx sub _ => (idx < 65536) && (sub < 256)
  | .credentialFind _ _ => true
  | .journalSelect _ _ => true
  | .journalBlockRead _ => true
  | .gritRawCapture _ sub => (sub < 256)
  | .panelClosed => true
  | .producerHeartbeat => true
  | .portErrorActive _ => true
  | .thermalGuardLeft _ => true

end Sys2Proof
end

