-- ==== Sys2Proof/Tests/Slice0.lean ====
section
/-! SUPPORT. The model's own tests: what the checks of the syntax refuse, small steps on small states with results read off the manual, and
for every statement with hypotheses a state and operands that meet them. -/

namespace Sys2Proof.Tests

open Sys2Proof Sys2Proof.Machine

set_option Elab.async false
set_option linter.unusedVariables false

/-! ## Small states -/

/-- The host of the witnesses: port V, server 1. -/
def viaV : Via := ⟨.v, .one⟩

/-- A running block with every domain on, both ports operational, in a mode. -/
def up (m : Mode) : State :=
  { State.reset with
    life := { State.reset.life with mode := m }
    platform := { State.reset.platform with boot := .running }
    power := { State.reset.power with domains := Domain.all.map fun d => (d, DomainCell.reset .on) }
    net :=
      { State.reset.net with
        portV := { CanPort.reset with nmt := .operational }
        portP := { CanPort.reset with nmt := .operational } } }

/-- A running block in DEPOT with a slot at a content. -/
def withSlot (n : Nat) (sl : Slot) (s : State := up .depot) : State := s.setSlot n fun _ => sl

/-- A slot of a kind in a state. -/
def slotOf (k : SessionKind) (st : SlotState) (w : Work := .idle) : Slot := { Slot.empty with kind := some k, state := st, work := w }

/-- An envelope that covers one write, as its only item. -/
def covering (idx sub : Nat) (value : Bytes) : Envelope :=
  { signer := .owner
    items := [{ index := idx, sub := sub, length := value.length, digest := shake value 32, used := false }]
    expiry := 1000, nonce := zeros 16 }

/-- A state whose active envelope covers a write. -/
def sealedFor (idx sub : Nat) (value : Bytes) (s : State) : State :=
  { s with sealing := { s.sealing with active := some (covering idx sub value) } }

/-- A state whose active envelope covers a write passes step 6 for it. -/
theorem sealedFor_covers (idx sub : Nat) (value : Bytes) (s : State) :
    (sealedFor idx sub value s).envelopeResult idx sub value = none := by
  simp [State.envelopeResult, sealedFor, covering, EnvelopeItem.covers]

/-- A host's write reaches its entry's own rule where the checks before the envelope hold and the envelope covers it. -/
theorem reachedSealed (idx sub : Nat) (value : Bytes) (s : State) (via : Via)
    (h : (sealedFor idx sub value s).portServes via.port = true ∧ (sealedFor idx sub value s).carries via.srv = []
      ∧ ((sealedFor idx sub value s).server via.srv).slot = none ∧ (sealedFor idx sub value s).writeRefused idx sub value = none
      ∧ (needsSession (entryRow? idx sub) = true → (sealedFor idx sub value s).sessionRoom via = true)) :
    Reached (sealedFor idx sub value s) via idx sub value :=
  ⟨h.1, h.2.1, h.2.2.1, h.2.2.2.1, h.2.2.2.2, fun _ => sealedFor_covers idx sub value s⟩

/-- The same state with its envelope signed by the vendor. -/
def vendorSealed (idx sub : Nat) (value : Bytes) (s : State) : State :=
  let s := sealedFor idx sub value s
  { s with sealing := { s.sealing with active := s.sealing.active.map fun e => { e with signer := .vendor } } }

theorem reachedVendor (idx sub : Nat) (value : Bytes) (s : State) (via : Via)
    (h : (vendorSealed idx sub value s).portServes via.port = true ∧ (vendorSealed idx sub value s).carries via.srv = []
      ∧ ((vendorSealed idx sub value s).server via.srv).slot = none ∧ (vendorSealed idx sub value s).writeRefused idx sub value = none
      ∧ (needsSession (entryRow? idx sub) = true → (vendorSealed idx sub value s).sessionRoom via = true)) :
    Reached (vendorSealed idx sub value s) via idx sub value :=
  ⟨h.1, h.2.1, h.2.2.1, h.2.2.2.1, h.2.2.2.2, fun _ => by
    simp [State.envelopeResult, vendorSealed, sealedFor, covering, EnvelopeItem.covers]⟩

/-! ## What the syntax refuses -/

/-- A packet heard alike on both ports. -/
def heard : Reception := { qualityA := 9, qualityB := 7, rssiA := -500, rssiB := -600, gain := 3 }

/-- Slot numbers lie in 1 to 64 (R41). -/
theorem test_wellFormed_refuses_slot_numbers :
    ([.stepTimeout 65, .deadlineMissed 65, .deadlineLate 0, .clodGranted 65, .clodWaitTimeout 0, .engineOperationEnd 65 Rc.ok,
      .sessionAbort viaV 65 [], .roundEnd 0 [] ⟨1, 0⟩, .badgeResponse 65 heard [], .lresponse 65 heard [], .vreport 0 ⟨heard, []⟩,
      .badgeReplyMissing ⟨65, false⟩, .badgeSessionTimeout 65, .approachTimeout 0, .rfTxDeferred 65, .rfLockFail 65,
      .sweepEnd 65 [], .probeExchangeEnd 65 [] [], .fusion 0, .cipherCompareFail 65 0, .keyRegisterWaitTimeout 65, .gcmOpenEnd 65 true,
      .sheCompareFail 65, .postedWriteRoomTimeout 0] : List Instr).all (fun c => !c.wellFormed) = true := by decide +kernel

/-- A radio payload and an RPDO have at most 255 bytes. -/
theorem test_wellFormed_refuses_payloads :
    ([.badgeResponse 1 heard (zeros 256), .lresponse 1 heard (zeros 256), .vreport 1 ⟨heard, zeros 256⟩, .rpdoReceived .v 1 (zeros 256)] :
      List Instr).all (fun c => !c.wellFormed) = true := by decide +kernel

/-- An index has 16 bits and a sub-index 8 (R7). -/
theorem test_wellFormed_refuses_indices :
    ([.dictionaryWrite viaV 65536 1 [], .dictionaryWrite viaV 1 256 [], .publicKeyWrite viaV 65536 1 [], .publicKeyWrite viaV 1 256 [],
      .lfFaultClear viaV 256 [], .readerEntryWrite viaV 256 [], .canBitrateWrite viaV 256 [], .pdoMappingWrite viaV 65536 1 [],
      .pdoMappingWrite viaV 1 256 [], .domainRequest viaV 256 [], .credentialRecordWrite viaV 65536 1 [],
      .credentialRecordWrite viaV 1 256 [], .gritRawCapture viaV 256] : List Instr).all (fun c => !c.wellFormed) = true := by
  decide +kernel

/-- Channels, electrodes, node-IDs, tags and the other numbered things lie in their ranges. -/
theorem test_wellFormed_refuses_numbers :
    ([.abortRequest viaV 13 [], .lfDetuned 8 ⟨3, 3⟩ [], .lfOvercurrent ⟨8, []⟩, .lfCalibrationEnd 8 .codeZero ⟨0, 0⟩, .touchEvent 4, .originVerifyEnd 129,
      .stretchReseed 17, .rngStretchExhausted 0, .nmtStart .v 128, .nmtStop .v 128, .nmtEnterPreOperational .v 128,
      .nmtResetCommunication .v 128, .nmtResetNode .v 128, .heartbeatReceived .v 128 1, .heartbeatReceived .v 1 128,
      .bootUpReceived .v 128, .partnerLost 33, .rpdoReceived .v 17 [], .tpdoTrigger 17, .usdoInitiate .v 128 true,
      .lssConfigureNodeId .v 256, .linkDegraded 4, .linkDown 2, .readDataLanded 256 [], .readTimeoutLogged 256,
      .writeAckReceived 256, .postedWriteFailed 256 Rc.ok, .samplePacketLanded 4294967296 1 [], .samplePacketLanded 1 65536 [],
      .eventPacketLanded 4294967296 1 [], .eventPacketLanded 1 65536 [], .journalImport viaV 2097201 [], .wake 12 1,
      .wakeSourceStuck 12, .wakeSourceRearmed 12, .faultDetected .aes .a 65 1 [], .faultDetected .aes .a 1 12 []] : List Instr).all
        (fun c => !c.wellFormed) = true := by decide +kernel

/-- Terms at the ends of their ranges are taken. -/
theorem test_wellFormed_takes_bounds :
    ([.stepTimeout 64, .lfDetuned 7 ⟨3, 32⟩ [], .lssConfigureNodeId .v 0xFF, .touchEvent 3, .partnerLost 32, .nmtStart .p 127, .dictionaryWrite viaV 65535 255 [],
      .abortRequest viaV 12 [], .wake 11 0] : List Instr).all (fun c => c.wellFormed) = true := by decide +kernel

/-! ## One step, against the manual -/

/-- A field of the state one command leaves. -/
def after (c : Instr) (s : State) : State :=
  match exec c s with
  | .next t => t
  | _ => s

/-- R34: the 48-bit counter wraps. -/
theorem test_tick_wraps :
    (after (.frameTick ⟨false, false, 12000, 3300, 250, false, false, []⟩)
      { up .depot with tilth := { State.reset.tilth with tick := 2 ^ 48 - 1 } }).tilth.tick = 0 := by decide +kernel

/-- R34: H is written 8,192 ahead when the counter reaches H − 4,096, and not a tick earlier. -/
theorem test_high_water :
    (after .tickHighWaterUpdate { up .depot with tilth := { State.reset.tilth with tick := 4096 } }).tilth.highWater = 12288
    ∧ (after .tickHighWaterUpdate { up .depot with tilth := { State.reset.tilth with tick := 4095 } }).tilth.highWater = 8192 := by
  decide +kernel

/-- R46: a step carried three times ends with STEP_TIMEOUT (0x0042), one carried twice goes on. -/
theorem test_step_timeout :
    ((after (.stepTimeout 3) (withSlot 3 { slotOf .passport .carried with carry := 3 })).slot 3).result = 0x0042
    ∧ ((after (.stepTimeout 3) (withSlot 3 { slotOf .passport .carried with carry := 2 })).slot 3).state = .carried := by decide +kernel

/-- R44: the child of an approach that ends ends with PARENT_ENDED (0x0203). -/
theorem test_parent_ended :
    (((withSlot 5 { slotOf .badge .waitingEvent with parent := some 3 } (withSlot 3 (slotOf .approach .waitingEvent))).finish 3 Rc.ok).slot
      5).result = 0x0203 := by decide +kernel

/-- R202, R210: the HV interlock withholds a released lock with cause 3; it leaves a withheld lock alone. -/
theorem test_hvil_withdrawal :
    (let s := up .bound
     (after .hvilWithdrawal { s with lock := { released := true, changeTick := 0, cause := 1, credential := 7 },
                                     vehicle := { s.vehicle with hvilDue := true } }).lock) =
      { released := false, changeTick := 0, cause := 3, credential := 0 } := by decide +kernel

/-- R203: the latch goes to hold 200 ms after it was energised, the default of 0x2650:01, and not before. -/
theorem test_latch_pull_in :
    (let s := up .service
     (after .latchPullInEnd { s with latch := { on := true, hold := false, since := 0 },
                                     tilth := { s.tilth with tick := 8000 } }).latch.hold) = true
    ∧ (let s := up .service
       (after .latchPullInEnd { s with latch := { on := true, hold := false, since := 0 },
                                       tilth := { s.tilth with tick := 7999 } }).latch.hold) = false := by decide +kernel

/-- R356: a write to a const entry is ACCESS_CLASS, abort code 0x06010002; one outside every chapter 0x06020000. -/
theorem test_abort_codes :
    ((after (.dictionaryWrite viaV 0x2000 0 [1]) (up .depot)).server .one).abortCode = 0x06010002
    ∧ ((after (.dictionaryWrite viaV 0x2FF0 0 [1]) (up .depot)).server .one).abortCode = 0x06020000 := by decide +kernel

/-- R451: the default of 0x2200:01 is 1250, little-endian (R6). -/
theorem test_default_nominal_frequency : State.reset.bytes 0x2200 1 = [0xE2, 0x04] := by decide +kernel

/-- R343: with the lock released LSS bit timing is answered 0xFF with specific error 0x07 and changes nothing else of the port. -/
theorem test_lss_refused_while_released :
    (let s := up .bound
     let v := { s with lock := { s.lock with released := true },
                       net := { s.net with portV := { s.net.portV with lssConfig := true } } }
     ((after (.lssConfigureBitTiming .v 0 2) v).net.portV.lssResponse, (after (.lssConfigureBitTiming .v 0 2) v).net.portV.lssRate)) =
      (some (0x13, 0x07FF), none) := by decide +kernel

/-- R339: port V restarts its communication on NMT reset communication addressed to it, node 0 being every node. -/
theorem test_nmt_stop_all : (after (.nmtStop .v 0) (up .depot)).net.portV.nmt = .stopped := by decide +kernel

/-- R406, R412: AON is refused with ALWAYS_ON (0x1507). -/
theorem test_aon_always_on : (after (.domainRequest viaV 1 [0]) (up .depot)).bytes 0x2B30 1 = [0x07, 0x15] := by decide +kernel

/-- R424: a reset pulse of 1,999 ns is ignored, one of 2,000 ns resets the main die. -/
theorem test_reset_pin :
    (after (.resetPin 1999) (up .depot)).platform.boot = .running
    ∧ (after (.resetPin 2000) (up .depot)).platform.boot = .resetting .pin 0 := by decide +kernel

/-- R244: an unknown CLA is answered 6E 00. -/
theorem test_kaolin_unknown_class :
    (let s := up .depot
     (after (.kaolinUnknownCommand ⟨24000, 1200⟩ ⟨0xA0, 0x10⟩)
       { s with kaolin := { s.kaolin with field := some { FieldSession.new 0 with active := true } } }).kaolin.response.2) = 0x6E00 := by
  decide +kernel

/-- R76: the CRC-8 with polynomial 0x2F and 0xFF before and after; R363: the CRC-32. Check values over "123456789" from the catalogues of
CRC algorithms. -/
theorem test_crc_check_values : crc8 (ascii "123456789") = 0xDF ∧ crc32 (ascii "123456789") = 0xCBF43926 := by decide +kernel

/-- R179, R181: at the default polarity LKFBA high and LKFBB low say that the MOSFET conducts. -/
theorem test_feedback_polarity :
    (let s := up .bound
     ({ s with vehicle := { s.vehicle with feedbackA := { s.vehicle.feedbackA with level := true } } }).feedbackOn .lkfba) = true
    ∧ (let s := up .bound
       ({ s with vehicle := { s.vehicle with feedbackB := { s.vehicle.feedbackB with level := false } } }).feedbackOn .lkfbb) = true := by
  decide +kernel

/-- The first command of the queue is the one a step runs. -/
theorem test_queue_is_first_in_first_out :
    (match step { up .depot with pending := [.nmtStop .v 0, .nmtStart .v 0] } with
     | .next t => (t.net.portV.nmt, t.pending)
     | _ => (.initialising, [])) = (.stopped, [.nmtStart .v 0]) := by decide +kernel

/-! ## The statements' hypotheses can be met -/

theorem wit_TicksAdvanceAndStepsHaveDeadlines :
    (∃ (s : State) (i : TickIn), s.running = true ∧ s.atHighWater = false ∧ s.sig.activating = false)
    ∧ (∃ (s : State) (i : TickIn), s.atHighWater = true)
    ∧ (∃ (s : State), s.running = true ∧ s.reached ((s.tilth.highWater + (tickModulus - 4096)) % tickModulus) = true)
    ∧ (∃ (s : State) (slot : Nat) (k : SessionKind), (s.slot slot).state = .carried ∧ 3 ≤ (s.slot slot).carry
        ∧ (s.slot slot).kind = some k)
    ∧ (∃ (s : State) (slot : Nat), (s.slot slot).late = true) :=
  ⟨⟨up .depot, ⟨false, false, 12000, 3300, 250, false, false, []⟩, by decide +kernel⟩,
   ⟨{ up .depot with tilth := { State.reset.tilth with tick := 8191 } }, ⟨false, false, 12000, 3300, 250, false, false, []⟩,
       by decide +kernel⟩,
   ⟨{ up .depot with tilth := { State.reset.tilth with tick := 5000 } }, by decide +kernel⟩,
   ⟨withSlot 3 { slotOf .passport .carried with carry := 3 }, 3, .passport, by decide +kernel⟩,
   ⟨withSlot 3 { slotOf .release .running with late := true }, 3, by decide +kernel⟩⟩

theorem wit_SlotsAreFilledAndMovedOn :
    (∃ (s : State) (r : Request) (rest : List Request) (n : Nat), s.running = true ∧ s.tilth.inTurn = r :: rest
        ∧ s.requestFails r = none ∧ s.placeOf r = some n ∧ n ≤ s.tilth.slots.length)
    ∧ (∃ (s : State) (r : Request), r ∈ s.tilth.waiting ∧ r.expired s.now = true)
    ∧ (∃ (s : State) (index : Nat) (p : PageIn), (s.tilth.pageIns.find? fun q => q.index == index) = some p ∧ p.requested < s.now)
    ∧ (∃ (s : State) (slot : Nat) (k : SessionKind), (s.slot slot).kind = some k ∧ (s.slot slot).waitsClods = true
        ∧ (s.slot slot).wants ≤ s.tilth.available k)
    ∧ (∃ (s : State) (slot : Nat), (s.slot slot).waitsClods = true ∧ (s.slot slot).waitFrom + 8 ≤ s.now)
    ∧ (∃ (s : State) (slot : Nat) (result : Code), (s.slot slot).state = .waitingEngine ∧ s.ownEnd slot = false
        ∧ (s.slot slot).through = none ∧ result ≠ Rc.ok)
    ∧ (∃ (s : State) (slot : Nat) (w : Through) (result : Code), (s.slot slot).state = .waitingEngine ∧ s.ownEnd slot = false
        ∧ (s.slot slot).through = some w ∧ result ≠ Rc.ok)
    ∧ (∃ (s : State) (slot : Nat) (e : Engine), (∀ c, (s.slot slot).work ≠ .attestation c) ∧ (s.slot slot).state = .waitingEngine
        ∧ s.ownEnd slot = false ∧ (s.slot slot).through = none ∧ (s.slot slot).signing = false ∧ (s.slot slot).engine = some e) :=
  ⟨⟨({ up .depot with tilth := { State.reset.tilth with waiting := [{ kind := .receipt, arrival := 0, parent := none, work := .receipt 32 false }] } } : State).shareAll, { kind := .receipt, arrival := 0, parent := none, work := .receipt 32 false }, [], 1, by decide +kernel⟩,
   ⟨{ up .depot with tilth := { State.reset.tilth with executed := 9, waiting := [{ kind := .approach, arrival := 0, parent := none, work := .idle }, { kind := .receipt, arrival := 0, parent := none, work := .receipt 32 false }] } }, { kind := .approach, arrival := 0, parent := none, work := .idle }, by decide +kernel⟩,
   ⟨{ up .depot with tilth := { State.reset.tilth with executed := 9, pageIns := [{ index := 4, requested := 3, slots := [] }] } }, 4,
       { index := 4, requested := 3, slots := [] }, by decide +kernel⟩,
   ⟨withSlot 3 { slotOf .inventory .waitingResource with wants := 4 }, 3, .inventory, by decide +kernel⟩,
   ⟨{ up .depot with tilth := { (withSlot 3 { slotOf .inventory .waitingResource with wants := 4 }).tilth with executed := 9 } }, 3,
       by decide +kernel⟩,
   ⟨withSlot 3 { slotOf .passport .waitingEngine with engine := some .kt }, 3, Rc.hwFault, by decide +kernel⟩,
   ⟨withSlot 3 { slotOf .release .waitingEngine with engine := some .nvm, through := some { index := 7, record := [], outcome := none } }, 3, { index := 7, record := [], outcome := none }, Rc.timeout, by decide +kernel⟩,
   ⟨withSlot 3 { slotOf .passport .waitingEngine with engine := some .kt }, 3, .kt, (fun _ h => nomatch h), by decide +kernel⟩⟩

theorem wit_AbortPathEndsSessions :
    (∃ (s : State) (via : Via) (fn : Nat) (value : Bytes), Reached s via 0x2110 fn value ∧ leNat value = 1)
    ∧ (∃ (s : State) (via : Via) (fn : Nat) (value : Bytes), Reached s via 0x2110 fn value ∧ leNat value ≠ 1)
    ∧ (∃ (s : State) (via : Via) (slot : Nat) (value : Bytes), Reached s via 0x2111 slot value ∧ (s.slot slot).acts = true)
    ∧ (∃ (s : State) (fn : Nat) (idle : Bool), fn ≤ 12 ∧ (s.tilth.aborts.any fun a => a.1 == .fn fn && a.2 < s.now) = true)
    ∧ (∃ (s : State) (n : Nat) (idle : Bool), (s.slot n).acts = true
        ∧ (s.tilth.aborts.any fun a => a.1 == .slot n && a.2 + 1 == s.now) = true)
    ∧ (∃ (s : State) (n : Nat) (idle : Bool), (s.slot n).state = .aborting ∧ (s.slot n).endedAt < s.now) :=
  ⟨⟨withSlot 3 { slotOf .passport .waitingEngine with engine := some .lf }, viaV, 1, [1], by decide +kernel⟩,
   ⟨up .depot, viaV, 1, [0], by decide +kernel⟩,
   ⟨withSlot 3 (slotOf .passport .ready), viaV, 3, [1], by decide +kernel⟩,
   ⟨{ up .depot with tilth := { (withSlot 3 { slotOf .passport .aborting with engine := some .lf }).tilth with executed := 9, aborts := [(.fn 1, 8)] } }, 1, true, by decide +kernel⟩,
   ⟨{ up .depot with tilth := { (withSlot 3 (slotOf .passport .ready)).tilth with executed := 9, aborts := [(.slot 3, 8)] } }, 3,
       true, by decide +kernel⟩,
   ⟨{ up .depot with tilth := { (withSlot 3 (slotOf .passport .aborting)).tilth with executed := 9 } }, 3, true, by decide +kernel⟩⟩

theorem wit_ModeChangesAreRequestedAndCommitted :
    (∃ (s : State) (via : Via) (value : Bytes) (m : Mode), Reached s via 0x2001 1 value ∧ Mode.ofCode (leNat value) = some m
        ∧ s.modeCheck m true = none)
    ∧ (∃ (s : State) (via : Via) (value : Bytes) (m : Mode), Reached s via 0x2001 3 value ∧ ((s.mode = .bound
        ∧ m = .depot) ∨ (s.mode = .depot ∧ m = .bound)) ∧ Mode.ofCode (leNat value) = some m ∧ s.modeCheck m false = none)
    ∧ (∃ (s : State) (p : PendingChange), s.life.pending = some p ∧ p.firstCopy = true)
    ∧ (∃ (s : State), s.mode = .service ∧ s.exitDelayPassed = true ∧ s.life.pending = none)
    ∧ (∃ (s : State), s.mode = .service ∧ (s.life.periods + 1) * (s.num 0x2004 2 * ticksPerSecond) ≤ s.sinceTick s.life.serviceFrom
        ∧ s.vehicle.panel.treatedOpen = true) :=
  ⟨⟨sealedFor 0x2001 1 [0x0C] (up .depot), viaV, [0x0C], .retired, reachedSealed _ _ _ _ _ (by decide +kernel), by decide +kernel⟩,
   ⟨up .depot, viaV, [0x05], .bound, by decide +kernel⟩,
   ⟨{ up .bound with life := { (up .bound).life with pending := some { target := .depot, since := 0, firstCopy := true } } },
       { target := .depot, since := 0, firstCopy := true }, by decide +kernel⟩,
   ⟨{ up .service with tilth := { State.reset.tilth with tick := 900000 }, latch := { on := true, hold := true, since := 0 } },
       by decide +kernel⟩,
   ⟨{ up .service with tilth := { State.reset.tilth with tick := 900000000 }, vehicle := { State.reset.vehicle with panel := { State.reset.vehicle.panel with open_ := true } } }, by decide +kernel⟩⟩

theorem wit_EnvelopesComeAndGo :
    (∃ (s : State) (via : Via) (value : Bytes), Reached s via 0x2020 1 value)
    ∧ (∃ (s : State) (via : Via) (value : Bytes), Reached s via 0x2020 6 value ∧ leNat value = 1 ∧ s.sealing.active ≠ none)
    ∧ (∃ (s : State) (e : Envelope), s.sealing.active = some e ∧ s.reached e.expiry = true)
    ∧ (∃ (s : State) (via : Via) (idx sub : Nat) (value : Bytes), Reached s via idx sub value ∧ isPublicKey idx sub = true
        ∧ keyModeAccepts s.mode idx = true ∧ allZero value = false ∧ s.sig.failed = false)
    ∧ (∃ (s : State) (via : Via) (idx sub : Nat) (value : Bytes), Reached s via idx sub value ∧ isPublicKey idx sub = true
        ∧ keyModeAccepts s.mode idx = true ∧ allZero value = true ∧ idx ≠ 0x2021) :=
  ⟨⟨up .depot, viaV, zeros 194, by decide +kernel⟩,
   ⟨sealedFor 0x2001 1 [1] (up .depot), viaV, [1], by decide +kernel⟩,
   ⟨{ sealedFor 0x2001 1 [1] (up .depot) with tilth := { State.reset.tilth with tick := 2000 } }, covering 0x2001 1 [1], rfl,
       by decide +kernel⟩,
   ⟨sealedFor 0x2720 1 (1 :: zeros 56) (up .depot), viaV, 0x2720, 1, 1 :: zeros 56, reachedSealed _ _ _ _ _ (by decide +kernel),
       by decide +kernel⟩,
   ⟨sealedFor 0x2720 1 (zeros 57) (up .depot), viaV, 0x2720, 1, zeros 57, reachedSealed _ _ _ _ _ (by decide +kernel),
       by decide +kernel⟩⟩

theorem wit_LfOperationsEndAndFault :
    (∃ (s : State) (r : LfRun) (vlfMv : Nat) (driven : List LfMeasure), s.lf.run = some r ∧ s.lfEnds r = true
        ∧ r.reports driven = true ∧ 7000 ≤ vlfMv ∧ vlfMv ≤ 34000)
    ∧ (∃ (s : State) (r : LfRun) (u : LfUnit) (ch : Nat) (clamp : LfClamp) (driven : List LfMeasure), s.lf.run = some r
        ∧ r.unit? = some u ∧ s.driven ch = true ∧ ch < s.lf.channels.length ∧ 3 ≤ clamp.first ∧ clamp.first ≤ clamp.cycle
        ∧ r.reports driven = true ∧ clamp.cycle ≤ 8 ∧ 2 ≤ detunedCode (min u.target (s.channel ch).ceiling) clamp.first clamp.cycle)
    ∧ (∃ (s : State) (r : LfRun) (u : LfUnit) (ch : Nat) (clamp : LfClamp) (driven : List LfMeasure), s.lf.run = some r
        ∧ r.unit? = some u ∧ s.driven ch = true ∧ ch < s.lf.channels.length ∧ 3 ≤ clamp.first ∧ clamp.first ≤ clamp.cycle
        ∧ r.reports driven = true ∧ (8 < clamp.cycle ∨ detunedCode (min u.target (s.channel ch).ceiling) clamp.first clamp.cycle < 2))
    ∧ (∃ (s : State) (r : LfRun) (ch : Nat) (driven : List LfMeasure), s.lf.run = some r ∧ s.driven ch = true
        ∧ ch < s.lf.channels.length ∧ r.reports driven = true)
    ∧ (∃ (s : State) (ch nominal : Nat), s.lf.run = none ∧ s.lf.calibrating = some (ch, nominal) ∧ ch < s.lf.channels.length)
    ∧ (∃ (s : State) (r : LfRun) (vlfMv : Nat) (driven : List LfMeasure), s.lf.run = some r ∧ r.reports driven = true
        ∧ (vlfMv < 7000 ∨ 34000 < vlfMv))
    ∧ (∃ (s : State) (ch nominal vlfMv : Nat), s.lf.run = none ∧ s.lf.calibrating = some (ch, nominal) ∧ (vlfMv < 7000 ∨ 34000 < vlfMv))
    ∧ (∃ (s : State) (via : Via) (sub : Nat) (value : Bytes), Reached s via 0x2203 sub value ∧ 1 ≤ sub ∧ sub ≤ s.lf.channels.length
        ∧ (s.channel (sub - 1)).state.isFault = true) :=
  ⟨⟨(let s := withSlot 3 (slotOf .approach .waitingEngine (.approach ((up .depot).newApproach 0)));
      { s with tilth := { s.tilth with tick := 30, executed := 30 }, lf := { s.lf with run := some { slot := 3, op := .vector, inPhase := false, nominal := 1250, cals := [], units := [{ chans := [2], target := 5, frame := none, detuned := [] }], ended := 0, onset := some 0, drives := [{ ch := 2, target := 5, onUs := 750 }] } } }), { slot := 3, op := .vector, inPhase := false, nominal := 1250, cals := [], units := [{ chans := [2], target := 5, frame := none, detuned := [] }], ended := 0, onset := some 0, drives := [{ ch := 2, target := 5, onUs := 750 }] }, 34000, [{ ch := 2, code := 5, onUs := 750, periods := [] }], by decide +kernel⟩,
   ⟨(let s := withSlot 3 (slotOf .approach .waitingEngine (.approach ((up .depot).newApproach 0)));
       { s with tilth := { s.tilth with tick := 0, executed := 0 }, lf := { s.lf with run := some { slot := 3, op := .vector, inPhase := false, nominal := 1250, cals := [], units := [{ chans := [2], target := 5, frame := none, detuned := [] }], ended := 0, onset := some 0, drives := [{ ch := 2, target := 5, onUs := 750 }] } } }), { slot := 3, op := .vector, inPhase := false, nominal := 1250, cals := [], units := [{ chans := [2], target := 5, frame := none, detuned := [] }], ended := 0, onset := some 0, drives := [{ ch := 2, target := 5, onUs := 750 }] }, { chans := [2], target := 5, frame := none, detuned := [] }, 2, ⟨3, 3⟩, [{ ch := 2, code := 5, onUs := 750, periods := [] }], by decide +kernel⟩,
   ⟨(let s := withSlot 3 (slotOf .approach .waitingEngine (.approach ((up .depot).newApproach 0)));
       { s with tilth := { s.tilth with tick := 0, executed := 0 }, lf := { s.lf with run := some { slot := 3, op := .vector, inPhase := false, nominal := 1250, cals := [], units := [{ chans := [2], target := 5, frame := none, detuned := [] }], ended := 0, onset := some 0, drives := [{ ch := 2, target := 5, onUs := 750 }] } } }), { slot := 3, op := .vector, inPhase := false, nominal := 1250, cals := [], units := [{ chans := [2], target := 5, frame := none, detuned := [] }], ended := 0, onset := some 0, drives := [{ ch := 2, target := 5, onUs := 750 }] }, { chans := [2], target := 5, frame := none, detuned := [] }, 2, ⟨3, 9⟩, [{ ch := 2, code := 5, onUs := 750, periods := [] }], by decide +kernel⟩,
   ⟨(let s := withSlot 3 (slotOf .approach .waitingEngine (.approach ((up .depot).newApproach 0)));
       { s with tilth := { s.tilth with tick := 0, executed := 0 }, lf := { s.lf with run := some { slot := 3, op := .vector, inPhase := false, nominal := 1250, cals := [], units := [{ chans := [2], target := 5, frame := none, detuned := [] }], ended := 0, onset := some 0, drives := [{ ch := 2, target := 5, onUs := 750 }] } } }), { slot := 3, op := .vector, inPhase := false, nominal := 1250, cals := [], units := [{ chans := [2], target := 5, frame := none, detuned := [] }], ended := 0, onset := some 0, drives := [{ ch := 2, target := 5, onUs := 750 }] }, 2, [{ ch := 2, code := 5, onUs := 750, periods := [] }], by decide +kernel⟩,
   ⟨{ up .depot with lf := { State.reset.lf with commanded := [2], calibrating := some (2, 1250) } }, 2, 1250, by decide +kernel⟩,
   ⟨(let s := withSlot 3 (slotOf .approach .waitingEngine (.approach ((up .depot).newApproach 0)));
       { s with tilth := { s.tilth with tick := 0, executed := 0 }, lf := { s.lf with run := some { slot := 3, op := .vector, inPhase := false, nominal := 1250, cals := [], units := [{ chans := [2], target := 5, frame := none, detuned := [] }], ended := 0, onset := some 0, drives := [{ ch := 2, target := 5, onUs := 750 }] } } }), { slot := 3, op := .vector, inPhase := false, nominal := 1250, cals := [], units := [{ chans := [2], target := 5, frame := none, detuned := [] }], ended := 0, onset := some 0, drives := [{ ch := 2, target := 5, onUs := 750 }] }, 6999, [{ ch := 2, code := 5, onUs := 750, periods := [] }], by decide +kernel⟩,
   ⟨{ up .depot with lf := { State.reset.lf with commanded := [2], calibrating := some (2, 1250) } }, 2, 1250, 34001,
       by decide +kernel⟩,
   ⟨{ up .depot with lf := { State.reset.lf with channels := List.replicate 8 { LfChannel.reset with state := .faultOpen } } }, viaV,
       8, [1], by decide +kernel⟩⟩

theorem wit_LfCalibrationsRunAndSettingsApply :
    (∃ (s : State) (via : Via) (value : Bytes), Reached s via 0x2220 0 value ∧ s.lf.commanded = [])
    ∧ (∃ (s : State) (ch : Nat), s.lf.nextCal = some ch ∧ s.lf.run = none ∧ s.lf.calibrating = none ∧ s.isOn .lfa = true
        ∧ s.classOneWaits = false ∧ 8000 ≤ s.lf.vlfMv ∧ s.lf.vlfMv ≤ 32000
        ∧ (s.channel ch).budget + calCharge (calOnUs (s.seenNum 0x2200 1)) ≤ s.lfCapacity ∧ s.thermalRefuses calEnergy = false)
    ∧ (∃ (s : State) (ch nominal hz onUs : Nat) (temp : Int), s.lf.calibrating = some (ch, nominal) ∧ calInWindow nominal hz = true
        ∧ nominal = s.num 0x2200 1 ∧ ch < s.lf.channels.length)
    ∧ (∃ (s : State) (r : LfRun) (ch hz onUs : Nat) (temp : Int), s.lf.calibrating = none ∧ s.lf.run = some r ∧ r.onset = none
        ∧ r.cals = [ch] ∧ r.op ≠ .vector ∧ calInWindow r.nominal hz = true ∧ transmittable r.op r.units = true)
    ∧ (∃ (s : State) (r : LfRun) (ch onUs : Nat) (temp : Int), s.lf.calibrating = none ∧ s.lf.run = some r ∧ r.onset = none
        ∧ r.cals = [ch] ∧ r.op ≠ .vector ∧ transmittable r.op (r.without ch).units = false ∧ (s.slot r.slot).inFlight = true
        ∧ ch < s.lf.channels.length)
    ∧ (∃ (s : State) (via : Via) (value : Bytes), Reached s via 0x2201 0 value)
    ∧ (∃ (s : State) (via : Via) (value : Bytes), Reached s via 0x2200 1 value) :=
  ⟨⟨up .depot, viaV, [0x05], by decide +kernel⟩,
   ⟨{ up .depot with lf := { State.reset.lf with commanded := [2], vlfMv := 32000 } }, 2, by decide +kernel⟩,
   ⟨{ up .depot with lf := { State.reset.lf with commanded := [2], calibrating := some (2, 1250) } }, 2, 1250, 125000, 1000, 250,
       by decide +kernel⟩,
   ⟨(let s := withSlot 3 (slotOf .approach .waitingEngine (.approach ((up .depot).newApproach 0)));
       { s with tilth := { s.tilth with tick := 0, executed := 0 }, lf := { s.lf with run := some { slot := 3, op := .wake, inPhase := false, nominal := 1250, cals := [2], units := [{ chans := [2], target := 5, frame := none, detuned := [] }], ended := 0, onset := none, drives := [{ ch := 2, target := 5, onUs := 750 }] } } }), { slot := 3, op := .wake, inPhase := false, nominal := 1250, cals := [2], units := [{ chans := [2], target := 5, frame := none, detuned := [] }], ended := 0, onset := none, drives := [{ ch := 2, target := 5, onUs := 750 }] }, 2, 125000, 1000, 250, by decide +kernel⟩,
   ⟨(let s := withSlot 3 (slotOf .approach .waitingEngine (.approach ((up .depot).newApproach 0)));
       { s with tilth := { s.tilth with tick := 0, executed := 0 }, lf := { s.lf with run := some { slot := 3, op := .wake, inPhase := false, nominal := 1250, cals := [2], units := [{ chans := [2], target := 5, frame := none, detuned := [] }], ended := 0, onset := none, drives := [{ ch := 2, target := 5, onUs := 750 }] } } }), { slot := 3, op := .wake, inPhase := false, nominal := 1250, cals := [2], units := [{ chans := [2], target := 5, frame := none, detuned := [] }], ended := 0, onset := none, drives := [{ ch := 2, target := 5, onUs := 750 }] }, 2, 1000, 250, by decide +kernel⟩,
   ⟨up .depot, viaV, [0x0F], by decide +kernel⟩,
   ⟨sealedFor 0x2200 1 (leBytes 2 1250) (up .depot), viaV, leBytes 2 1250, reachedSealed _ _ _ _ _ (by decide +kernel)⟩⟩

theorem wit_ApproachesBeginAndRoundsClose :
    (∃ (s : State) (electrode : Nat), s.running = true ∧ s.touchDeclared electrode = true ∧ s.approaching = false
        ∧ s.approachWaits = false ∧ s.touchActs = true ∧ s.fleetReady = true ∧ s.rootBad 2 = false ∧ s.tilth.waiting.length < 16)
    ∧ (∃ (s : State) (electrode : Nat), s.running = true ∧ s.touchDeclared electrode = true
        ∧ (s.approaching = true ∨ s.approachWaits = true))
    ∧ (∃ (s : State) (via : Via) (value : Bytes), Reached s via 0x2310 0 value ∧ s.approaching = false ∧ s.approachWaits = false
        ∧ s.touchActs = true ∧ s.fleetReady = true ∧ s.rootBad 2 = false ∧ s.tilth.waiting.length < 16)
    ∧ (∃ (s : State) (slot : Nat) (a : Approach) (x : Answer) (collided crcFailures h : Nat), h = handleOf x a.rk
        ∧ (s.slot slot).approach? = some a ∧ (s.slot slot).acts = true ∧ a.roundDone = false
        ∧ (s.radio.air.any fun y => y.slot == slot && y.close ≤ s.now) = true ∧ x.slot < a.slots ∧ x.payload.length = 4
        ∧ x.legacy = false ∧ a.handles.length < s.seenNum 0x2306 0 ∧ s.tilth.waiting.length < 16)
    ∧ (∃ (s : State) (slot : Nat), (s.slot slot).kind = some .approach ∧ (s.slot slot).inFlight = true
        ∧ s.lasted slot (s.seenNum 0x2305 3) = true) :=
  ⟨⟨(let s := ((up .enrol).put 0x2300 1 (leBytes 2 7)).put 0x2300 2 (leBytes 2 9);
      { s with cipher := { s.cipher with roots := (2, zeros 32) :: s.cipher.roots }, power := { s.power with electrodes := List.replicate 4 { baseline := 0, touched := false, run := 0, reacquire := 0, fresh := true } } }).shareAll, 3, by decide +kernel⟩,
   ⟨(let s := (let s := ((up .enrol).put 0x2300 1 (leBytes 2 7)).put 0x2300 2 (leBytes 2 9);
       { s with cipher := { s.cipher with roots := (2, zeros 32) :: s.cipher.roots }, power := { s.power with electrodes := List.replicate 4 { baseline := 0, touched := false, run := 0, reacquire := 0, fresh := true } } }).shareAll; s.setSlot 3 fun _ => slotOf .approach .ready), 3, by decide +kernel⟩,
   ⟨(let s := ((up .enrol).put 0x2300 1 (leBytes 2 7)).put 0x2300 2 (leBytes 2 9);
       { s with cipher := { s.cipher with roots := (2, zeros 32) :: s.cipher.roots }, power := { s.power with electrodes := List.replicate 4 { baseline := 0, touched := false, run := 0, reacquire := 0, fresh := true } } }).shareAll, viaV, [1], by decide +kernel⟩,
   ⟨(let s := withSlot 3 (slotOf .approach .waitingEngine (.approach { (up .depot).newApproach 0 with roundTick := some 0 }));
       { s with tilth := { s.tilth with executed := 90 }, radio := { s.radio with air := some { slot := 3, kind := .packet, needsGrant := false, from_ := 0, txEnd := 2, close := 90, reply := true } } }), 3, { (up .depot).newApproach 0 with roundTick := some 0 }, { slot := 1, legacy := false, payload := [1, 2, 3, 4], rx := { qualityA := 9, qualityB := 7, rssiA := -500, rssiB := -600, gain := 3 } }, 0, 0, handleOf { slot := 1, legacy := false, payload := [1, 2, 3, 4], rx := { qualityA := 9, qualityB := 7, rssiA := -500, rssiB := -600, gain := 3 } } [], rfl, by decide +kernel⟩,
   ⟨{ up .depot with tilth := { (withSlot 3 (slotOf .approach .ready)).tilth with executed := 9000000 } }, 3, by decide +kernel⟩⟩

theorem wit_BadgesAreCheckedAndRetried :
    (∃ (s : State) (slot : Nat) (rx : Reception) (payload : Bytes) (p : Nat) (a : Approach) (b : Badge),
        s.badgeIn slot BadgePhase.challenged? = some (p, a, b) ∧ b.legacy = false ∧ payload.length = 48 ∧ s.replyDue slot 48 = true)
    ∧ (∃ (s : State) (slot : Nat) (rx : Reception) (payload : Bytes) (p : Nat) (a : Approach) (b : Badge),
        s.badgeIn slot BadgePhase.challenged? = some (p, a, b) ∧ b.legacy = true ∧ payload.length = 20 ∧ s.replyDue slot 20 = true)
    ∧ (∃ (s : State) (slot : Nat) (rx : Reception) (payload : Bytes) (p : Nat) (a : Approach) (b : Badge),
        s.badgeIn slot (· == .polled) = some (p, a, b) ∧ s.changed slot = false ∧ reportLen b.legacy payload.length = true
        ∧ s.replyDue slot payload.length = true)
    ∧ (∃ (s : State) (slot p : Nat) (a : Approach) (b : Badge) (crcFailed : Bool), s.badgeIn slot BadgePhase.awaits = some (p, a, b)
        ∧ (s.radio.air.any fun x => x.slot == slot && x.reply && x.close ≤ s.now) = true ∧ b.retries < s.seenNum 0x2305 2)
    ∧ (∃ (s : State) (slot p : Nat) (a : Approach) (b : Badge) (crcFailed : Bool), s.badgeIn slot BadgePhase.awaits = some (p, a, b)
        ∧ (s.radio.air.any fun x => x.slot == slot && x.reply && x.close ≤ s.now) = true ∧ s.seenNum 0x2305 2 ≤ b.retries)
    ∧ (∃ (s : State) (slot : Nat) (b : Badge), s.missedTick (s.slot slot) = true ∧ (s.slot slot).badge? = some b ∧ b.next = .packet
        ∧ b.retries < s.seenNum 0x2305 2)
    ∧ (∃ (s : State) (slot : Nat), (s.slot slot).kind = some .badge ∧ (s.slot slot).inFlight = true
        ∧ s.lasted slot (s.seenNum 0x2305 4) = true) :=
  ⟨⟨(let s := withSlot 4 { slotOf .badge .waitingEvent (.badge { newBadge 1 false 0x1234 0 with phase := .challenged, sent := (3, zeros 48) }) with parent := some 3 } (withSlot 3 (slotOf .approach .waitingEvent (.approach ((up .depot).newApproach 0)))); { s with tilth := { s.tilth with executed := 60 }, radio := { s.radio with air := some { slot := 4, kind := .packet, needsGrant := false, from_ := 0, txEnd := 2, close := 60, reply := true } } }), 4, { qualityA := 9, qualityB := 7, rssiA := -500, rssiB := -600, gain := 3 }, zeros 48, 3, ((up .depot).newApproach 0), { newBadge 1 false 0x1234 0 with phase := .challenged, sent := (3, zeros 48) }, by decide +kernel⟩,
   ⟨(let s := withSlot 4 { slotOf .badge .waitingEvent (.badge { newBadge 1 true 0x1234 0 with phase := .challenged, sent := (0x13, zeros 16) }) with parent := some 3 } (withSlot 3 (slotOf .approach .waitingEvent (.approach ((up .depot).newApproach 0)))); { s with tilth := { s.tilth with executed := 41 }, radio := { s.radio with air := some { slot := 4, kind := .packet, needsGrant := false, from_ := 0, txEnd := 2, close := 41, reply := true } } }), 4, { qualityA := 9, qualityB := 7, rssiA := -500, rssiB := -600, gain := 3 }, zeros 20, 3, ((up .depot).newApproach 0), { newBadge 1 true 0x1234 0 with phase := .challenged, sent := (0x13, zeros 16) }, by decide +kernel⟩,
   ⟨(let s := withSlot 4 { slotOf .badge .waitingEvent (.badge { newBadge 1 false 0x1234 0 with phase := .polled, sent := (6, zeros 16) }) with parent := some 3 } (withSlot 3 (slotOf .approach .waitingEvent (.approach ((up .depot).newApproach 0)))); { s with tilth := { s.tilth with executed := 34 }, radio := { s.radio with air := some { slot := 4, kind := .packet, needsGrant := false, from_ := 0, txEnd := 2, close := 34, reply := true } } }), 4, { qualityA := 9, qualityB := 7, rssiA := -500, rssiB := -600, gain := 3 }, zeros 30, 3, ((up .depot).newApproach 0), { newBadge 1 false 0x1234 0 with phase := .polled, sent := (6, zeros 16) }, by decide +kernel⟩,
   ⟨(let s := withSlot 4 { slotOf .badge .waitingEvent (.badge { newBadge 1 false 0x1234 0 with phase := .challenged }) with parent := some 3 } (withSlot 3 (slotOf .approach .waitingEvent (.approach ((up .depot).newApproach 0)))); { s with tilth := { s.tilth with executed := 70 }, radio := { s.radio with air := some { slot := 4, kind := .packet, needsGrant := false, from_ := 0, txEnd := 2, close := 70, reply := true } } }), 4, 3, ((up .depot).newApproach 0), { newBadge 1 false 0x1234 0 with phase := .challenged }, false, by decide +kernel⟩,
   ⟨(let s := withSlot 4 { slotOf .badge .waitingEvent (.badge { newBadge 1 false 0x1234 0 with phase := .challenged, retries := 9 }) with parent := some 3 } (withSlot 3 (slotOf .approach .waitingEvent (.approach ((up .depot).newApproach 0)))); { s with tilth := { s.tilth with executed := 70 }, radio := { s.radio with air := some { slot := 4, kind := .packet, needsGrant := false, from_ := 0, txEnd := 2, close := 70, reply := true } } }), 4, 3, ((up .depot).newApproach 0), { newBadge 1 false 0x1234 0 with phase := .challenged, retries := 9 }, true, by decide +kernel⟩,
   ⟨withSlot 4 { slotOf .badge .ready (.badge (newBadge 1 false 0x1234 0)) with parent := some 3, named := some 0 }
       { up .depot with tilth := { (up .depot).tilth with tick := 5 } }, 4, newBadge 1 false 0x1234 0, by decide +kernel⟩,
   ⟨{ up .depot with tilth := { (withSlot 4 (slotOf .badge .ready)).tilth with executed := 9000000 } }, 4, by decide +kernel⟩⟩

theorem wit_SynthesiserIsCalibrated :
    (∃ (s : State) (via : Via) (value : Bytes), Reached s via 0x2420 0 value ∧ leNat value ≠ 0 ∧ s.radio.synth.running = false
        ∧ s.radio.synth.commanded = false ∧ s.radio.synth.due = none ∧ s.synthFree = true ∧ s.radioSessions = false)
    ∧ (∃ (s : State) (temp : Int), s.running = true ∧ s.isOn .rfx = true ∧ (s.dieReads temp).synthMoved temp = true
        ∧ s.radio.synth.due = none ∧ s.radio.synth.running = false ∧ s.radio.synth.commanded = false ∧ s.radio.failed = false
        ∧ s.radioInUse = false)
    ∧ (∃ (s : State), s.synthFree = true ∧ (s.radio.synth.commanded = true ∨ (s.radio.synth.due ≠ none ∧ s.radioInUse = false
        ∧ s.asSeen.radioInUse = false)))
    ∧ (∃ (s : State) (d : Tick), s.radio.synth.due = some d ∧ s.radioInUse = true ∧ s.radio.synth.overdue = false
        ∧ 20000 ≤ s.sinceTick d)
    ∧ (∃ (s : State) (subBands : List (Option (Nat × Nat))) (temp : Int), s.radio.synth.running = true
        ∧ 7 ≤ s.sinceTick s.radio.synth.lastTry ∧ subBands.length = 16 ∧ subBands.all (·.isSome) = true)
    ∧ (∃ (s : State) (subBands : List (Option (Nat × Nat))) (temp : Int), s.radio.synth.running = true
        ∧ 7 ≤ s.sinceTick s.radio.synth.lastTry ∧ subBands.all (·.isSome) = false)
    ∧ (∃ (s : State), s.radio.failed = true ∧ s.isOn .rfx = true ∧ s.radio.synth.running = false
        ∧ 10 * ticksPerSecond ≤ s.sinceTick s.radio.synth.lastTry) :=
  ⟨⟨up .depot, viaV, [1], by decide +kernel⟩,
   ⟨(let s := up .depot; { s with radio := { s.radio with synth := { State.reset.radio.synth with temp := 0 } } }), 200,
       by decide +kernel⟩,
   ⟨(let s := up .depot; { s with radio := { s.radio with synth := { State.reset.radio.synth with due := some 3 } } }),
       by decide +kernel⟩,
   ⟨(let s := { up .depot with tilth := { (up .depot).tilth with tick := 20003 } };
       { s with radio := { s.radio with raw := some .rx, synth := { State.reset.radio.synth with due := some 3 } } }), 3,
       by decide +kernel⟩,
   ⟨(let s := { up .depot with tilth := { (up .depot).tilth with tick := 9 } };
       { s with radio := { s.radio with synth := { State.reset.radio.synth with running := true } } }), List.replicate 16 (some (3,
       4)), 250, by decide +kernel⟩,
   ⟨(let s := { up .depot with tilth := { (up .depot).tilth with tick := 9 } };
       { s with radio := { s.radio with synth := { State.reset.radio.synth with running := true } } }), [none], 250, by decide +kernel⟩,
   ⟨(let s := { up .depot with tilth := { (up .depot).tilth with tick := 400000 } };
       { s with radio := { s.radio with failed := true } }), by decide +kernel⟩⟩

theorem wit_TransmissionsDeferAndCoexist :
    (∃ (s : State) (slot : Nat), s.transmits slot = true ∧ (s.slot slot).sweepsNext = false ∧ (s.slot slot).deferred < 8)
    ∧ (∃ (s : State) (slot : Nat) (b : Badge), s.transmits slot = true ∧ 8 ≤ (s.slot slot).deferred ∧ (s.slot slot).badge? = some b
        ∧ b.next = .packet ∧ b.retries < s.seenNum 0x2305 2)
    ∧ (∃ (s : State) (slot : Nat), s.transmits slot = true ∧ (s.slot slot).sweepsNext = true)
    ∧ (∃ (s : State) (which : BgCal) (passed : Bool) (tempDeci : Int) (f : BgFound), s.bgGap = true
        ∧ (bgOrder.find? fun b => s.bgDue b tempDeci) = some which ∧ bgPlace which < s.radio.bg.length)
    ∧ (∃ (s : State) (which : BgCal) (passed : Bool) (tempDeci : Int) (f : BgFound), s.bgGap = true
        ∧ (bgOrder.find? fun b => s.bgDue b tempDeci) = some which ∧ bgPlace which < s.radio.bg.length ∧ which = .iqImage
        ∧ passed = true)
    ∧ (∃ (s : State) (c : RawCommand), s.cxHeeded = true ∧ s.radio.raw = some c ∧ c.sends = true ∧ s.radio.settling = false)
    ∧ (∃ (s : State) (a : Air), s.cxHeeded = true ∧ s.radio.raw = none ∧ s.radio.air = some a ∧ a.needsGrant = true
        ∧ a.kind ≠ .packet ∧ (s.slot a.slot).inFlight = true)
    ∧ (∃ (s : State) (d : Tick), s.radio.cxHeld = some d ∧ s.cxHeeded = true ∧ 2 * ticksPerSecond < s.sinceTick d)
    ∧ (∃ (s : State), maskEnds s.radio.cxMask (s.sinceTick s.radio.cxMaskedAt) = true) :=
  ⟨⟨withSlot 4 { slotOf .badge .ready (.badge (newBadge 1 false 0x1234 0)) with parent := some 3, engine := some .rf, named := some 0, deferred := 7 }, 4, by decide +kernel⟩,
   ⟨withSlot 4 { slotOf .badge .ready (.badge (newBadge 1 false 0x1234 0)) with parent := some 3, engine := some .rf, named := some 0, deferred := 8 }, 4, newBadge 1 false 0x1234 0, by decide +kernel⟩,
   ⟨withSlot 4 { slotOf .badge .ready (.badge { newBadge 1 false 0x1234 0 with next := .sweep }) with parent := some 3, engine := some .rf, named := some 0 }, 4, by decide +kernel⟩,
   ⟨(let s := { up .depot with tilth := { (up .depot).tilth with tick := 9, executed := 9 } };
       { s with radio := { s.radio with bg := List.replicate 4 { BgState.reset with forced := true } } }), .dcOffset, false, 0,
       { imageDb := 40, gain := 3, phase := -2, paOffset := 1 }, by decide +kernel⟩,
   ⟨(let s := { up .depot with tilth := { (up .depot).tilth with tick := 9, executed := 9 } };
       { s with radio := { s.radio with bg := [BgState.reset, { BgState.reset with forced := true }, BgState.reset, BgState.reset] } }), .iqImage, true, 0, { imageDb := 40, gain := 3, phase := -2, paOffset := 1 }, by decide +kernel⟩,
   ⟨(let s := (let s := up .depot; { s with radio := { s.radio with raw := some .txCw } });
       { s with hist2 := { s.hist2 with dict := [(0x243001, [1])] } }), .txCw, by decide +kernel⟩,
   ⟨(let s := (let s := withSlot 4 (slotOf .badge .waitingEngine);
       { s with radio := { s.radio with air := some { slot := 4, kind := .sweep, needsGrant := true, from_ := 0, txEnd := 71, close := 71, reply := true } } }); { s with hist2 := { s.hist2 with dict := [(0x243001, [1])] } }), { slot := 4, kind := .sweep, needsGrant := true, from_ := 0, txEnd := 71, close := 71, reply := true }, by decide +kernel⟩,
   ⟨(let s := (let s := { up .depot with tilth := { (up .depot).tilth with tick := 80001 } };
       { s with radio := { s.radio with cxHeld := some 0 } }); { s with hist2 := { s.hist2 with dict := [(0x243001, [1])] } }), 0,
       by decide +kernel⟩,
   ⟨(let s := up .depot; { s with radio := { s.radio with cxMask := .stuck } }), by decide +kernel⟩⟩

theorem wit_RawCommandsRunAndEnd :
    (∃ (s : State) (via : Via) , Reached s via 0x2450 1 [1] ∧ s.rawRefused = none)
    ∧ (∃ (s : State) (via : Via) , Reached s via 0x2450 1 [2] ∧ s.rawRefused = none)
    ∧ (∃ (s : State) (via : Via) , Reached s via 0x2450 1 [3] ∧ s.rawRefused = none)
    ∧ (∃ (s : State) (via : Via) , Reached s via 0x2450 1 [4] ∧ s.rawRefused = none)
    ∧ (∃ (s : State) (via : Via) , Reached s via 0x2450 1 [5] ∧ s.rawRefused = none)
    ∧ (∃ (s : State) (via : Via) , Reached s via 0x2450 1 [6] ∧ s.rawRefused = none)
    ∧ (∃ (s : State) (via : Via) , Reached s via 0x2450 1 [0] ∧ rawAllowed s.mode = true ∧ s.radio.raw ≠ some .txPacket
        ∧ s.radio.raw ≠ some .scan)
    ∧ (∃ (s : State) (via : Via) (c : RawCommand), Reached s via 0x2450 1 [0] ∧ rawAllowed s.mode = true ∧ s.radio.raw = some c
        ∧ (c = .txPacket ∨ c = .scan) ∧ s.radio.settling = false)
    ∧ (∃ (s : State), s.radio.raw = some .txCw ∧ s.radio.settling = false ∧ s.radio.rawStop = false ∧ s.radio.rawUntil ≤ s.now)
    ∧ (∃ (s : State) (packets crcFailures : Nat) (last : Bytes) (rssi : Int), s.radio.raw = some .rx ∧ s.radio.settling = false
        ∧ s.radio.rawStop = false ∧ s.radio.rawUntil ≤ s.now)
    ∧ (∃ (s : State) (rssi : Bytes), s.radio.raw = some .scan ∧ s.radio.settling = false ∧ s.radio.rawStop = false
        ∧ s.radio.rawUntil ≤ s.now)
    ∧ (∃ (s : State) (samples : Bytes), s.radio.raw = some .capture ∧ s.radio.settling = false ∧ s.radio.rawStop = false
        ∧ s.radio.rawUntil ≤ s.now)
    ∧ (∃ (s : State) (c : RawCommand), s.radio.raw = some c ∧ s.radio.settling = false ∧ s.radio.rawStop = false
        ∧ s.now = s.radio.rawStart + 1) :=
  ⟨⟨up .depot, viaV, by decide +kernel⟩,
   ⟨up .depot, viaV, by decide +kernel⟩,
   ⟨up .depot, viaV, by decide +kernel⟩,
   ⟨up .depot, viaV, by decide +kernel⟩,
   ⟨up .depot, viaV, by decide +kernel⟩,
   ⟨up .depot, viaV, by decide +kernel⟩,
   ⟨(let s := up .depot; { s with radio := { s.radio with raw := some .rx } }), viaV, by decide +kernel⟩,
   ⟨(let s := up .depot; { s with radio := { s.radio with raw := some .scan } }), viaV, .scan, by decide +kernel⟩,
   ⟨(let s := up .depot; { s with radio := { s.radio with raw := some .txCw } }), by decide +kernel⟩,
   ⟨(let s := up .depot; { s with radio := { s.radio with raw := some .rx } }), 2, 1, [7], -500, by decide +kernel⟩,
   ⟨(let s := up .depot; { s with radio := { s.radio with raw := some .scan } }), [7, 8], by decide +kernel⟩,
   ⟨(let s := up .depot; { s with radio := { s.radio with raw := some .capture } }), [7, 8], by decide +kernel⟩,
   ⟨(let s := { up .depot with tilth := { (up .depot).tilth with executed := 1 } };
       { s with radio := { s.radio with raw := some .rx } }), .rx, by decide +kernel⟩⟩

theorem wit_RangingIsFusedIntoAVerdict :
    (∃ (s : State) (slot : Nat) (tones : List Tone) (p : Nat) (a : Approach) (b : Badge) (x : Air),
        s.badgeIn slot (· == .confirmed) = some (p, a, b) ∧ s.radio.air = some x ∧ x.slot = slot ∧ x.kind = .sweep ∧ s.now = x.close)
    ∧ (∃ (s : State) (slot : Nat) (echoes : List (Option ProbeEcho)) (gaps : List Nat) (p : Nat) (a : Approach) (b : Badge) (x : Air),
        s.badgeIn slot (· == .confirmed) = some (p, a, b) ∧ s.radio.air = some x ∧ x.slot = slot ∧ x.kind = .probes
        ∧ s.now = x.close ∧ (a.vectors = .none ∨ a.vectors = .running))
    ∧ (∃ (s : State) (slot p : Nat) (a : Approach) (b : Badge) (w : SweepResult) (q : ProbeResult) (m : Measured),
        m = { sweep := w, probes := q, lf := s.lfPosition a b, port := point (s.seenBytes 0x2511 (b.sweepPort + 1)) }
        ∧ s.badgeIn slot (· == .reported) = some (p, a, b) ∧ (s.slot slot).fuses = true ∧ b.sweep = some w ∧ b.probes = some q)
    ∧ (∃ (s : State) (via : Via) (value : Bytes), Reached s via 0x2501 0 value ∧ 70 ≤ maskCount value ∧ leNat value < 2 ^ 79) :=
  ⟨⟨(let s := withSlot 4 { slotOf .badge .waitingEvent (.badge { newBadge 1 false 0x1234 0 with phase := .confirmed }) with parent := some 3 } (withSlot 3 (slotOf .approach .waitingEvent (.approach ((up .depot).newApproach 0)))); { s with tilth := { s.tilth with executed := 71 }, radio := { s.radio with air := some { slot := 4, kind := .sweep, needsGrant := false, from_ := 0, txEnd := 2, close := 71, reply := true } } }), 4, [], 3, ((up .depot).newApproach 0), { newBadge 1 false 0x1234 0 with phase := .confirmed }, { slot := 4, kind := .sweep, needsGrant := false, from_ := 0, txEnd := 2, close := 71, reply := true }, by decide +kernel⟩,
   ⟨(let s := withSlot 4 { slotOf .badge .waitingEvent (.badge { newBadge 1 false 0x1234 0 with phase := .confirmed, sweep := some { dPhase := 900, dA := 900, dB := 905, residSq := 9, valid := 70 } }) with parent := some 3 } (withSlot 3 (slotOf .approach .waitingEvent (.approach ((up .depot).newApproach 0)))); { s with tilth := { s.tilth with executed := 246 }, radio := { s.radio with air := some { slot := 4, kind := .probes, needsGrant := false, from_ := 0, txEnd := 2, close := 246, reply := true } } }), 4, [some { rssi := -500, crcOk := false, handle := 0, payload := [] }, none], [1400000], 3, ((up .depot).newApproach 0), { newBadge 1 false 0x1234 0 with phase := .confirmed, sweep := some { dPhase := 900, dA := 900, dB := 905, residSq := 9, valid := 70 } }, { slot := 4, kind := .probes, needsGrant := false, from_ := 0, txEnd := 2, close := 246, reply := true }, by decide +kernel⟩,
   ⟨withSlot 4 { slotOf .badge .waitingEngine (.badge { newBadge 1 false 0x1234 0 with phase := .reported, next := .fusion, sweep := some { dPhase := 900, dA := 900, dB := 905, residSq := 9, valid := 70 }, probes := some { rt2 := 60, valid := 8 }, report := none }) with parent := some 3, engine := some .rf } (withSlot 3 (slotOf .approach .waitingEvent (.approach ((up .depot).newApproach 0)))), 4, 3, ((up .depot).newApproach 0), { newBadge 1 false 0x1234 0 with phase := .reported, next := .fusion, sweep := some { dPhase := 900, dA := 900, dB := 905, residSq := 9, valid := 70 }, probes := some { rt2 := 60, valid := 8 }, report := none }, { dPhase := 900, dA := 900, dB := 905, residSq := 9, valid := 70 }, { rt2 := 60, valid := 8 }, { sweep := { dPhase := 900, dA := 900, dB := 905, residSq := 9, valid := 70 }, probes := { rt2 := 60, valid := 8 }, lf := (withSlot 4 { slotOf .badge .waitingEngine (.badge { newBadge 1 false 0x1234 0 with phase := .reported, next := .fusion, sweep := some { dPhase := 900, dA := 900, dB := 905, residSq := 9, valid := 70 }, probes := some { rt2 := 60, valid := 8 }, report := none }) with parent := some 3, engine := some .rf } (withSlot 3 (slotOf .approach .waitingEvent (.approach ((up .depot).newApproach 0))))).lfPosition ((up .depot).newApproach 0) { newBadge 1 false 0x1234 0 with phase := .reported, next := .fusion, sweep := some { dPhase := 900, dA := 900, dB := 905, residSq := 9, valid := 70 }, probes := some { rt2 := 60, valid := 8 }, report := none }, port := point ((withSlot 4 { slotOf .badge .waitingEngine (.badge { newBadge 1 false 0x1234 0 with phase := .reported, next := .fusion, sweep := some { dPhase := 900, dA := 900, dB := 905, residSq := 9, valid := 70 }, probes := some { rt2 := 60, valid := 8 }, report := none }) with parent := some 3, engine := some .rf } (withSlot 3 (slotOf .approach .waitingEvent (.approach ((up .depot).newApproach 0))))).seenBytes 0x2511 (0 + 1)) }, rfl, by decide +kernel⟩,
   ⟨up .depot, viaV, List.replicate 9 0xFF ++ [0x7F], by decide +kernel⟩⟩

theorem wit_ExchangesChallengeAndClose :
    (∃ (s : State) (port : Port) (c : Carrier) (msg : Bytes) (op : ExchangeOp) (i n : Nat),
        s.counterpart op (field msg 2 4) = .ok (some i) ∧ c = .pdo ∧ s.portServes port = true ∧ (s.port port).nmt = .operational
        ∧ byteAt msg 0 = 1 ∧ exchangeOp? (byteAt msg 1) = some op ∧ s.mode ≠ .stationary ∧ opAllowed s.mode op = true
        ∧ s.drawState 3 = .ready ∧ s.exchangeOn c = none ∧ (s.ofKind .release).length < 4 ∧ s.tilth.gateAdmits .release = true
        ∧ 2 ≤ s.tilth.available .release ∧ s.freeSlot .release = some n ∧ n ≤ s.tilth.slots.length)
    ∧ (∃ (s : State) (port : Port) (v : Srv) (c : Carrier) (msg : Bytes) (op : ExchangeOp) (i n : Nat),
        s.counterpart op (field msg 2 4) = .ok (some i) ∧ c = .usdo v ∧ msg.length = 20 ∧ Reached s ⟨port, v⟩ 0x2610 1 msg
        ∧ byteAt msg 0 = 1 ∧ exchangeOp? (byteAt msg 1) = some op ∧ s.mode ≠ .stationary ∧ opAllowed s.mode op = true
        ∧ s.drawState 3 = .ready ∧ s.exchangeOn c = none ∧ (s.ofKind .release).length < 4 ∧ s.tilth.gateAdmits .release = true
        ∧ 2 ≤ s.tilth.available .release ∧ s.freeSlot .release = some n ∧ n ≤ s.tilth.slots.length)
    ∧ (∃ (s : State) (port : Port) (msg : Bytes) (n i : Nat) (x : Exchange) (ke : Bytes),
        ke = exchangeKey (s.vehicleKey (s.record i)) x ∧ s.portServes port = true ∧ (s.port port).nmt = .operational
        ∧ byteAt msg 0 = 3 ∧ s.exchangeOn .pdo = some n ∧ (s.slot n).exchange? = some x ∧ x.carrier = .pdo ∧ x.site = false
        ∧ x.credIndex = some i ∧ x.waiting = true ∧ x.challengeTick < s.now ∧ (s.slot n).acts = true ∧ s.changed n = false
        ∧ msg.take 8 = x.header 3 ∧ s.cipher.failed = false)
    ∧ (∃ (s : State) (c : Carrier) (n : Nat) (x : Exchange), s.exchangeOn c = some n ∧ (s.slot n).exchange? = some x
        ∧ x.waiting = true ∧ x.challengeTick + s.seenNum 0x2620 1 * ticksPerMs ≤ s.now) :=
  ⟨⟨(let s := up .depot; { s with hist2 := { s.hist2 with credentials := [(10, (leBytes 4 0x72208 ++ [3, 0] ++ leBytes 2 7 ++ leBytes 2 1 ++ zeros 118))] }, cipher := { s.cipher with roots := (2, zeros 32) :: s.cipher.roots }, rng := { s.rng with source := .ready, pool := 16, instances := List.replicate 16 { Generator.reset with seeded := true } }, tilth := { s.tilth with executed := 9 } }), .v, .pdo, ([1, 3] ++ leBytes 4 0x72208 ++ zeros 14), .status, 10, 61, rfl, by decide +kernel⟩,
   ⟨(let s := up .depot; { s with hist2 := { s.hist2 with credentials := [(10, (leBytes 4 0x72208 ++ [3, 0] ++ leBytes 2 7 ++ leBytes 2 1 ++ zeros 118))] }, cipher := { s.cipher with roots := (2, zeros 32) :: s.cipher.roots }, rng := { s.rng with source := .ready, pool := 16, instances := List.replicate 16 { Generator.reset with seeded := true } }, tilth := { s.tilth with executed := 9 } }), .v, .one, .usdo .one, ([1, 3] ++ leBytes 4 0x72208 ++ zeros 14), .status, 10, 61, rfl, by decide +kernel⟩,
   ⟨(let s := (let s := up .depot; { s with hist2 := { s.hist2 with credentials := [(10, (leBytes 4 0x72208 ++ [3, 0] ++ leBytes 2 7 ++ leBytes 2 1 ++ zeros 118))] }, cipher := { s.cipher with roots := (2, zeros 32) :: s.cipher.roots }, rng := { s.rng with source := .ready, pool := 16, instances := List.replicate 16 { Generator.reset with seeded := true } }, tilth := { s.tilth with executed := 9 } }); s.setSlot 61 fun _ => { slotOf .release .waitingEvent (.release { carrier := .pdo, port := .v, op := .status, cid := 0x72208, exid := 7, cv := zeros 16, vn := zeros 12, site := false, credIndex := some 10, ke := [], waiting := true, challengeTick := 3 }) with pins := [10] }), .v, (exchangeHeader 3 3 0x72208 7 ++ zeros 24), 61, 10, { carrier := .pdo, port := .v, op := .status, cid := 0x72208, exid := 7, cv := zeros 16, vn := zeros 12, site := false, credIndex := some 10, ke := [], waiting := true, challengeTick := 3 }, exchangeKey (((let s := (let s := up .depot; { s with hist2 := { s.hist2 with credentials := [(10, (leBytes 4 0x72208 ++ [3, 0] ++ leBytes 2 7 ++ leBytes 2 1 ++ zeros 118))] }, cipher := { s.cipher with roots := (2, zeros 32) :: s.cipher.roots }, rng := { s.rng with source := .ready, pool := 16, instances := List.replicate 16 { Generator.reset with seeded := true } }, tilth := { s.tilth with executed := 9 } }); s.setSlot 61 fun _ => { slotOf .release .waitingEvent (.release { carrier := .pdo, port := .v, op := .status, cid := 0x72208, exid := 7, cv := zeros 16, vn := zeros 12, site := false, credIndex := some 10, ke := [], waiting := true, challengeTick := 3 }) with pins := [10] })).vehicleKey (((let s := (let s := up .depot; { s with hist2 := { s.hist2 with credentials := [(10, (leBytes 4 0x72208 ++ [3, 0] ++ leBytes 2 7 ++ leBytes 2 1 ++ zeros 118))] }, cipher := { s.cipher with roots := (2, zeros 32) :: s.cipher.roots }, rng := { s.rng with source := .ready, pool := 16, instances := List.replicate 16 { Generator.reset with seeded := true } }, tilth := { s.tilth with executed := 9 } }); s.setSlot 61 fun _ => { slotOf .release .waitingEvent (.release { carrier := .pdo, port := .v, op := .status, cid := 0x72208, exid := 7, cv := zeros 16, vn := zeros 12, site := false, credIndex := some 10, ke := [], waiting := true, challengeTick := 3 }) with pins := [10] })).record 10)) { carrier := .pdo, port := .v, op := .status, cid := 0x72208, exid := 7, cv := zeros 16, vn := zeros 12, site := false, credIndex := some 10, ke := [], waiting := true, challengeTick := 3 }, rfl, by decide +kernel⟩,
   ⟨(let s := (let s := (let s := up .depot; { s with hist2 := { s.hist2 with credentials := [(10, (leBytes 4 0x72208 ++ [3, 0] ++ leBytes 2 7 ++ leBytes 2 1 ++ zeros 118))] }, cipher := { s.cipher with roots := (2, zeros 32) :: s.cipher.roots }, rng := { s.rng with source := .ready, pool := 16, instances := List.replicate 16 { Generator.reset with seeded := true } }, tilth := { s.tilth with executed := 9 } }); s.setSlot 61 fun _ => { slotOf .release .waitingEvent (.release { carrier := .pdo, port := .v, op := .status, cid := 0x72208, exid := 7, cv := zeros 16, vn := zeros 12, site := false, credIndex := some 10, ke := [], waiting := true, challengeTick := 3 }) with pins := [10] }); { s with tilth := { s.tilth with executed := 900000 } }), .pdo, 61, { carrier := .pdo, port := .v, op := .status, cid := 0x72208, exid := 7, cv := zeros 16, vn := zeros 12, site := false, credIndex := some 10, ke := [], waiting := true, challengeTick := 3 }, by decide +kernel⟩⟩

theorem wit_LockLatchAndPanelEventsAct :
    (∃ (s : State), s.vehicle.hvilDue = true ∧ s.lock.released = true)
    ∧ (∃ (s : State) (land : Land), s.running = true ∧ s.mismatchDue land = true ∧ s.feedbackOn land = false ∧ s.lock.released = true)
    ∧ (∃ (s : State) (land : Land), s.running = true ∧ s.mismatchDue land = true ∧ s.feedbackOn land = true ∧ s.lock.released = false)
    ∧ (∃ (s : State), s.latch.on = true ∧ s.latch.hold = false ∧ s.seenNum 0x2650 1 * ticksPerMs ≤ s.sinceTick s.latch.since)
    ∧ (∃ (s : State), s.running = true ∧ s.vehicle.panel.open_ = false)
    ∧ (∃ (s : State) (cause : MaskCause), s.running = true ∧ s.panelMaskDue cause = true)
    ∧ (∃ (s : State), s.running = true ∧ maskEnds s.vehicle.panel.mask (s.sinceTick s.vehicle.panel.maskedAt) = true)
    ∧ (∃ (s : State), s.running = true ∧ s.vehicle.panel.open_ = true) :=
  ⟨⟨{ (let s := up .depot; { s with vehicle := { s.vehicle with hvilDue := true } }) with lock := { released := true, changeTick := 5, cause := 1, credential := 9 } }, by decide +kernel⟩,
   ⟨{ (let s := { up .depot with tilth := { (up .depot).tilth with executed := 9000000, tick := 9000000 } }; { s with vehicle := { s.vehicle with feedbackA := { FeedbackLand.reset false with disagree := some 0 } } }) with lock := { released := true, changeTick := 5, cause := 1, credential := 9 } }, .lkfba, by decide +kernel⟩,
   ⟨(let s := { up .depot with tilth := { (up .depot).tilth with executed := 9000000, tick := 9000000 } };
       { s with vehicle := { s.vehicle with feedbackA := { FeedbackLand.reset false with disagree := some 0, level := true } } }),
       .lkfba, by decide +kernel⟩,
   ⟨{ { up .depot with tilth := { (up .depot).tilth with executed := 9000000, tick := 9000000 } } with latch := { on := true, hold := false, since := 0 } }, by decide +kernel⟩,
   ⟨up .depot, by decide +kernel⟩,
   ⟨(let s := { up .depot with tilth := { (up .depot).tilth with executed := 9000000, tick := 9000000 } };
       { s with vehicle := { s.vehicle with panel := { s.vehicle.panel with open_ := true } } }), .stuck, by decide +kernel⟩,
   ⟨(let s := { up .depot with tilth := { (up .depot).tilth with executed := 9000000, tick := 9000000 } };
       { s with vehicle := { s.vehicle with panel := { s.vehicle.panel with mask := .stuck } } }), by decide +kernel⟩,
   ⟨(let s := { up .depot with tilth := { (up .depot).tilth with executed := 9000000, tick := 9000000 } };
       { s with vehicle := { s.vehicle with panel := { s.vehicle.panel with open_ := true } } }), by decide +kernel⟩⟩

theorem wit_InventoryWalksAreRequestedAndEnd :
    (∃ (s : State) (via : Via) , Reached s via 0x2710 1 [1]
        ∧ s.inventoryRefused .read (s.seenNum 0x2710 2 &&& s.seenNum 0x2701 1) = none ∧ s.tilth.waiting.length < 16)
    ∧ (∃ (s : State) (via : Via) , Reached s via 0x2710 1 [2]
        ∧ s.inventoryRefused .bind (s.seenNum 0x2710 2 &&& s.seenNum 0x2701 1) = none ∧ s.tilth.waiting.length < 16)
    ∧ (∃ (s : State) (via : Via) , Reached s via 0x2710 1 [3]
        ∧ s.inventoryRefused .check (s.seenNum 0x2710 2 &&& s.seenNum 0x2701 1) = none ∧ s.tilth.waiting.length < 16)
    ∧ (∃ (s : State), s.running = true ∧ s.seenNum 0x2711 1 ≠ 0 ∧ s.seenNum 0x2711 1 * ticksPerSecond ≤ s.sinceTick s.inv.checkFrom
        ∧ s.inventoryRefused .check (s.seenNum 0x2701 1) = none ∧ s.tilth.waiting.length < 16)
    ∧ (∃ (s : State) (via : Via) (value : Bytes) (mask seen : Nat) (tags : List Tag), Reached s via 0x2712 3 value
        ∧ s.inv.candidates = some (mask, seen, tags) ∧ candidateDigest tags = value ∧ (s.mode = .enrol ∨ s.mode = .repurpose)
        ∧ s.walking = false ∧ overfull (s.committed mask seen tags) = false)
    ∧ (∃ (s : State) (w : Walk), s.inv.walk = some w ∧ (s.slot s.walkSlot).inFlight = true
        ∧ s.lasted s.walkSlot w.settings.limit = true) :=
  ⟨⟨up .enrol, viaV, by decide +kernel⟩,
   ⟨((up .enrol).put 0x2720 1 (1 :: zeros 56)).shareAll, viaV, by decide +kernel⟩,
   ⟨up .enrol, viaV, by decide +kernel⟩,
   ⟨(let s := up .depot; { s with tilth := { s.tilth with tick := 9000000 }, hist2 := { s.hist2 with dict := [(0x271101, [60, 0, 0, 0])] } }), by decide +kernel⟩,
   ⟨sealedFor 0x2712 3 (candidateDigest []) { up .enrol with inv := { State.reset.inv with candidates := some (1, 5, []) } }, viaV,
       candidateDigest [], 1, 5, [], reachedSealed _ _ _ _ _ (by decide +kernel), rfl, rfl, by decide +kernel⟩,
   ⟨(let s := (let s := withSlot 3 { slotOf .inventory .waitingEngine (.inventory .check 1) with engine := some .hf };
       { s with inv := { s.inv with walk := some { purpose := .check, settings := { settle := 0, guard := 0, power := 200, maxRate := 3, fwiCap := 8, retries := 2, limit := 1000, action := 0, keys := [] }, mask := 1, todo := [], loop := 0, stack := [], step := .fieldOff, retries := 0, firstLoop := true, offFrom := 0, reqaAt := 0, fwi := 0, selections := [], taken := 0, since := 0, scanned := false } } }).shareAll; { s with tilth := { s.tilth with executed := 90000000 } }), { purpose := .check, settings := { settle := 0, guard := 0, power := 200, maxRate := 3, fwiCap := 8, retries := 2, limit := 1000, action := 0, keys := [] }, mask := 1, todo := [], loop := 0, stack := [], step := .fieldOff, retries := 0, firstLoop := true, offFrom := 0, reqaAt := 0, fwi := 0, selections := [], taken := 0, since := 0, scanned := false }, by decide +kernel⟩⟩

theorem wit_WalksFindAndVerifyTags :
    (∃ (s : State) (w : Walk) (b : Branch) (rest : List Branch) (vhfMv driver : Nat), s.inv.walk = some w
        ∧ purposeAllowed s.seen.life.mode w.purpose = true ∧ (s.slot s.walkSlot).acts = true ∧ s.onHf s.walkSlot = true
        ∧ w.step = .fieldOff ∧ w.scanned = false ∧ w.stack = b :: rest ∧ s.platform.fallbackClock = false ∧ 3000 ≤ vhfMv
        ∧ vhfMv ≤ 5500 ∧ s.thermalRefuses w.fieldEnergy = false ∧ w.offUs + w.settings.guard ≤ s.sinceTick w.offFrom * 25
        ∧ 70 ≤ driver ∧ driver ≤ 130)
    ∧ (∃ (s : State) (w : Walk) (b : Branch), s.inv.walk = some w ∧ purposeAllowed s.seen.life.mode w.purpose = true
        ∧ (s.slot s.walkSlot).acts = true ∧ s.onHf s.walkSlot = true ∧ w.step = .reqa b ∧ b.done = [] ∧ b.known.length ≠ 32)
    ∧ (∃ (s : State) (w : Walk) (b : Branch) (answer : List Bool), s.inv.walk = some w
        ∧ purposeAllowed s.seen.life.mode w.purpose = true ∧ (s.slot s.walkSlot).acts = true ∧ s.onHf s.walkSlot = true
        ∧ w.step = .anticollision b ∧ b.known.length + answer.length < 31)
    ∧ (∃ (s : State) (w : Walk) (b : Branch) (answer : List Bool), s.inv.walk = some w
        ∧ purposeAllowed s.seen.life.mode w.purpose = true ∧ (s.slot s.walkSlot).acts = true ∧ s.onHf s.walkSlot = true
        ∧ w.step = .anticollision b ∧ b.known.length + answer.length = 32)
    ∧ (∃ (s : State) (w : Walk) (entry : Nat) (g : Tag), s.inv.walk = some w ∧ purposeAllowed s.seen.life.mode w.purpose = true
        ∧ (s.slot s.walkSlot).acts = true ∧ s.sigFree = true ∧ entry ≠ 0 ∧ s.inv.results[entry - 1]? = some g ∧ g.state = none
        ∧ g.record.length = 32 ∧ s.sig.failed = false) :=
  ⟨⟨(let s := withSlot 3 { slotOf .inventory .waitingEngine (.inventory .check 1) with engine := some .hf };
      { s with inv := { s.inv with walk := some { purpose := .check, settings := { settle := 0, guard := 0, power := 200, maxRate := 3, fwiCap := 8, retries := 2, limit := 1000, action := 0, keys := [] }, mask := 1, todo := [], loop := 0, stack := [{ level := 1, done := [], known := [] }], step := .fieldOff, retries := 0, firstLoop := true, offFrom := 0, reqaAt := 0, fwi := 0, selections := [], taken := 0, since := 0, scanned := false } } }).shareAll, { purpose := .check, settings := { settle := 0, guard := 0, power := 200, maxRate := 3, fwiCap := 8, retries := 2, limit := 1000, action := 0, keys := [] }, mask := 1, todo := [], loop := 0, stack := [{ level := 1, done := [], known := [] }], step := .fieldOff, retries := 0, firstLoop := true, offFrom := 0, reqaAt := 0, fwi := 0, selections := [], taken := 0, since := 0, scanned := false }, { level := 1, done := [], known := [] }, [], 5000, 100, by decide +kernel⟩,
   ⟨(let s := withSlot 3 { slotOf .inventory .waitingEngine (.inventory .check 1) with engine := some .hf };
       { s with inv := { s.inv with walk := some { purpose := .check, settings := { settle := 0, guard := 0, power := 200, maxRate := 3, fwiCap := 8, retries := 2, limit := 1000, action := 0, keys := [] }, mask := 1, todo := [], loop := 0, stack := [], step := .reqa { level := 1, done := [], known := [] }, retries := 0, firstLoop := true, offFrom := 0, reqaAt := 0, fwi := 0, selections := [], taken := 0, since := 0, scanned := false } } }).shareAll, { purpose := .check, settings := { settle := 0, guard := 0, power := 200, maxRate := 3, fwiCap := 8, retries := 2, limit := 1000, action := 0, keys := [] }, mask := 1, todo := [], loop := 0, stack := [], step := .reqa { level := 1, done := [], known := [] }, retries := 0, firstLoop := true, offFrom := 0, reqaAt := 0, fwi := 0, selections := [], taken := 0, since := 0, scanned := false }, { level := 1, done := [], known := [] }, by decide +kernel⟩,
   ⟨(let s := withSlot 3 { slotOf .inventory .waitingEngine (.inventory .check 1) with engine := some .hf };
       { s with inv := { s.inv with walk := some { purpose := .check, settings := { settle := 0, guard := 0, power := 200, maxRate := 3, fwiCap := 8, retries := 2, limit := 1000, action := 0, keys := [] }, mask := 1, todo := [], loop := 0, stack := [], step := .anticollision { level := 1, done := [], known := [] }, retries := 0, firstLoop := true, offFrom := 0, reqaAt := 0, fwi := 0, selections := [], taken := 0, since := 0, scanned := false } } }).shareAll, { purpose := .check, settings := { settle := 0, guard := 0, power := 200, maxRate := 3, fwiCap := 8, retries := 2, limit := 1000, action := 0, keys := [] }, mask := 1, todo := [], loop := 0, stack := [], step := .anticollision { level := 1, done := [], known := [] }, retries := 0, firstLoop := true, offFrom := 0, reqaAt := 0, fwi := 0, selections := [], taken := 0, since := 0, scanned := false }, { level := 1, done := [], known := [] }, [true, false], by decide +kernel⟩,
   ⟨(let s := withSlot 3 { slotOf .inventory .waitingEngine (.inventory .check 1) with engine := some .hf };
       { s with inv := { s.inv with walk := some { purpose := .check, settings := { settle := 0, guard := 0, power := 200, maxRate := 3, fwiCap := 8, retries := 2, limit := 1000, action := 0, keys := [] }, mask := 1, todo := [], loop := 0, stack := [], step := .anticollision { level := 1, done := [], known := [] }, retries := 0, firstLoop := true, offFrom := 0, reqaAt := 0, fwi := 0, selections := [], taken := 0, since := 0, scanned := false } } }).shareAll, { purpose := .check, settings := { settle := 0, guard := 0, power := 200, maxRate := 3, fwiCap := 8, retries := 2, limit := 1000, action := 0, keys := [] }, mask := 1, todo := [], loop := 0, stack := [], step := .anticollision { level := 1, done := [], known := [] }, retries := 0, firstLoop := true, offFrom := 0, reqaAt := 0, fwi := 0, selections := [], taken := 0, since := 0, scanned := false }, { level := 1, done := [], known := [] }, List.replicate 32 true, by decide +kernel⟩,
   ⟨(let s := withSlot 3 { slotOf .inventory .waitingEngine (.inventory .check 1) with engine := some .hf };
       { s with inv := { s.inv with walk := some { purpose := .check, settings := { settle := 0, guard := 0, power := 200, maxRate := 3, fwiCap := 8, retries := 2, limit := 1000, action := 0, keys := [] }, mask := 1, todo := [], loop := 0, stack := [], step := .deselect, retries := 0, firstLoop := true, offFrom := 0, reqaAt := 0, fwi := 0, selections := [], taken := 0, since := 0, scanned := false }, results := [{ uid := [1, 2, 3, 4], loop := 0, also := 1, state := none, keySlot := 1, rate := 0, type := zeros 2, serial := zeros 4, record := zeros 32, signature := zeros 114 }] } }).shareAll, { purpose := .check, settings := { settle := 0, guard := 0, power := 200, maxRate := 3, fwiCap := 8, retries := 2, limit := 1000, action := 0, keys := [] }, mask := 1, todo := [], loop := 0, stack := [], step := .deselect, retries := 0, firstLoop := true, offFrom := 0, reqaAt := 0, fwi := 0, selections := [], taken := 0, since := 0, scanned := false }, 1, { uid := [1, 2, 3, 4], loop := 0, also := 1, state := none, keySlot := 1, rate := 0, type := zeros 2, serial := zeros 4, record := zeros 32, signature := zeros 114 }, by decide +kernel⟩⟩

theorem wit_KaolinFieldSessionsBeginAndEnd :
    (∃ (s : State) (power reservoir : Nat), s.kaolin.field = none ∧ 80 ≤ power)
    ∧ (∃ (s : State) (f : FieldSession), s.kaolin.field = some f ∧ s.vddSupplied = false)
    ∧ (∃ (s : State) (h : Harvest) (f : FieldSession) (rate : Nat), s.kaolin.field = some f ∧ f.active = false ∧ rate ≤ 1)
    ∧ (∃ (s : State) (f : FieldSession), s.kaolin.field = some f ∧ f.active = true)
    ∧ (∃ (s : State) (u : State) (f : FieldSession) (apdu : Apdu) (a : KaolinApp), u = s.beginCommand apdu.harvest
        ∧ u.kaolin.field = some f ∧ f.active = true ∧ f.secured = .open_ ∧ apdu.sm = false ∧ appOf apdu.data = some a)
    ∧ (∃ (s : State) (u : State) (f : FieldSession) (apdu : Apdu) (a : KaolinApp), u = s.beginCommand apdu.harvest
        ∧ u.kaolin.field = some f ∧ f.active = true ∧ f.secured = .open_ ∧ apdu.sm = false ∧ apdu.data.length = 2 ∧ f.app = some a
        ∧ fileOf a (beNat apdu.data) = true)
    ∧ (∃ (s : State) (h : Harvest) (u : State) (f : FieldSession) (cla ins : Byte), u = s.beginCommand h ∧ u.kaolin.field = some f
        ∧ f.active = true ∧ ¬ cla ∈ ([0x00, 0x80, 0x0C, 0x8C] : List Byte))
    ∧ (∃ (s : State) (h : Harvest) (u : State) (f : FieldSession) (cla ins : Byte), u = s.beginCommand h ∧ u.kaolin.field = some f
        ∧ f.active = true ∧ cla ∈ ([0x00, 0x80, 0x0C, 0x8C] : List Byte) ∧ ¬ ins ∈ knownIns cla) :=
  ⟨⟨up .depot, 80, 100, by decide +kernel⟩,
   ⟨(let s := { up .depot with power := State.reset.power };
       { s with kaolin := { s.kaolin with field := some { FieldSession.new 200 with active := true } } }),
       { FieldSession.new 200 with active := true }, by decide +kernel⟩,
   ⟨(let s := up .depot; { s with kaolin := { s.kaolin with field := some (FieldSession.new 200) } }),
       { power := 200, reservoir := 200 }, FieldSession.new 200, 1, by decide +kernel⟩,
   ⟨(let s := up .depot; { s with kaolin := { s.kaolin with field := some { FieldSession.new 200 with active := true } } }),
       { FieldSession.new 200 with active := true }, by decide +kernel⟩,
   ⟨(let s := up .depot; { s with kaolin := { s.kaolin with field := some { FieldSession.new 200 with active := true } } }),
       ((let s := up .depot; { s with kaolin := { s.kaolin with field := some { FieldSession.new 200 with active := true } } })).beginCommand { power := 200, reservoir := 200 }, { FieldSession.new 200 with active := true }, ⟨false, [0xD2, 0x76, 0x00, 0x00, 0x85, 0x01, 0x01], { power := 200, reservoir := 200 }⟩, .ndef, rfl, by decide +kernel⟩,
   ⟨(let s := up .depot; { s with kaolin := { s.kaolin with field := some { FieldSession.new 200 with active := true, app := some .ndef } } }), ((let s := up .depot; { s with kaolin := { s.kaolin with field := some { FieldSession.new 200 with active := true, app := some .ndef } } })).beginCommand { power := 200, reservoir := 200 }, { FieldSession.new 200 with active := true, app := some .ndef }, ⟨false, [0xE1, 0x04], { power := 200, reservoir := 200 }⟩, .ndef, rfl, by decide +kernel⟩,
   ⟨(let s := up .depot; { s with kaolin := { s.kaolin with field := some { FieldSession.new 200 with active := true } } }),
       { power := 200, reservoir := 200 }, ((let s := up .depot;
       { s with kaolin := { s.kaolin with field := some { FieldSession.new 200 with active := true } } })).beginCommand
       { power := 200, reservoir := 200 }, { FieldSession.new 200 with active := true }, 0x90, 0xB0, rfl, by decide +kernel⟩,
   ⟨(let s := up .depot; { s with kaolin := { s.kaolin with field := some { FieldSession.new 200 with active := true } } }),
       { power := 200, reservoir := 200 }, ((let s := up .depot;
       { s with kaolin := { s.kaolin with field := some { FieldSession.new 200 with active := true } } })).beginCommand
       { power := 200, reservoir := 200 }, { FieldSession.new 200 with active := true }, 0x80, 0xB0, rfl, by decide +kernel⟩⟩

theorem wit_KaolinReadsAndAuthenticates :
    (∃ (s : State) (u : State) (f : FieldSession) (p1 p2 : Byte) (apdu : Apdu) (le fid : Nat) (c : Bytes),
        u = s.beginCommand apdu.harvest ∧ u.kaolin.field = some f ∧ f.active = true ∧ f.secured = .open_ ∧ apdu.sm = false
        ∧ p1.toNat < 128 ∧ le ≤ 246 ∧ f.file = some fid ∧ f.voided = false ∧ u.mayRead f fid = true ∧ u.fieldFile fid = some c
        ∧ offsetOf p1 p2 < c.length)
    ∧ (∃ (s : State) (u : State) (f : FieldSession) (apdu : Apdu), u = s.beginCommand apdu.harvest ∧ u.kaolin.field = some f
        ∧ f.active = true ∧ f.secured = .open_ ∧ f.app = some .kaolin ∧ securedAllowed u.mode = true ∧ apdu.sm = false
        ∧ apdu.data.length = 4 ∧ allZero (u.seenBytes 0x2810 1) = false ∧ u.kaolin.pinTries ≠ 0 ∧ u.guardHolds 2 = true)
    ∧ (∃ (s : State) (u : State) (f : FieldSession) (apdu : Apdu), u = s.beginCommand apdu.harvest ∧ u.kaolin.field = some f
        ∧ f.active = true ∧ f.secured = .open_ ∧ f.app = some .kaolin ∧ securedAllowed u.mode = true ∧ apdu.sm = false
        ∧ u.coreOn = true ∧ u.rng.source ≠ .latched ∧ u.drawFails 3 = none)
    ∧ (∃ (s : State) (u : State) (f : FieldSession) (apdu : Apdu) (c : Bytes), u = s.beginCommand apdu.harvest
        ∧ u.kaolin.field = some f ∧ f.active = true ∧ f.secured = .open_ ∧ f.app = some .kaolin ∧ securedAllowed u.mode = true
        ∧ apdu.sm = false ∧ u.coreOn = false ∧ f.pool.length < 16 ∧ u.kaolin.carry = some c ∧ u.guardHolds 48 = true)
    ∧ (∃ (s : State) (u : State) (f : FieldSession) (apdu : Apdu) (ck : Bytes) (e : Nat), u = s.beginCommand apdu.harvest
        ∧ u.kaolin.field = some f ∧ f.active = true ∧ f.secured = .open_ ∧ f.app = some .kaolin ∧ securedAllowed u.mode = true
        ∧ apdu.sm = false ∧ apdu.data.length = 32 ∧ u.hasRoot 2 = true ∧ u.rootBad 2 = false ∧ f.challenge = some ck
        ∧ u.readerEntry (leNat (apdu.data.take 4)) = some e ∧ ((u.kaolin.failures[e - 1]?).getD 0) < u.seenNum 0x2813 0
        ∧ u.cipher.failed = false ∧ u.guardHolds 1 = true)
    ∧ (∃ (s : State) (u : State) (f : FieldSession) (apdu : Apdu), u = s.beginCommand apdu.harvest ∧ u.kaolin.field = some f
        ∧ f.active = true ∧ f.secured = .pin ∧ u.passportSlot f ≠ none ∧ apdu.sm = false ∧ 16 ≤ apdu.data.length
        ∧ apdu.data.length ≤ 64 ∧ u.sig.identity = true ∧ u.identityBad = false ∧ bit (u.rights f) 2 = true ∧ u.sig.failed = false
        ∧ (u.vddSupplied = true ∨ (120 ≤ u.kaolin.power ∧ 200 ≤ u.kaolin.reservoir)))
    ∧ (∃ (s : State), s.kaolin.signing = true) :=
  ⟨⟨(let s := up .depot; { s with kaolin := { s.kaolin with field := some { FieldSession.new 200 with active := true, app := some .ndef, file := some 0xE103 } } }), ((let s := up .depot; { s with kaolin := { s.kaolin with field := some { FieldSession.new 200 with active := true, app := some .ndef, file := some 0xE103 } } })).beginCommand { power := 200, reservoir := 200 }, { FieldSession.new 200 with active := true, app := some .ndef, file := some 0xE103 }, 0, 2, ⟨false, [], { power := 200, reservoir := 200 }⟩, 4, 0xE103, [0x00, 0x0F, 0x20, 0x00, 0xF6, 0x00, 0xF6, 0x04, 0x06, 0xE1, 0x04, 0x10, 0x00, 0x00, 0xFF], rfl, by decide +kernel⟩,
   ⟨(let s := ((up .depot).put 0x2810 1 (1 :: zeros 31)).shareAll;
       { s with kaolin := { s.kaolin with field := some { FieldSession.new 200 with active := true, app := some .kaolin } } }),
       ((let s := ((up .depot).put 0x2810 1 (1 :: zeros 31)).shareAll;
       { s with kaolin := { s.kaolin with field := some { FieldSession.new 200 with active := true, app := some .kaolin } } })).beginCommand { power := 200, reservoir := 200 }, { FieldSession.new 200 with active := true, app := some .kaolin }, ⟨false, [1, 2, 3, 4], { power := 200, reservoir := 200 }⟩, rfl, by decide +kernel⟩,
   ⟨(let s := (let s := up .depot; { s with rng := { s.rng with source := .ready, pool := 16, instances := List.replicate 16 { Generator.reset with seeded := true } } }); { s with kaolin := { s.kaolin with field := some { FieldSession.new 200 with active := true, app := some .kaolin } } }), ((let s := (let s := up .depot; { s with rng := { s.rng with source := .ready, pool := 16, instances := List.replicate 16 { Generator.reset with seeded := true } } }); { s with kaolin := { s.kaolin with field := some { FieldSession.new 200 with active := true, app := some .kaolin } } })).beginCommand { power := 200, reservoir := 200 }, { FieldSession.new 200 with active := true, app := some .kaolin }, ⟨false, [], { power := 200, reservoir := 200 }⟩, rfl, by decide +kernel⟩,
   ⟨(let s := { up .depot with power := State.reset.power };
       { s with kaolin := { s.kaolin with field := some { FieldSession.new 200 with active := true, app := some .kaolin }, carry := some [1] } }), ((let s := { up .depot with power := State.reset.power }; { s with kaolin := { s.kaolin with field := some { FieldSession.new 200 with active := true, app := some .kaolin }, carry := some [1] } })).beginCommand { power := 200, reservoir := 200 }, { FieldSession.new 200 with active := true, app := some .kaolin }, ⟨false, [], { power := 200, reservoir := 200 }⟩, [1], rfl, by decide +kernel⟩,
   ⟨(let s := (let s := ((up .depot).put 0x2811 1 (leBytes 4 0x55 ++ [0x0F] ++ zeros 3)).shareAll;
       { s with cipher := { s.cipher with roots := (2, zeros 32) :: s.cipher.roots } });
       { s with kaolin := { s.kaolin with field := some { FieldSession.new 200 with active := true, app := some .kaolin, challenge := some (zeros 16) } } }), ((let s := (let s := ((up .depot).put 0x2811 1 (leBytes 4 0x55 ++ [0x0F] ++ zeros 3)).shareAll; { s with cipher := { s.cipher with roots := (2, zeros 32) :: s.cipher.roots } }); { s with kaolin := { s.kaolin with field := some { FieldSession.new 200 with active := true, app := some .kaolin, challenge := some (zeros 16) } } })).beginCommand { power := 200, reservoir := 200 }, { FieldSession.new 200 with active := true, app := some .kaolin, challenge := some (zeros 16) }, ⟨false, leBytes 4 0x55 ++ zeros 28, { power := 200, reservoir := 200 }⟩, zeros 16, 1, rfl, by decide +kernel⟩,
   ⟨(let s := ((up .depot).put 0x2810 4 [0x0F]).shareAll;
       { s with kaolin := { s.kaolin with field := some { FieldSession.new 200 with active := true, app := some .kaolin, secured := .pin } } }), ((let s := ((up .depot).put 0x2810 4 [0x0F]).shareAll; { s with kaolin := { s.kaolin with field := some { FieldSession.new 200 with active := true, app := some .kaolin, secured := .pin } } })).beginCommand { power := 200, reservoir := 200 }, { FieldSession.new 200 with active := true, app := some .kaolin, secured := .pin }, ⟨false, zeros 16, { power := 200, reservoir := 200 }⟩, rfl, by decide +kernel⟩,
   ⟨(let s := up .depot; { s with kaolin := { s.kaolin with field := some { FieldSession.new 200 with active := true }, signing := true } }), by decide +kernel⟩⟩

theorem wit_KaolinFilesAreAppendedAndCommitted :
    (∃ (s : State) (u : State) (f : FieldSession) (e i o fid : Nat) (k : Bytes) (p1 p2 : Byte) (apdu : Apdu),
        u = s.beginCommand apdu.harvest ∧ u.kaolin.field = some f ∧ f.active = true ∧ f.secured = .reader e k i o
        ∧ u.passportSlot f ≠ none ∧ apdu.sm = true ∧ bit (u.rights f) 1 = true ∧ u.cipher.failed = false ∧ p1.toNat < 128
        ∧ f.file = some fid ∧ f.voided = false ∧ isMaint fid = true ∧ f.stagesOther fid = false)
    ∧ (∃ (s : State) (u : State) (f : FieldSession) (e i o fid : Nat) (k staged : Bytes) (apdu : Apdu),
        u = s.beginCommand apdu.harvest ∧ u.kaolin.field = some f ∧ f.active = true ∧ f.secured = .reader e k i o
        ∧ u.passportSlot f ≠ none ∧ apdu.sm = true ∧ bit (u.rights f) 1 = true ∧ u.cipher.failed = false
        ∧ f.staged = some (fid, staged) ∧ u.fileHeld fid = true)
    ∧ (∃ (s : State) (via : Via) (value : Bytes), Reached s via 0x2820 2 value ∧ (s.mode = .enrol ∨ s.mode = .repurpose)
        ∧ s.fileRefused (s.seenNum 0x2820 1) value = none)
    ∧ (∃ (s : State) (w : HostFileWrite) (n : Nat) (rest : List Nat), s.kaolin.hostWrite = some w ∧ s.ofKind .passport = n :: rest
        ∧ w.content.length ≤ w.filled + 2048 ∧ s.fileHeld w.fid = true ∧ (s.slot n).state = .waitingEngine
        ∧ (s.mode = .enrol ∨ s.mode = .repurpose) ∧ (s.kaolin.field.any fun f => f.staged.any fun e => e.1 == w.fid) = false)
    ∧ (∃ (s : State) (w : HostFileWrite), s.kaolin.hostWrite = some w ∧ s.ofKind .passport = []
        ∧ s.seenNum 0x2821 2 * ticksPerMs ≤ s.sinceTick w.since)
    ∧ (∃ (s : State), s.coreOn = true ∧ s.mode ≠ .retired ∧ s.fileHeld 0x0130 = true
        ∧ s.seenNum 0x2821 0 * ticksPerSecond ≤ s.sinceTick s.kaolin.statusFrom)
    ∧ (∃ (s : State) (c : Bytes), s.kaolin.carry = some c ∧ s.coreOn = true ∧ s.mode ≠ .retired ∧ s.drawFails 4 = none
        ∧ 3600 * ticksPerSecond ≤ s.sinceTick s.kaolin.carryFrom) :=
  ⟨⟨(let s := ((up .depot).put 0x2811 1 (leBytes 4 0x55 ++ [0x0F] ++ zeros 3)).shareAll;
      { s with kaolin := { s.kaolin with field := some { FieldSession.new 200 with active := true, app := some .kaolin, secured := .reader 1 (zeros 32) 1 1, file := some 0x0140 } } }), ((let s := ((up .depot).put 0x2811 1 (leBytes 4 0x55 ++ [0x0F] ++ zeros 3)).shareAll; { s with kaolin := { s.kaolin with field := some { FieldSession.new 200 with active := true, app := some .kaolin, secured := .reader 1 (zeros 32) 1 1, file := some 0x0140 } } })).beginCommand { power := 200, reservoir := 200 }, { FieldSession.new 200 with active := true, app := some .kaolin, secured := .reader 1 (zeros 32) 1 1, file := some 0x0140 }, 1, 1, 1, 0x0140, zeros 32, 0, 0, ⟨true, zeros 17, { power := 200, reservoir := 200 }⟩, rfl, by decide +kernel⟩,
   ⟨(let s := ((up .depot).put 0x2811 1 (leBytes 4 0x55 ++ [0x0F] ++ zeros 3)).shareAll;
       { s with kaolin := { s.kaolin with field := some { FieldSession.new 200 with active := true, app := some .kaolin, secured := .reader 1 (zeros 32) 1 1, file := some 0x0140, staged := some (0x0140, [7]) } } }), ((let s := ((up .depot).put 0x2811 1 (leBytes 4 0x55 ++ [0x0F] ++ zeros 3)).shareAll; { s with kaolin := { s.kaolin with field := some { FieldSession.new 200 with active := true, app := some .kaolin, secured := .reader 1 (zeros 32) 1 1, file := some 0x0140, staged := some (0x0140, [7]) } } })).beginCommand { power := 200, reservoir := 200 }, { FieldSession.new 200 with active := true, app := some .kaolin, secured := .reader 1 (zeros 32) 1 1, file := some 0x0140, staged := some (0x0140, [7]) }, 1, 1, 1, 0x0140, zeros 32, [7], ⟨true, zeros 16, { power := 200, reservoir := 200 }⟩, rfl, by decide +kernel⟩,
   ⟨((up .enrol).put 0x2820 1 (leBytes 2 0x0110)).shareAll, viaV, [1, 2, 3], by decide +kernel⟩,
   ⟨(let s := withSlot 3 (slotOf .passport .waitingEngine .passport) (up .enrol);
       { s with kaolin := { s.kaolin with hostWrite := some { fid := 0x0110, content := [1, 2], since := 0, filled := 0 } } }),
       { fid := 0x0110, content := [1, 2], since := 0, filled := 0 }, 3, [], by decide +kernel⟩,
   ⟨(let s := up .enrol; { s with tilth := { s.tilth with tick := 90000000 }, kaolin := { s.kaolin with hostWrite := some { fid := 0x0110, content := [1, 2], since := 0, filled := 0 } } }), { fid := 0x0110, content := [1, 2], since := 0, filled := 0 }, by decide +kernel⟩,
   ⟨(let s := up .depot; { s with tilth := { s.tilth with tick := 9000000000 } }), by decide +kernel⟩,
   ⟨(let s := (let s := up .depot; { s with rng := { s.rng with source := .ready, pool := 16, instances := List.replicate 16 { Generator.reset with seeded := true } } }); { s with tilth := { s.tilth with tick := 9000000000 }, kaolin := { s.kaolin with carry := some [1] } }), [1], by decide +kernel⟩⟩

theorem wit_SecretsCertificatesAndRootsAreInstalled :
    (∃ (s : State) (via : Via) (value : Bytes), Reached s via 0x2810 1 value)
    ∧ (∃ (s : State) (via : Via) (sub : Nat) (value : Bytes), Reached s via 0x2811 sub value)
    ∧ (∃ (s : State) (via : Via) (value : Bytes), Reached s via 0x2802 0 value ∧ s.sig.failed = false)
    ∧ (∃ (s : State) (via : Via) (value : Bytes), Reached s via 0x2A04 1 value ∧ s.mode = .factory ∧ s.sig.failed = false)
    ∧ (∃ (s : State) (via : Via) (value : Bytes), Reached s via 0x2A04 2 value ∧ s.mode = .factory ∧ s.sig.failed = false)
    ∧ (∃ (s : State) (via : Via) (value : Bytes) (g : Signer) (e : Envelope) (parent : Bytes), Reached s via 0x2911 0 value
        ∧ s.sealing.active = some e ∧ e.signer = g ∧ s.rootSigner (byteAt value 0) = some g ∧ byteAt value 1 = 0
        ∧ s.cipher.failed = false ∧ lookup (unwrapParent (byteAt value 0)) s.cipher.roots = some parent
        ∧ s.rootBad (unwrapParent (byteAt value 0)) = false) :=
  ⟨⟨sealedFor 0x2810 1 (zeros 32) (up .depot), viaV, zeros 32, reachedSealed _ _ _ _ _ (by decide +kernel)⟩,
   ⟨sealedFor 0x2811 16 (zeros 8) (up .depot), viaV, 16, zeros 8, reachedSealed _ _ _ _ _ (by decide +kernel)⟩,
   ⟨sealedFor 0x2802 0 (zeros 114) (up .depot), viaV, zeros 114, reachedSealed _ _ _ _ _ (by decide +kernel), by decide +kernel⟩,
   ⟨sealedFor 0x2A04 1 (zeros 422) (up .factory), viaV, zeros 422, reachedSealed _ _ _ _ _ (by decide +kernel), by decide +kernel⟩,
   ⟨sealedFor 0x2A04 2 (zeros 114) (up .factory), viaV, zeros 114, reachedSealed _ _ _ _ _ (by decide +kernel), by decide +kernel⟩,
   ⟨sealedFor 0x2911 0 (2 :: zeros 49) ((let s := up .enrol;
       { s with cipher := { s.cipher with roots := (1, zeros 32) :: (14, zeros 32) :: s.cipher.roots } })), viaV, 2 :: zeros 49,
       .owner, covering 0x2911 0 (2 :: zeros 49), zeros 32, reachedSealed _ _ _ _ _ (by decide +kernel), rfl, rfl, by decide +kernel⟩⟩

theorem wit_CipherEngineTestsLocksAndOpens :
    (∃ (s : State) (via : Via) (value : Bytes), Reached s via 0x2920 0 value ∧ s.cipher.testing = false)
    ∧ (∃ (s : State) (she : Bool), s.cipher.testing = true)
    ∧ (∃ (s : State) (she : Bool), s.cipher.testing = true)
    ∧ (∃ (s : State) (c : SavedContext), s.cipher.lock = none ∧ firstBy SavedContext.before s.cipher.contexts = some c)
    ∧ (∃ (s : State) (n : Nat), s.cipher.lock = some (.slot n) ∧ (s.slot n).busy = false ∧ s.cipher.lockFrom + 16 ≤ s.now
        ∧ (s.slot n).inFlight = true)
    ∧ (∃ (s : State) (slot : Nat), s.cipher.freeRegister = none
        ∧ (s.cipher.registerWaits.any fun w => w.1 == slot && w.2 + 8 ≤ s.now) = true ∧ (s.slot slot).inFlight = true)
    ∧ (∃ (s : State) (slot : Nat) (o : GcmOpen), s.openOf slot = some o ∧ o.provisional = none ∧ (s.slot slot).inFlight = true)
    ∧ (∃ (s : State) (slot : Nat) (o : GcmOpen), s.openOf slot = some o ∧ o.provisional = none ∧ (s.slot slot).inFlight = true) :=
  ⟨⟨up .depot, viaV, [1], by decide +kernel⟩,
   ⟨(let s := up .depot; { s with cipher := { s.cipher with testing := true, failed := true, cycled := true, lock := some .selfTest } }), true, by decide +kernel⟩,
   ⟨(let s := up .depot; { s with cipher := { s.cipher with testing := true, lock := some .selfTest } }), false, by decide +kernel⟩,
   ⟨(let s := withSlot 3 (slotOf .passport .waitingEngine);
       { s with cipher := { s.cipher with contexts := [{ slot := 4, cls := 2, since := 5 }, { slot := 3, cls := 1, since := 9 }] } }),
       { slot := 3, cls := 1, since := 9 }, by decide +kernel⟩,
   ⟨(let s := { withSlot 3 (slotOf .passport .waitingEvent) with tilth := { (withSlot 3 (slotOf .passport .waitingEvent)).tilth with executed := 16 } }; { s with cipher := { s.cipher with lock := some (.slot 3), lockFrom := 0 } }), 3, by decide +kernel⟩,
   ⟨(let s := { withSlot 3 (slotOf .passport .waitingEngine) with tilth := { (withSlot 3 (slotOf .passport .waitingEngine)).tilth with executed := 9 } }; { s with cipher := { s.cipher with registerWaits := [(3, 1)], registers := (List.range 128).map fun r => { reg := r, owner := .slot 5, use := .ks7, value := [], ivs := [] } } }), 3, by decide +kernel⟩,
   ⟨(let s := withSlot 3 (slotOf .passport .waitingEngine);
       { s with cipher := { s.cipher with opens := [({ slot := 3, silt := 4, annex := 0, provisional := none, total := 64, complete := false } : GcmOpen)] } }), 3, ({ slot := 3, silt := 4, annex := 0, provisional := none, total := 64, complete := false } : GcmOpen), by decide +kernel⟩,
   ⟨(let s := withSlot 3 (slotOf .passport .waitingEngine);
       { s with cipher := { s.cipher with opens := [({ slot := 3, silt := 4, annex := 0, provisional := none, total := 64, complete := false } : GcmOpen)] } }), 3, ({ slot := 3, silt := 4, annex := 0, provisional := none, total := 64, complete := false } : GcmOpen), by decide +kernel⟩⟩

theorem wit_ComparisonFailuresReexecute :
    (∃ (s : State) (slot : Nat) (op : Byte), s.running = true ∧ s.isOn .sec = true ∧ s.cipher.failed = false ∧ s.platform.attempts < 2)
    ∧ (∃ (s : State) (slot : Nat) (op : Byte), s.running = true ∧ s.isOn .sec = true ∧ s.cipher.failed = false
        ∧ 2 ≤ s.platform.attempts)
    ∧ (∃ (s : State) (slot : Nat), s.running = true ∧ s.isOn .sec = true ∧ s.sig.failed = false ∧ s.platform.attempts < 2)
    ∧ (∃ (s : State) (slot : Nat), s.running = true ∧ s.isOn .sec = true ∧ s.sig.failed = false ∧ 2 ≤ s.platform.attempts) :=
  ⟨⟨up .depot, 3, 0x01, by decide +kernel⟩,
   ⟨(let s := up .depot; { s with platform := { s.platform with attempts := 2 } }), 3, 0x01, by decide +kernel⟩,
   ⟨up .depot, 3, by decide +kernel⟩,
   ⟨(let s := up .depot; { s with platform := { s.platform with attempts := 2 } }), 3, by decide +kernel⟩⟩

theorem wit_AttestationAndFirmwareAreCarriedOut :
    (∃ (s : State) (via : Via) (value : Bytes) (n : Nat), Reached s via 0x2A20 1 value ∧ 16 ≤ value.length ∧ value.length ≤ 64
        ∧ s.mode ≠ .retired ∧ (s.mode ≠ .factory ∨ s.sig.certified = true) ∧ s.sig.failed = false ∧ s.sig.identity = true
        ∧ s.identityBad = false ∧ s.tilth.find Slot.attests = [] ∧ (s.ofKind .dictionary).length < 2
        ∧ s.tilth.gateAdmits .dictionary = true ∧ 2 ≤ s.tilth.available .dictionary ∧ s.freeSlot .dictionary = some n
        ∧ n ≤ s.tilth.slots.length)
    ∧ (∃ (s : State) (via : Via) (header : Bytes) (n : Nat), s.portServes via.port = true ∧ header.length = 558
        ∧ s.carries via.srv = [] ∧ (s.server via.srv).slot = none ∧ s.mode ≠ .retired ∧ s.tilth.waiting.length < 16
        ∧ (s.ofKind .dictionary).length < 2 ∧ s.tilth.gateAdmits .dictionary = true ∧ 2 ≤ s.tilth.available .dictionary
        ∧ s.freeSlot .dictionary = some n ∧ n ≤ s.tilth.slots.length)
    ∧ (∃ (s : State) (payload readBack : Bytes) (b n : Nat) (v : Srv) (o : GcmOpen), s.sig.installing = some (b, v)
        ∧ s.jobSlot .firmware = some n ∧ (s.slot n).state = .waitingEngine ∧ payload.length = s.jobLength .firmware
        ∧ s.openOf n = some o ∧ o.provisional = some .firmware ∧ (s.cipher.opens.filter fun x => (s.family n).contains x.slot) = [o]
        ∧ s.sig.failed = false)
    ∧ (∃ (s : State) (via : Via) (value : Bytes), Reached s via 0x2A31 1 value) :=
  ⟨⟨up .depot, viaV, zeros 16, 59, by decide +kernel⟩,
   ⟨up .depot, viaV, zeros 558, 59, by decide +kernel⟩,
   ⟨(let s := (let s := withSlot 3 (slotOf .cipher .waitingEngine (.cipher .firmware));
       { s with cipher := { s.cipher with opens := [({ slot := 3, silt := 32, annex := 0, provisional := some .firmware, total := 16, complete := false } : GcmOpen)] } }); { s with sig := { s.sig with installing := some (1, .one), banks := [{ state := .active, imageId := zeros 16, release := 1, svn := 2, digest := [], length := 16, header := [] }, { state := .writing, imageId := zeros 16, release := 1, svn := 2, digest := [1], length := 16, header := [] }] } }), zeros 16, [], 1, 3, .one, ({ slot := 3, silt := 32, annex := 0, provisional := some .firmware, total := 16, complete := false } : GcmOpen), by decide +kernel⟩,
   ⟨(let s := up .depot; { s with sig := { s.sig with banks := [{ state := .active, imageId := zeros 16, release := 1, svn := 2, digest := [], length := 16, header := [] }, { state := .valid, imageId := zeros 16, release := 1, svn := 2, digest := [1], length := 16, header := [] }] } }), viaV, [1], by decide +kernel⟩⟩

theorem wit_RandomSourceTestsAndLatches :
    (∃ (s : State) (cell : Cell) (test : HealthTest), s.rng.tested = true)
    ∧ (∃ (s : State), s.rng.testing = true)
    ∧ (∃ (s : State), s.rng.testing = true)
    ∧ (∃ (s : State) (via : Via) (value : Bytes), Reached s via 0x2A40 6 value)
    ∧ (∃ (s : State) (n : Nat), s.rng.source ≠ .off ∧ 4 * ticksPerMs ≤ s.sinceTick s.rng.onFrom
        ∧ n ∈ (s.drawWaits fun _ g => !g.seeded) ∧ (s.slot n).inFlight = true
        ∧ (s.slot n).exchange?.all (fun x => x.op == .release) = true)
    ∧ (∃ (s : State), s.rng.source = .ready ∧ (s.rng.instances.any fun g => !g.seeded) = true) :=
  ⟨⟨(let s := up .depot; { s with rng := { s.rng with source := .ready, pool := 9 } }), .b, .apt, by decide +kernel⟩,
   ⟨(let s := up .depot; { s with rng := { s.rng with source := .latched, testing := true, recovering := true, failures := 3 } }),
       by decide +kernel⟩,
   ⟨(let s := up .depot; { s with rng := { s.rng with source := .restarting, testing := true, failures := 1 } }), by decide +kernel⟩,
   ⟨(let s := up .depot; { s with rng := { s.rng with source := .latched, failures := 3 } }), viaV, [1], by decide +kernel⟩,
   ⟨(let s := (let s := withSlot 3 { slotOf .passport .waitingEngine with engine := some .rng };
       { s with rng := { s.rng with source := .starting, instances := List.replicate 16 { Generator.reset with queue := [3] } } });
       { s with tilth := { s.tilth with tick := 200000 } }), 3, by decide +kernel⟩,
   ⟨(let s := up .depot; { s with rng := { s.rng with source := .ready, instances := List.replicate 16 Generator.reset } }),
       by decide +kernel⟩⟩

theorem wit_RandomRequestsAreServed :
    (∃ (s : State) (i n : Nat) (rest : List Nat) (g : Generator), (∀ a, (s.slot n).work ≠ .approach a)
        ∧ (∀ b, (s.slot n).work ≠ .badge b) ∧ (∀ x, (s.slot n).work ≠ .release x) ∧ s.nextStrict = some i ∧ s.instance? i = some g
        ∧ g.queue = n :: rest ∧ (s.slot n).inFlight = true)
    ∧ (∃ (s : State) (n : Nat) (rest : List Nat) (g : Generator) (x : Exchange), s.nextStrict = some 3 ∧ s.instance? 3 = some g
        ∧ g.queue = n :: rest ∧ (s.slot n).inFlight = true ∧ (s.slot n).work = .release x)
    ∧ (∃ (s : State) (n : Nat) (rest : List Nat) (g : Generator) (a : Approach), s.nextStrict = some 2 ∧ s.instance? 2 = some g
        ∧ g.queue = n :: rest ∧ (s.slot n).inFlight = true ∧ (s.slot n).work = .approach a ∧ s.drawState 8 = .ready
        ∧ s.cipher.failed = false)
    ∧ (∃ (s : State) (inst : Nat) (g : Generator), s.instance? inst = some g ∧ 5 ≤ inst ∧ s.reseedDue g = true)
    ∧ (∃ (s : State) (inst : Nat) (g : Generator), s.instance? inst = some g ∧ 5 ≤ inst ∧ g.seeded = true ∧ 2 ^ 20 ≤ g.calls
        ∧ g.exhausted = false)
    ∧ (∃ (s : State) (via : Via), s.portServes via.port = true ∧ s.carries via.srv = [] ∧ (s.server via.srv).slot = none) :=
  ⟨⟨(let s := withSlot 3 (slotOf .passport .waitingEngine); { s with rng := { s.rng with source := .ready, pool := 4, instances := List.replicate 16 { Generator.reset with seeded := true, queue := [3] } } }), 1, 3, [], { Generator.reset with seeded := true, queue := [3] }, (fun _ h => nomatch h), (fun _ h => nomatch h), (fun _ h => nomatch h), by decide +kernel⟩,
   ⟨(let s := withSlot 61 (slotOf .release .waitingEngine (.release
       { carrier := .pdo, port := .v, op := .release, cid := 0x72208, exid := 7, cv := [], vn := zeros 12, site := false, credIndex := some 10, ke := [], waiting := false, challengeTick := 0 })); { s with rng := { s.rng with source := .ready, pool := 4, instances := (List.replicate 16 { Generator.reset with seeded := true }).set 2 { Generator.reset with seeded := true, queue := [61] } } }), 61, [], { Generator.reset with seeded := true, queue := [61] }, { carrier := .pdo, port := .v, op := .release, cid := 0x72208, exid := 7, cv := [], vn := zeros 12, site := false, credIndex := some 10, ke := [], waiting := false, challengeTick := 0 }, by decide +kernel⟩,
   ⟨(let s := withSlot 3 (slotOf .approach .waitingEngine (.approach ((up .depot).newApproach 0)));
       { s with rng := { s.rng with source := .ready, pool := 4, instances := (List.replicate 16 { Generator.reset with seeded := true }).set 1 { Generator.reset with seeded := true, queue := [3] } } }), 3, [], { Generator.reset with seeded := true, queue := [3] }, (up .depot).newApproach 0, by decide +kernel⟩,
   ⟨(let s := up .depot; { s with rng := { s.rng with source := .ready, pool := 9, instances := List.replicate 16 { Generator.reset with seeded := true, calls := 1048576 } } }), 16, { Generator.reset with seeded := true, calls := 1048576 }, by decide +kernel⟩,
   ⟨(let s := up .depot; { s with rng := { s.rng with source := .ready, pool := 9, instances := List.replicate 16 { Generator.reset with seeded := true, calls := 1048576 } } }), 5, { Generator.reset with seeded := true, calls := 1048576 }, by decide +kernel⟩,
   ⟨(let s := up .depot; { s with rng := { s.rng with source := .ready, pool := 9, instances := List.replicate 16 { Generator.reset with seeded := true } } }), viaV, by decide +kernel⟩⟩

theorem wit_NmtCommandsActOnAddressedPorts :
    (∃ (s : State) (pt : Port) (node : Nat), s.nmtHeard pt node = true)
    ∧ (∃ (s : State) (pt : Port) (node : Nat), s.nmtHeard pt node = true)
    ∧ (∃ (s : State) (pt : Port) (node : Nat), s.nmtHeard pt node = true)
    ∧ (∃ (s : State) (pt : Port) (node : Nat), s.nmtHeard pt node = true)
    ∧ (∃ (s : State) (pt : Port) (node : Nat), s.nmtHeard pt node = true ∧ s.lock.released = true)
    ∧ (∃ (s : State) (pt : Port) (node : Nat), s.nmtHeard pt node = true ∧ s.lock.released = false)
    ∧ (∃ (s : State) (pt : Port), s.heartbeatDue pt = true) :=
  ⟨⟨up .depot, .p, 0, by decide +kernel⟩,
   ⟨up .depot, .p, 0, by decide +kernel⟩,
   ⟨up .depot, .p, 0, by decide +kernel⟩,
   ⟨(let s := up .depot; { s with net := { s.net with server2 := { UsdoServer.reset with client := some (.v, 9) } } }), .v, 0x20,
       by decide +kernel⟩,
   ⟨{ up .bound with lock := { released := true, changeTick := 1, cause := 1, credential := 2 } }, .p, 0, by decide +kernel⟩,
   ⟨up .bound, .p, 0, by decide +kernel⟩,
   ⟨(let s := ((up .depot).put 0x1017 0 [1, 0]).shareAll; { s with tilth := { s.tilth with tick := 90000, executed := 90000 } }), .v,
       by decide +kernel⟩⟩

theorem wit_PartnersAreTrackedInTheirTable :
    (∃ (s : State) (pt : Port) (node state n : Nat) (p : Partner), s.heartbeatHeard pt node = true ∧ s.findPartner pt node = some n
        ∧ s.partner n = some p)
    ∧ (∃ (s : State) (pt : Port) (node n : Nat) (p : Partner), s.heartbeatHeard pt node = true ∧ s.findPartner pt node = some n
        ∧ s.partner n = some p)
    ∧ (∃ (s : State) (pt : Port) (node state n : Nat), s.heartbeatHeard pt node = true ∧ s.findPartner pt node = none
        ∧ s.emptyPartner = some n ∧ n ≤ s.net.partners.length)
    ∧ (∃ (s : State) (pt : Port) (node n : Nat), s.heartbeatHeard pt node = true ∧ s.findPartner pt node = none
        ∧ s.emptyPartner = some n ∧ n ≤ s.net.partners.length)
    ∧ (∃ (s : State) (n : Nat) (p : Partner), s.running = true ∧ s.partner n = some p ∧ p.state = .present
        ∧ s.partnerTime p * ticksPerMs ≤ s.sinceTick p.last) :=
  ⟨⟨(let s := (let s := up .depot; { s with tilth := { s.tilth with tick := 9000000, executed := 9000000 } });
      { s with net := { s.net with partners := State.reset.net.partners.set 2 (some { port := .v, node := 5, state := .lost, operational := false, configured := none, last := 0, losses := 7, lostAt := 0 }) } }), .v, 5, 5, 3, { port := .v, node := 5, state := .lost, operational := false, configured := none, last := 0, losses := 7, lostAt := 0 }, by decide +kernel⟩,
   ⟨(let s := (let s := up .depot; { s with tilth := { s.tilth with tick := 9000000, executed := 9000000 } });
       { s with net := { s.net with partners := State.reset.net.partners.set 2 (some { port := .v, node := 5, state := .present, operational := false, configured := none, last := 0, losses := 7, lostAt := 0 }) } }), .v, 5, 3, { port := .v, node := 5, state := .present, operational := false, configured := none, last := 0, losses := 7, lostAt := 0 }, by decide +kernel⟩,
   ⟨up .depot, .p, 127, 5, 1, by decide +kernel⟩,
   ⟨up .depot, .p, 127, 1, by decide +kernel⟩,
   ⟨(let s := (let s := up .depot; { s with tilth := { s.tilth with tick := 9000000, executed := 9000000 } });
       { s with net := { s.net with partners := State.reset.net.partners.set 2 (some { port := .v, node := 5, state := .present, operational := false, configured := (some 1), last := 0, losses := 7, lostAt := 0 }) } }), 3, { port := .v, node := 5, state := .present, operational := false, configured := (some 1), last := 0, losses := 7, lostAt := 0 }, by decide +kernel⟩⟩

theorem wit_UsdoServersAreHeldAndReleased :
    (∃ (s : State) (pt : Port) (client : Nat) (v : Srv), s.portServes pt = true ∧ s.heldBy pt client = none ∧ s.freeSrv = some v)
    ∧ (∃ (s : State) (pt : Port) (client n : Nat) (v : Srv), s.portServes pt = true ∧ s.heldBy pt client = none ∧ s.freeSrv = some v
        ∧ (s.ofKind .dictionary).length < 2 ∧ s.tilth.gateAdmits .dictionary = true ∧ 2 ≤ s.tilth.available .dictionary
        ∧ s.freeSlot .dictionary = some n ∧ n ≤ s.tilth.slots.length)
    ∧ (∃ (s : State) (pt : Port) (client : Nat) (v : Srv), s.portServes pt = true ∧ s.heldBy pt client = some v)
    ∧ (∃ (s : State) (pt : Port) (client : Nat) (seg : Bool), s.portServes pt = true ∧ s.heldBy pt client = none ∧ s.freeSrv = none)
    ∧ (∃ (s : State) (v : Srv), (s.server v).client ≠ none ∧ (s.server v).segmented = true
        ∧ s.seenNum 0x2B20 1 * ticksPerMs ≤ s.sinceTick (s.server v).lastFrame) :=
  ⟨⟨up .depot, .v, 3, .one, by decide +kernel⟩,
   ⟨(let s := up .depot; { s with net := { s.net with server1 := { UsdoServer.reset with client := some (.v, 9) } } }), .v, 3, 59,
       .two, by decide +kernel⟩,
   ⟨(let s := up .depot; { s with net := { s.net with server2 := { UsdoServer.reset with client := some (.v, 9), segmented := true } } }), .v, 9, .two, by decide +kernel⟩,
   ⟨(let s := up .depot; { s with net := { s.net with server1 := { UsdoServer.reset with client := some (.v, 9) }, server2 := { UsdoServer.reset with client := some (.p, 9) } } }), .v, 3, true, by decide +kernel⟩,
   ⟨(let s := (let s := withSlot 59 (slotOf .dictionary .waitingEvent (.dictionary .two));
       { s with tilth := { s.tilth with tick := 900000, executed := 900000 } });
       { s with net := { s.net with server2 := { UsdoServer.reset with client := some (.v, 9), segmented := true, slot := some 59 } } }), .two, by decide +kernel⟩⟩

theorem wit_RatesAndMappingsAreGuarded :
    (∃ (s : State) (via : Via) (sub : Nat) (value : Bytes), s.portServes via.port = true ∧ s.carries via.srv = []
        ∧ (s.server via.srv).slot = none ∧ s.lock.released = true ∧ 1 ≤ sub ∧ sub ≤ 4)
    ∧ (∃ (s : State) (via : Via) (sub : Nat) (value : Bytes), Reached s via 0x2B01 sub value ∧ s.lock.released = false
        ∧ (if sub ≤ 2 then ratesFit (leNat value) (s.num 0x2B01 (sub + 2)) else ratesFit (s.num 0x2B01 (sub - 2)) (leNat value)) = true)
    ∧ (∃ (s : State) (via : Via) (sub : Nat) (value : Bytes), Reached s via 0x2B01 sub value ∧ s.lock.released = false
        ∧ (if sub ≤ 2 then ratesFit (leNat value) (s.num 0x2B01 (sub + 2)) else ratesFit (s.num 0x2B01 (sub - 2)) (leNat value)) =
        false)
    ∧ (∃ (s : State) (via : Via) (idx sub : Nat) (value : Bytes), Reached s via idx sub value ∧ isPdoMapping idx = true
        ∧ s.pdoValid (idx - 0x200) = true)
    ∧ (∃ (s : State) (via : Via) (idx sub : Nat) (value : Bytes), Reached s via idx sub value ∧ isPdoMapping idx = true
        ∧ 64 < mappingBytes ((s.put idx sub value).mapped idx))
    ∧ (∃ (s : State) (via : Via) (idx sub : Nat) (value : Bytes), Reached s via idx sub value ∧ isPdoMapping idx = true
        ∧ s.pdoValid (idx - 0x200) = false ∧ (sub = 0 ∨ mappable (decide (idx < 0x1A00)) (leNat value) = true)
        ∧ (s.put idx sub value).num idx 0 ≤ 16 ∧ ((s.put idx sub value).mapped idx).all (mappable (decide (idx < 0x1A00))) = true
        ∧ mappingBytes ((s.put idx sub value).mapped idx) ≤ 64)
    ∧ (∃ (s : State) (via : Via) (value : Bytes), Reached s via 0x2B03 3 value) :=
  ⟨⟨{ up .bound with lock := { released := true, changeTick := 1, cause := 1, credential := 2 } }, viaV, 4, [9, 9], by decide +kernel⟩,
   ⟨up .depot, viaV, 4, [4], by decide +kernel⟩,
   ⟨(up .depot).put 0x2B01 2 [0], viaV, 4, [4], by decide +kernel⟩,
   ⟨(up .depot).put 0x1800 1 (leBytes 4 0x181), viaV, 0x1A00, 1, leBytes 4 0x20000008, by decide +kernel⟩,
   ⟨(((up .depot).put 0x1A00 1 (leBytes 4 0x271203F8)).put 0x1A00 2 (leBytes 4 0x271203F8)).put 0x1A00 3 (leBytes 4 0x271203F8), viaV,
       0x1A00, 0, [3], by decide +kernel⟩,
   ⟨(up .depot).put 0x1A00 1 (leBytes 4 0x20000008), viaV, 0x1A00, 0, [1], by decide +kernel⟩,
   ⟨(let s := up .depot; s.setPort .p fun p => { p with bus := .busOff }), viaV, [2], by decide +kernel⟩⟩

theorem wit_PortErrorsAreLoggedAndReported :
    (∃ (s : State) (pt : Port), s.portHears pt = true)
    ∧ (∃ (s : State) (pt : Port), s.recoveryDue pt = true)
    ∧ (∃ (s : State) (pt : Port), s.portOn pt = true ∧ (s.port pt).bus = .active)
    ∧ (∃ (s : State) (pt : Port), s.portOn pt = true ∧ (s.port pt).bus = .passive)
    ∧ (∃ (s : State) (pt q : Port), s.portHears pt = true) :=
  ⟨⟨up .depot, .p, by decide +kernel⟩,
   ⟨(let s := (let s := up .depot; { s with tilth := { s.tilth with tick := 900000, executed := 900000 } }); s.setPort .v fun p =>
       { p with bus := .busOff, recovering := true }), .v, by decide +kernel⟩,
   ⟨up .depot, .v, by decide +kernel⟩,
   ⟨(let s := up .depot; s.setPort .v fun p => { p with bus := .passive }), .v, by decide +kernel⟩,
   ⟨up .depot, .v, .p, by decide +kernel⟩⟩

theorem wit_ProcessDataIsAppliedAndQueued :
    (∃ (s : State) (pt : Port) (num : Nat) (payload : Bytes) (w : MappedWrite), s.rpdoTaken pt num = true
        ∧ s.failingWrite ⟨pt, .one⟩ (decide (payload.length < mappingBytes (s.mapped (0x1600 + (num - 1))))) (s.mapped (0x1600 + (num
        - 1))) (cutPayload payload (s.mapped (0x1600 + (num - 1)))) = some w)
    ∧ (∃ (s : State) (pt : Port) (num : Nat) (payload : Bytes) (w : MappedWrite), (∀ u, ownRule ⟨pt,
        .one⟩ w.idx w.sub w.value u = storeValue w.idx w.sub w.value u) ∧ s.rpdoTaken pt num = true
        ∧ s.failingWrite ⟨pt, .one⟩ (decide (payload.length < mappingBytes (s.mapped (0x1600 + (num - 1))))) (s.mapped (0x1600 + (num
        - 1))) (cutPayload payload (s.mapped (0x1600 + (num - 1)))) = none ∧ cutPayload payload (s.mapped (0x1600 + (num - 1))) = [w])
    ∧ (∃ (s : State) (num : Nat) (pt : Port), s.running = true ∧ s.tpdoValid num = true ∧ 0xFE ≤ s.tpdoType num
        ∧ s.tpdoPort num pt = true)
    ∧ (∃ (s : State) (pt : Port) (counter : Option Nat) (n : Nat), s.portHears pt = true ∧ (s.port pt).nmt = .operational
        ∧ s.syncCounted pt counter n = true) :=
  ⟨⟨(((up .depot).put 0x1400 1 (leBytes 4 0x201)).put 0x1600 0 [1]).put 0x1600 1 (leBytes 4 0x20040210), .v, 1, [7], ⟨0x2004, 2, [7]⟩,
      by decide +kernel⟩,
   ⟨(((up .depot).put 0x1400 1 (leBytes 4 0x201)).put 0x1600 0 [1]).put 0x1600 1 (leBytes 4 0x20040210), .v, 1, [0x58, 0x02], ⟨0x2004,
       2, [0x58, 0x02]⟩, fun _ => rfl, by decide +kernel⟩,
   ⟨(((((up .depot).put 0x1800 1 (leBytes 4 0x181)).put 0x1800 2 [0xFE]).put 0x1A00 0 [1]).put 0x1A00 1 (leBytes 4
       0x20000008)).shareAll, 1, .v, by decide +kernel⟩,
   ⟨(((((up .depot).put 0x1800 1 (leBytes 4 0x181)).put 0x1800 2 [1]).put 0x1A00 0 [1]).put 0x1A00 1 (leBytes 4 0x20000008)).shareAll,
       .v, none, 1, by decide +kernel⟩⟩

theorem wit_LssSwitchesAndConfigures :
    (∃ (s : State) (pt : Port) (config : Bool), s.portHears pt = true)
    ∧ (∃ (s : State) (pt : Port), s.lssServed pt false = true)
    ∧ (∃ (s : State) (pt : Port) (node : Nat), s.lssServed pt true = true ∧ ((1 ≤ node ∧ node ≤ 127) ∨ node = 0xFF))
    ∧ (∃ (s : State) (pt : Port) (node : Nat), s.lssServed pt true = true ∧ (node = 0 ∨ (127 < node ∧ node ≠ 0xFF)))
    ∧ (∃ (s : State) (pt : Port) (code r : Nat), s.lssServed pt true = true ∧ s.lock.released = false ∧ lssRateCode code = some r
        ∧ ratesFit r (s.num 0x2B01 (portSub pt + 2)) = true)
    ∧ (∃ (s : State) (pt : Port), s.lssServed pt true = true ∧ s.lock.released = false)
    ∧ (∃ (s : State) (pt : Port), s.lssServed pt true = true ∧ s.lock.released = false)
    ∧ (∃ (s : State) (pt : Port) (selector code : Nat), s.lssServed pt true = true ∧ s.lock.released = true)
    ∧ (∃ (s : State) (pt : Port), s.lssServed pt true = true ∧ s.lock.released = true)
    ∧ (∃ (s : State) (pt : Port), s.lssServed pt true = true ∧ s.lock.released = true) :=
  ⟨⟨up .depot, .p, true, by decide +kernel⟩,
   ⟨up .depot, .p, by decide +kernel⟩,
   ⟨(let s := up .depot; s.setPort .v fun p => { p with lssConfig := true, lssRate := some 1, lssNode := some 0x31 }), .v, 0xFF,
       by decide +kernel⟩,
   ⟨(let s := up .depot; s.setPort .v fun p => { p with lssConfig := true, lssRate := some 1, lssNode := some 0x31 }), .v, 128,
       by decide +kernel⟩,
   ⟨(let s := up .depot; s.setPort .v fun p => { p with lssConfig := true, lssRate := some 1, lssNode := some 0x31 }), .v, 2, 2,
       by decide +kernel⟩,
   ⟨(let s := up .depot; s.setPort .v fun p => { p with lssConfig := true, lssRate := some 1, lssNode := some 0x31 }), .v,
       by decide +kernel⟩,
   ⟨(let s := up .depot; s.setPort .v fun p => { p with lssConfig := true, lssRate := some 1, lssNode := some 0x31 }), .v,
       by decide +kernel⟩,
   ⟨{ (let s := up .depot; s.setPort .v fun p => { p with lssConfig := true, lssRate := some 1, lssNode := some 0x31 }) with lock := { released := true, changeTick := 1, cause := 1, credential := 2 } }, .v, 0, 2, by decide +kernel⟩,
   ⟨{ (let s := up .depot; s.setPort .v fun p => { p with lssConfig := true, lssRate := some 1, lssNode := some 0x31 }) with lock := { released := true, changeTick := 1, cause := 1, credential := 2 } }, .v, by decide +kernel⟩,
   ⟨{ (let s := up .depot; s.setPort .v fun p => { p with lssConfig := true, lssRate := some 1, lssNode := some 0x31 }) with lock := { released := true, changeTick := 1, cause := 1, credential := 2 } }, .v, by decide +kernel⟩⟩

theorem wit_LssInquiresAndIdentifies :
    (∃ (s : State) (pt : Port) (part : Nat), s.lssServed pt true = true ∧ part ≤ 3)
    ∧ (∃ (s : State) (pt : Port), s.lssServed pt true = true)
    ∧ (∃ (s : State) (pt : Port) (revLow revHigh serLow serHigh : Nat), revLow ≤ s.lssPart 2 ∧ s.lssPart 2 ≤ revHigh
        ∧ serLow ≤ s.lssPart 3 ∧ s.lssPart 3 ≤ serHigh ∧ s.portHears pt = true)
    ∧ (∃ (s : State) (pt : Port), s.portHears pt = true ∧ s.nodeSet pt = 0xFF)
    ∧ (∃ (s : State) (pt : Port) (idNumber lssSub lssNext : Nat), s.lssServed pt false = true ∧ s.nodeSet pt = 0xFF)
    ∧ (∃ (s : State) (pt : Port) (idNumber bitCheck lssSub lssNext : Nat), s.lssServed pt false = true ∧ s.nodeSet pt = 0xFF
        ∧ bitCheck ≤ 31 ∧ lssSub ≤ 3 ∧ lssNext ≤ 3 ∧ lssSub = (s.port pt).fastscan.sub
        ∧ s.fastscanFits idNumber bitCheck lssSub = true) :=
  ⟨⟨(let s := up .depot; s.setPort .v fun p => { p with lssConfig := true, lssRate := some 1, lssNode := some 0x31 }), .v, 3,
      by decide +kernel⟩,
   ⟨(let s := up .depot; s.setPort .v fun p => { p with lssConfig := true, lssRate := some 1, lssNode := some 0x31 }), .v,
       by decide +kernel⟩,
   ⟨up .depot, .v, 0, (up .depot).lssPart 2, 0, (up .depot).lssPart 3, Nat.zero_le _, Nat.le_refl _, Nat.zero_le _, Nat.le_refl _,
       by decide +kernel⟩,
   ⟨(let s := up .depot; s.setPort .v fun p => { p with lssNode := some 0xFF }), .v, by decide +kernel⟩,
   ⟨(let s := up .depot; s.setPort .v fun p => { p with lssNode := some 0xFF, fastscan := { sub := 2 } }), .v, 0, 0, 0,
       by decide +kernel⟩,
   ⟨(let s := up .depot; s.setPort .v fun p => { p with lssNode := some 0xFF, fastscan := { sub := 1 } }), .v, 0x9640, 0, 1, 0,
       by decide +kernel⟩⟩

theorem wit_SahunLinkTrainsDegradesAndFalls :
    (∃ (s : State) (lanes : BitVec 4) (attrMap : Bytes), s.bridge.training = true)
    ∧ (∃ (s : State), s.bridgeOn = true ∧ s.bridge.training = false ∧ (s.bridge.link = .training ∨ s.bridge.link = .failed)
        ∧ s.retryPause ≤ s.sinceTick s.bridge.lastTraining)
    ∧ (∃ (s : State) (lane : Nat), s.linkServes = true ∧ lane < 4 ∧ bit s.bridge.lanes lane = true)
    ∧ (∃ (s : State) (direction : Nat), s.linkServes = true ∧ direction < 2)
    ∧ (∃ (s : State) (packet : SahunPacket), s.linkServes = true) :=
  ⟨⟨(let s := up .depot; { s with bridge := { s.bridge with link := .training, training := true } }), 15#4, [1, 2, 3],
      by decide +kernel⟩,
   ⟨(let s := (let s := up .depot; { s with tilth := { s.tilth with tick := 9000000, executed := 9000000 } });
       { s with bridge := { s.bridge with link := .failed } }), by decide +kernel⟩,
   ⟨(let s := up .depot; { s with bridge := { s.bridge with link := .up, lanes := 15 } }), 3, by decide +kernel⟩,
   ⟨(let s := up .depot; { s with bridge := { s.bridge with link := .up, lanes := 15, writes := [{ tag := 3, slot := 0, addr := 4, data := [1], sent := some 5, applied := false }] } }), 1, by decide +kernel⟩,
   ⟨(let s := up .depot; { s with bridge := { s.bridge with link := .up, lanes := 15, naks := [(.stream 5, 1), (.tagged 3, 2)], writes := [{ tag := 3, slot := 0, addr := 4, data := [1], sent := some 5, applied := false }] } }), .tagged 3, by decide +kernel⟩⟩

theorem wit_BridgeTransfersComplete :
    (∃ (s : State) (tag : Nat) (data : Bytes) (r : BridgeRead), s.readOf tag = some r ∧ r.len ≤ data.length ∧ s.linkServes = true
        ∧ (s.slot r.slot).hostServer = none ∧ (s.slot r.slot).state = .waitingEngine)
    ∧ (∃ (s : State) (tag : Nat) (data : Bytes) (r : BridgeRead) (v : Srv), s.readOf tag = some r ∧ r.len ≤ data.length
        ∧ s.linkServes = true ∧ (s.slot r.slot).hostServer = some v ∧ (s.server v).slot = some r.slot
        ∧ (s.cipher.opens.filter fun o => (s.family r.slot).contains o.slot) = [])
    ∧ (∃ (s : State) (tag : Nat) (r : BridgeRead), s.readOf tag = some r ∧ r.issued + r.limit ≤ s.now
        ∧ (s.slot r.slot).hostServer = none ∧ (s.slot r.slot).state = .waitingEngine)
    ∧ (∃ (s : State) (slot : Nat) (w : RoomWait), (s.bridge.roomWaits.find? fun w => w.slot == slot) = some w ∧ w.since + 8 ≤ s.now
        ∧ (s.slot slot).inFlight = true ∧ (s.cipher.opens.filter fun o => (s.family slot).contains o.slot) = [])
    ∧ (∃ (s : State) (tag : Nat) (w : PostedWrite), s.writeOf tag = some w)
    ∧ (∃ (s : State) (tag : Nat) (cause : Code) (w : PostedWrite), s.writeOf tag = some w ∧ w.applied = false)
    ∧ (∃ (s : State) (l : PrefetchLine), s.bridge.line = some l ∧ ((s.slot l.slot).inFlight = false ∨ l.usedAt + 4 ≤ s.now)) :=
  ⟨⟨(let s := withSlot 3 { slotOf .inventory .waitingEngine with engine := some .brg };
      { s with bridge := { s.bridge with link := .up, lanes := 15, reads := [{ tag := 7, slot := 3, addr := 0x20010, len := 2, issued := 1, held := false, after := [], limit := 8, depth := 1 }] } }), 7, [1, 2, 3], { tag := 7, slot := 3, addr := 0x20010, len := 2, issued := 1, held := false, after := [], limit := 8, depth := 1 }, by decide +kernel⟩,
   ⟨(let s := (let s := withSlot 59 (slotOf .dictionary .waitingEngine (.dictionary .one));
       { s with net := { s.net with server1 := { UsdoServer.reset with client := some (.v, 9), slot := some 59 } } });
       { s with bridge := { s.bridge with link := .up, lanes := 15, reads := [{ tag := 7, slot := 59, addr := 0x20010, len := 2, issued := 1, held := false, after := [], limit := 8, depth := 1 }] } }), 7, [1, 2, 3], { tag := 7, slot := 59, addr := 0x20010, len := 2, issued := 1, held := false, after := [], limit := 8, depth := 1 }, .one, by decide +kernel⟩,
   ⟨(let s := (let s := withSlot 3 { slotOf .inventory .waitingEngine with engine := some .brg };
       { s with tilth := { s.tilth with tick := 99, executed := 99 } });
       { s with bridge := { s.bridge with link := .up, lanes := 15, reads := [{ tag := 7, slot := 3, addr := 0x20010, len := 2, issued := 1, held := false, after := [], limit := 8, depth := 1 }] } }), 7, { tag := 7, slot := 3, addr := 0x20010, len := 2, issued := 1, held := false, after := [], limit := 8, depth := 1 }, by decide +kernel⟩,
   ⟨(let s := (let s := withSlot 3 (slotOf .inventory .waitingResource);
       { s with tilth := { s.tilth with tick := 9, executed := 9 } });
       { s with bridge := { s.bridge with roomWaits := [{ slot := 3, since := 1, addr := 4, data := [] }] } }), 3,
       { slot := 3, since := 1, addr := 4, data := [] }, by decide +kernel⟩,
   ⟨(let s := up .depot; { s with bridge := { s.bridge with link := .up, lanes := 15, writes := [{ tag := 3, slot := 5, addr := 0x20004, data := [1], sent := some 5, applied := false }] } }), 3, { tag := 3, slot := 5, addr := 0x20004, data := [1], sent := some 5, applied := false }, by decide +kernel⟩,
   ⟨(let s := up .depot; { s with bridge := { s.bridge with link := .up, lanes := 15, writes := [{ tag := 3, slot := 5, addr := 0x20004, data := [1], sent := some 5, applied := false }] } }), 3, Rc.windowReadOnly, { tag := 3, slot := 5, addr := 0x20004, data := [1], sent := some 5, applied := false }, by decide +kernel⟩,
   ⟨(let s := (let s := withSlot 3 (slotOf .inventory .ready); { s with tilth := { s.tilth with tick := 9, executed := 9 } });
       { s with bridge := { s.bridge with line := some { slot := 3, addr := 0x100010, bytes := [1, 2], usedAt := 1 } } }),
       { slot := 3, addr := 0x100010, bytes := [1, 2], usedAt := 1 }, by decide +kernel⟩⟩

theorem wit_HostWindowReachesTheEptanDie :
    (∃ (s : State) (via : Via) (n : Nat), s.portServes via.port = true ∧ s.carries via.srv = [] ∧ (s.server via.srv).slot = none
        ∧ (s.ofKind .dictionary).length < 2 ∧ s.tilth.gateAdmits .dictionary = true ∧ 2 ≤ s.tilth.available .dictionary
        ∧ s.freeSlot .dictionary = some n ∧ n ≤ s.tilth.slots.length)
    ∧ (∃ (s : State) (via : Via) (value : Bytes), Reached s via 0x2C50 3 value ∧ s.writesFull = false)
    ∧ (∃ (s : State) (via : Via) (value : Bytes) (n : Nat), Reached s via 0x2C50 3 value ∧ s.writesFull = true
        ∧ s.windowWriteRefused value = none ∧ (s.ofKind .dictionary).length < 2 ∧ s.tilth.gateAdmits .dictionary = true
        ∧ 2 ≤ s.tilth.available .dictionary ∧ s.freeSlot .dictionary = some n ∧ n ≤ s.tilth.slots.length) :=
  ⟨⟨(let s := (let s := up .depot; { s with bridge := { s.bridge with link := .up, lanes := 15 } });
      { s with hist2 := { s.hist2 with dict := [(0x2C5001, leBytes 4 0x20010), (0x2C5002, [2, 0])] } }), viaV, 59, by decide +kernel⟩,
   ⟨((let s := (let s := up .depot; { s with bridge := { s.bridge with link := .up, lanes := 15 } });
       { s with hist2 := { s.hist2 with dict := [(0x2C5001, leBytes 4 0x20010), (0x2C5002, [2, 0])] } })).put 0x2C03 0 (List.replicate
       6 0xFF), viaV, [1, 2], by decide +kernel⟩,
   ⟨((let s := (let s := up .depot; { s with bridge := { s.bridge with link := .up, lanes := 15, writes := List.replicate 16 { tag := 3, slot := 5, addr := 0x20004, data := [1], sent := some 5, applied := false } } }); { s with hist2 := { s.hist2 with dict := [(0x2C5001, leBytes 4 0x20010), (0x2C5002, [2, 0])] } })).put 0x2C03 0 (List.replicate 6 0xFF), viaV, [1, 2], 59, by decide +kernel⟩⟩

theorem wit_StreamPacketsCommitInOrder :
    (∃ (s : State) (seq lost : Nat) (record : Bytes), s.linkServes = true ∧ s.bridge.streamOn = true ∧ seq < 2 ^ 32
        ∧ s.ahead seq < 16 ∧ (s.bridge.landed.any fun q => q.seq == seq) = false)
    ∧ (∃ (s : State) (seq lost : Nat) (record : Bytes), s.linkServes = true ∧ s.bridge.streamOn = false ∧ s.bridge.landed = []
        ∧ seq < 2 ^ 32)
    ∧ (∃ (s : State) (seq lost : Nat) (event : Bytes), s.linkServes = true ∧ s.bridge.streamOn = true ∧ seq < 2 ^ 32
        ∧ s.ahead seq < 16 ∧ (s.bridge.landed.any fun q => q.seq == seq) = false)
    ∧ (∃ (s : State) (seq lost : Nat) (event : Bytes), s.linkServes = true ∧ s.bridge.streamOn = false ∧ s.bridge.landed = []
        ∧ seq < 2 ^ 32)
    ∧ (∃ s : State, (∀ p ∈ s.bridge.landed, p.seq ≠ s.nextStream))
    ∧ (∃ (s : State) (lost : Nat) (record : Bytes), s.bridge.landed = [.sample s.nextStream lost record])
    ∧ (∃ (s : State) (lost : Nat) (event : Bytes) (code : Code), s.bridge.landed = [.event s.nextStream lost event]
        ∧ code = (BitVec.ofNat 16 (field (padTo 16 event) 0 2) : Code) ∧ eptanEvents.contains code = true) :=
  ⟨⟨(let s := up .depot; { s with bridge := { s.bridge with link := .up, lanes := 15, streamOn := true, committedSeq := 4, landed := [.sample 7 0 []] } }), 20, 0, [0, 1], by decide +kernel⟩,
   ⟨(let s := up .depot; { s with bridge := { s.bridge with link := .up, lanes := 15 } }), 0xFFFFFFFF, 0, [0, 1], by decide +kernel⟩,
   ⟨(let s := up .depot; { s with bridge := { s.bridge with link := .up, lanes := 15, streamOn := true, committedSeq := 4, landed := [.sample 7 0 []] } }), 20, 0, [0, 1], by decide +kernel⟩,
   ⟨(let s := up .depot; { s with bridge := { s.bridge with link := .up, lanes := 15 } }), 0xFFFFFFFF, 0, [0, 1], by decide +kernel⟩,
   ⟨(let s := up .depot; { s with bridge := { s.bridge with link := .up, lanes := 15, streamOn := true, committedSeq := 4, landed := [.sample 7 0 []] } }), by decide +kernel⟩,
   ⟨(let s := up .depot; { s with bridge := { s.bridge with link := .up, lanes := 15, streamOn := true, committedSeq := 4, landed := [.sample 5 2 [0, 1]] } }), 2, [0, 1], by decide +kernel⟩,
   ⟨(let s := (let s := up .depot; { s with bridge := { s.bridge with link := .up, lanes := 15, streamOn := true, committedSeq := 4, landed := [.event 5 0 (codeBytes Ev.hvilFault)] } }); { s with lock := { released := true, changeTick := 1, cause := 1, credential := 2 } }), 0, codeBytes Ev.hvilFault, Ev.hvilFault, by decide +kernel⟩⟩

theorem wit_EnergyIsFoldedAndOffsetsNulled :
    (∃ (s : State) (sn old : Snapshot), s.foldDue = true ∧ s.mode ≠ .retired ∧ s.linkServes = true ∧ s.isOn .ept = true
        ∧ s.ledger.snapshot = some old ∧ old.epoch = sn.epoch)
    ∧ (∃ (s : State) (sn : Snapshot), s.foldDue = true ∧ s.mode ≠ .retired ∧ s.linkServes = true ∧ s.isOn .ept = true
        ∧ (s.ledger.snapshot.all fun old => old.epoch != sn.epoch) = true)
    ∧ (∃ (s : State), s.foldDue = true)
    ∧ (∃ (s : State), s.ledger.state = .grace ∧ s.ledger.graceTime * ticksPerSecond ≤ s.ledger.graceTicks ∧ s.ledger.credit ≤ 0)
    ∧ (∃ (s : State) (readBack : List Bytes) (i : Nat) (b : Bytes), s.configDue = true ∧ i < 8 ∧ readBack[i]? = some b
        ∧ s.eptanConstants[i]? ≠ some b)
    ∧ (∃ (s : State) (via : Via) (value : Bytes), Reached s via 0x2D12 1 value)
    ∧ (∃ (s : State) (sum : Int), s.ledger.zeroing = some (0, sum)) :=
  ⟨⟨(let s := (let s := (let s := up .depot; { s with bridge := { s.bridge with link := .up, lanes := 15 } });
      { s with tilth := { s.tilth with tick := 9000000, executed := 9000000 } });
      { s with ledger := { s.ledger with snapshot := some { epoch := 3, charge := 1000, discharge := 500, tick := 1 } } }),
      { epoch := 3, charge := 5000000, discharge := 7500000, tick := 9 }, { epoch := 3, charge := 1000, discharge := 500, tick := 1 },
      by decide +kernel⟩,
   ⟨(let s := (let s := up .depot; { s with bridge := { s.bridge with link := .up, lanes := 15 } });
       { s with tilth := { s.tilth with tick := 9000000, executed := 9000000 } }),
       { epoch := 3, charge := 5000000, discharge := 7500000, tick := 9 }, by decide +kernel⟩,
   ⟨(let s := up .depot; { s with tilth := { s.tilth with tick := 9000000, executed := 9000000 } }), by decide +kernel⟩,
   ⟨(let s := up .depot; { s with ledger := { s.ledger with state := .grace, graceTime := 1, graceTicks := 40000, graceEnergy := 100 } }), by decide +kernel⟩,
   ⟨(let s := up .depot; { s with bridge := { s.bridge with link := .up, lanes := 15 } }), [[], [9]], 1, [9], by decide +kernel⟩,
   ⟨sealedFor 0x2D12 1 [1] ((let s := up .depot; { s with ledger := { s.ledger with quiet := 4000 } })), viaV, [1],
       reachedSealed _ _ _ _ _ (by decide +kernel)⟩,
   ⟨(let s := up .depot; { s with ledger := { s.ledger with zeroing := some (0, -4000) } }), -4000, by decide +kernel⟩⟩

theorem wit_CreditTokensTakeEffectOnce :
    (∃ (s : State) (via : Via) (value : Bytes), Reached s via 0x2D40 1 value ∧ byteAt value 1 = 1)
    ∧ (∃ (s : State) (via : Via) (value : Bytes), Reached s via 0x2D40 1 value ∧ byteAt value 1 = 2)
    ∧ (∃ (s : State) (via : Via) (value : Bytes), Reached s via 0x2D40 1 value ∧ byteAt value 1 = 3)
    ∧ (∃ (s : State) (via : Via) (value : Bytes), Reached s via 0x2D40 1 value ∧ byteAt value 1 = 4) :=
  ⟨⟨up .depot, viaV, (leBytes 1 1 ++ leBytes 1 1 ++ zeros 190), by decide +kernel⟩,
   ⟨up .depot, viaV, (leBytes 1 1 ++ leBytes 1 2 ++ zeros 190), by decide +kernel⟩,
   ⟨up .depot, viaV, (leBytes 1 1 ++ leBytes 1 3 ++ zeros 190), by decide +kernel⟩,
   ⟨up .depot, viaV, (leBytes 1 1 ++ leBytes 1 4 ++ zeros 190), by decide +kernel⟩⟩

theorem wit_ReceiptsAndImportsAreWritten :
    (∃ (s : State) (via : Via) (value : Bytes), Reached s via 0x2D51 0 value ∧ receiptAllowed s.mode .hostRequest = true
        ∧ (s.tilth.waiting.any fun r => r.kind == .receipt && r.arrival == s.now) = false ∧ (s.ofKind .receipt).length < 8
        ∧ s.tilth.waiting.length < 16)
    ∧ (∃ (s : State) (via : Via) (value : Bytes) (n : Nat), Reached s via 0x2D51 0 value ∧ receiptAllowed s.mode .hostRequest = true
        ∧ (s.tilth.waiting.any fun r => r.kind == .receipt && r.arrival == s.now) = false ∧ 8 ≤ (s.ofKind .receipt).length
        ∧ s.newestReceipt = some n ∧ (s.slot n).inFlight = true)
    ∧ (∃ (s : State), s.running = true ∧ s.seenNum 0x2D50 1 * ticksPerSecond ≤ s.sinceTick s.ledger.receiptFrom ∧ s.journalNow < 2
        ∧ receiptAllowed s.mode .periodic = true ∧ (s.tilth.waiting.any fun r => r.kind == .receipt && r.arrival == s.now) = false
        ∧ (s.ofKind .receipt).length < 8 ∧ s.tilth.waiting.length < 16)
    ∧ (∃ (s : State), s.running = true ∧ s.seenNum 0x2D50 1 * ticksPerSecond ≤ s.sinceTick s.ledger.receiptFrom ∧ 2 ≤ s.journalNow)
    ∧ (∃ (s : State) (n reason : Nat), s.receiptSlot = some (n, reason) ∧ s.sig.failed = false ∧ s.identityBad = false
        ∧ s.sig.identity = true ∧ s.mode ≠ .retired ∧ (s.cipher.opens.filter fun o => (s.family n).contains o.slot) = [])
    ∧ (∃ (s : State) (n reason : Nat), s.receiptSlot = some (n, reason) ∧ s.sig.failed = true
        ∧ (s.cipher.opens.filter fun o => (s.family n).contains o.slot) = [])
    ∧ (∃ (s : State) (via : Via) (length : Nat) (header : Bytes) (n : Nat), s.portServes via.port = true ∧ header.length = 32
        ∧ 112 ≤ length ∧ length ≤ 2097200 ∧ s.sig.recovery = false ∧ s.carries via.srv = [] ∧ (s.server via.srv).slot = none
        ∧ s.tilth.waiting.length < 16 ∧ (s.ofKind .dictionary).length < 2 ∧ s.tilth.gateAdmits .dictionary = true
        ∧ 2 ≤ s.tilth.available .dictionary ∧ s.freeSlot .dictionary = some n ∧ n ≤ s.tilth.slots.length)
    ∧ (∃ (s : State) (cipher tag : Bytes) (n : Nat) (i : Import) (o : GcmOpen), s.jobSlot .journal = some n
        ∧ (s.slot n).state = .waitingEngine ∧ (s.slot n).parent = none ∧ cipher.length = 64 * i.count ∧ tag.length = 16
        ∧ s.openOf n = some o ∧ o.provisional = some .journal ∧ (s.cipher.opens.filter fun x => (s.family n).contains x.slot) = [o]
        ∧ s.ledger.importing = some i ∧ i.begun = true ∧ s.mode ≠ .retired ∧ i.count + 4 ≤ s.ledger.free) :=
  ⟨⟨up .depot, viaV, [1], by decide +kernel⟩,
   ⟨(let s := up .depot; { s with tilth := { s.tilth with slots := List.replicate 8 (slotOf .receipt .ready (.receipt 1 false)) ++ List.replicate 56 Slot.empty } }), viaV, [1], 1, by decide +kernel⟩,
   ⟨(let s := up .depot; { s with tilth := { s.tilth with tick := 90000000, executed := 90000000 } }), by decide +kernel⟩,
   ⟨(let s := (let s := up .depot; { s with tilth := { s.tilth with tick := 90000000, executed := 90000000 } });
       { s with ledger := { s.ledger with nextSeq := 32700 } }), by decide +kernel⟩,
   ⟨withSlot 3 { slotOf .receipt .waitingEngine (.receipt 1 true) with engine := some .sig }, 3, 1, by decide +kernel⟩,
   ⟨(let s := withSlot 3 { slotOf .receipt .waitingEngine (.receipt 1 true) with engine := some .sig };
       { s with sig := { s.sig with failed := true } }), 3, 1, by decide +kernel⟩,
   ⟨up .enrol, viaV, 176, (ascii "BLSJ" ++ [1, 0, 0, 0] ++ leBytes 4 1 ++ leBytes 4 2 ++ zeros 16), 59, by decide +kernel⟩,
   ⟨(let s := (let s := withSlot 3 (slotOf .cipher .waitingEngine (.cipher .journal));
       { s with ledger := { s.ledger with importing := some { iseq := 1, count := 2, source := zeros 16, srv := .one, begun := true } } }); { s with cipher := { s.cipher with opens := [({ slot := 3, silt := 32, annex := 0, provisional := some .journal, total := 128, complete := false } : GcmOpen)] } }), zeros 128, zeros 16, 3, { iseq := 1, count := 2, source := zeros 16, srv := .one, begun := true }, ({ slot := 3, silt := 32, annex := 0, provisional := some .journal, total := 128, complete := false } : GcmOpen), by decide +kernel⟩⟩

theorem wit_DomainsMoveAsRequested :
    (∃ (s : State) (via : Via) (sub : Nat) (value : Bytes) (d : Domain), Reached s via 0x2E01 sub value ∧ Shape s
        ∧ domainOf (sub - 1) = some d ∧ d ≠ .aon ∧ s.inGroup d = false)
    ∧ (∃ (s : State) (via : Via) (value : Bytes), Reached s via 0x2E01 1 value)
    ∧ (∃ (s : State) (via : Via) (value : Bytes), Reached s via 0x2E02 1 value ∧ s.power.group ≠ none)
    ∧ (∃ (s : State) (via : Via) (value : Bytes), Reached s via 0x2E02 1 value ∧ s.power.group = none ∧ leNat value % 4 < 2)
    ∧ (∃ (s : State) (via : Via) (value : Bytes) (d : Domain), Reached s via 0x2E02 1 value ∧ s.power.group = none
        ∧ 2 ≤ leNat value % 4 ∧ s.groupConflict (leNat value) = some d)
    ∧ (∃ (s : State) (via : Via) (value : Bytes), Reached s via 0x2E02 1 value ∧ s.power.group = none ∧ 2 ≤ leNat value % 4
        ∧ s.groupConflict (leNat value) = none)
    ∧ (∃ (s : State) (found : PowerUp) (dom : Domain), dom = found.dom ∧ (s.cell dom).moving = true
        ∧ s.now ≤ (s.cell dom).began + moveBound dom (s.cell dom) ∧ (s.running = true ∨ dom = .core))
    ∧ (∃ (s : State) (dom : Domain), s.running = true ∧ (s.cell dom).moving = true
        ∧ (s.cell dom).began + moveBound dom (s.cell dom) ≤ s.now) :=
  ⟨⟨up .depot, viaV, 12, [0], .ept, by decide +kernel⟩,
   ⟨up .depot, viaV, [0], by decide +kernel⟩,
   ⟨(let s := up .depot; { s with power := { s.power with group := some { from_ := 3, targets := [], todo := [.sec] } } }), viaV,
       leBytes 4 0xFFFFFF, by decide +kernel⟩,
   ⟨up .depot, viaV, leBytes 4 0xFFFFFC, by decide +kernel⟩,
   ⟨up .depot, viaV, leBytes 4 0xFFFFCF, .sec, by decide +kernel⟩,
   ⟨up .depot, viaV, leBytes 4 0xFFFF3F, by decide +kernel⟩,
   ⟨(let s := up .depot; s.setCell .rfx fun c => { c with state := .rising, prior := .off, target := 2 }), ⟨.rfx, false, false⟩, .rfx,
       rfl, by decide +kernel⟩,
   ⟨(let s := (let s := up .depot; { s with tilth := { s.tilth with tick := 9, executed := 9 } }); s.setCell .lfa fun c =>
       { c with state := .falling, target := 0, began := 1 }), .lfa, by decide +kernel⟩⟩

theorem wit_WakeSourcesFireAndMask :
    (∃ (s : State) (source subject : Nat), Shape s ∧ s.canAssert source subject = true ∧ s.wakeFires source = true
        ∧ bit (s.seenNum 0x2E20 0) source = true ∧ (s.wakeSource source).mask = .armed)
    ∧ (∃ (s : State) (source subject : Nat), (s.wakeSource source).mask ≠ .armed)
    ∧ (∃ (s : State) (pt : Port) (pattern : WakePattern) (n subject : Nat), Shape s
        ∧ (s.domain (canDomain pt) = .retention ∨ s.domain (canDomain pt) = .off) ∧ s.patternWake pt pattern = some (n, subject)
        ∧ s.wakeFires n = true ∧ bit (s.seenNum 0x2E20 0) n = true ∧ (s.wakeSource n).mask = .armed)
    ∧ (∃ (s : State) (pt : Port) (pattern : WakePattern), s.patternWake pt pattern = none)
    ∧ (∃ (s : State), Shape s ∧ s.power.rtcValid = true ∧ s.num 0x2E15 0 ≠ 0 ∧ s.num 0x2E15 0 ≤ s.rtcSeconds
        ∧ s.power.alarmFired = false ∧ s.wakeFires 7 = true ∧ bit (s.seenNum 0x2E20 0) 7 = true ∧ (s.wakeSource 7).mask = .armed)
    ∧ (∃ (s : State), Shape s ∧ s.alarmSet = true ∧ s.isOn .core = false ∧ s.wakeFires 7 = true ∧ bit (s.seenNum 0x2E20 0) 7 = true
        ∧ (s.wakeSource 7).mask = .armed)
    ∧ (∃ (s : State) (source : Nat), Shape s ∧ filtered source = true ∧ (s.wakeSource source).mask = .armed)
    ∧ (∃ (s : State) (source : Nat), Shape s ∧ filtered source = true
        ∧ maskEnds (s.wakeSource source).mask (s.sleepOn.aonSince (s.wakeSource source).maskedAt) = true) :=
  ⟨⟨((let s := (((let s := up .depot; (s.setCell .core fun c => { c with state := .retention }).setCell .canv fun c =>
      { c with state := .off })).put 0x2E20 0 [0xFF,
      0xFF]); { s with power := { s.power with electrodes := List.replicate 4 { baseline := 0, touched := true, run := 0, reacquire := 0, fresh := true } } })).shareAll, 5, 2, by decide +kernel⟩,
   ⟨(let s := up .depot; { s with power := { s.power with sources := List.replicate 10 { mask := .stuck, maskedAt := 0, events := [] } } }), 5, 2, by decide +kernel⟩,
   ⟨(((let s := up .depot; (s.setCell .core fun c => { c with state := .retention }).setCell .canv fun c =>
       { c with state := .off })).put 0x2E20 0 [0xFF, 0xFF]).shareAll, .v, .wup, 1, 0, by decide +kernel⟩,
   ⟨up .depot, .v, .errorCount, by decide +kernel⟩,
   ⟨((((let s := (let s := up .depot; (s.setCell .core fun c => { c with state := .retention }).setCell .canv fun c =>
       { c with state := .off }); { s with power := { s.power with rtcValid := true, rtc := 90000000 } })).put 0x2E15 0 (leBytes 4
       2)).put 0x2E20 0 [0xFF, 0xFF]).shareAll, by decide +kernel⟩,
   ⟨((((let s := (let s := up .depot; (s.setCell .core fun c => { c with state := .retention }).setCell .canv fun c =>
       { c with state := .off }); { s with power := { s.power with rtcValid := true, rtc := 90000 } })).put 0x2E15 0 (leBytes 4
       2000)).put 0x2E20 0 [0xFF, 0xFF]).shareAll, by decide +kernel⟩,
   ⟨up .depot, 10, by decide +kernel⟩,
   ⟨(let s := up .depot; { s with power := { s.power with sources := List.replicate 10 { mask := .stuck, maskedAt := 0, events := [] } } }), 1, by decide +kernel⟩⟩

theorem wit_ScansClockAndTemperatureAct :
    (∃ (s : State) (caps : List Nat) (i c : Nat) (e : Electrode), i < 4 ∧ caps[i]? = some c ∧ s.power.electrodes[i]? = some e
        ∧ bit (s.seenNum 0x2E40 3) i = true)
    ∧ (∃ (s : State) (via : Via) (value : Bytes), Reached s via 0x2E43 0 value)
    ∧ (∃ (s : State) (via : Via) (value : Bytes), Reached s via 0x2E14 2 value ∧ ¬ (s.power.rtcValid = true
        ∧ leNat value + 300 < s.rtcSeconds))
    ∧ (∃ (s : State) (via : Via) (value : Bytes), Reached s via 0x2E14 2 value ∧ s.power.rtcValid = true
        ∧ leNat value + 300 < s.rtcSeconds)
    ∧ (∃ (s : State) (via : Via) (value : Bytes), Reached s via 0x2E14 4 value ∧ s.signer = some .owner)
    ∧ (∃ (s : State) (via : Via) (value : Bytes), Reached s via 0x2E14 4 value ∧ s.signer ≠ some .owner)
    ∧ (∃ (s : State) (temp : Int), (s.seenNum 0x2E50 3 : Int) * 10 ≤ temp ∧ s.power.guard = false)
    ∧ (∃ (s : State) (temp : Int), (temp < (s.seenNum 0x2E50 3 : Int) * 10 ∨ s.power.guard = true)) :=
  ⟨⟨up .depot, [1, 200, 3, 4], 3, 4, { baseline := 0, touched := false, run := 0, reacquire := 0, fresh := false }, by decide +kernel⟩,
   ⟨up .depot, viaV, [5], by decide +kernel⟩,
   ⟨up .depot, viaV, leBytes 4 1000, by decide +kernel⟩,
   ⟨(let s := up .depot; { s with power := { s.power with rtcValid := true, rtc := 90000000 } }), viaV, leBytes 4 1000,
       by decide +kernel⟩,
   ⟨sealedFor 0x2E14 4 (leBytes 4 1000) ((let s := up .depot;
       { s with power := { s.power with rtcValid := true, rtc := 90000000 } })), viaV, leBytes 4 1000,
       reachedSealed _ _ _ _ _ (by decide +kernel), by decide +kernel⟩,
   ⟨vendorSealed 0x2E14 4 (leBytes 4 1000) (up .factory), viaV, leBytes 4 1000, reachedVendor _ _ _ _ _ (by decide +kernel),
       by decide +kernel⟩,
   ⟨up .depot, 1500, by decide +kernel⟩,
   ⟨up .depot, 200, by decide +kernel⟩⟩

theorem wit_StartUpsResetsAndRetriesRun :
    (∃ (s : State) (i : StartIn) (kind : StartKind) (f : Nat), Shape s ∧ s.platform.boot = .resetting kind f ∧ i.selfTestOk = true)
    ∧ (∃ (s : State) (i : StartIn) (kind : StartKind) (f : Nat), s.platform.boot = .resetting kind f ∧ i.selfTestOk = false)
    ∧ (∃ (s : State) (kind : StartKind) (f : Nat), s.platform.boot = .retry kind f)
    ∧ (∃ (s : State) (lowNs : Nat), 2000 ≤ lowNs)
    ∧ (∃ (s : State) (lowNs : Nat), lowNs < 2000)
    ∧ (∃ (s : State) (mv : Nat), s.running = true ∧ ((5800 ≤ mv ∧ mv ≤ 7000) ∨ 36000 < mv))
    ∧ (∃ (s : State), s.running = true) :=
  ⟨⟨State.reset, { durationUs := 35000, referenceOk := true, selfTestOk := true, badItems := [], badEntries := [], cipherOk := true, sheOk := true, digestOk := true, fallbackOk := true, brokenSeq := none, panelOpen := false }, .cold, 0, by decide +kernel⟩,
   ⟨State.reset, { durationUs := 35000, referenceOk := true, selfTestOk := false, badItems := [], badEntries := [], cipherOk := true, sheOk := true, digestOk := true, fallbackOk := true, brokenSeq := none, panelOpen := false }, .cold, 0, by decide +kernel⟩,
   ⟨{ State.reset with platform := { State.reset.platform with boot := .retry .pin 2 } }, .pin, 2, by decide +kernel⟩,
   ⟨{ up .bound with lock := { released := true, changeTick := 1, cause := 1, credential := 2 } }, 2000, by decide +kernel⟩,
   ⟨{ up .bound with lock := { released := true, changeTick := 1, cause := 1, credential := 2 } }, 1999, by decide +kernel⟩,
   ⟨up .depot, 7000, by decide +kernel⟩,
   ⟨{ up .bound with lock := { released := true, changeTick := 1, cause := 1, credential := 2 } }, by decide +kernel⟩⟩

theorem wit_FaultsAndHardpanActByClass :
    (∃ (s : State) (detector : Detector) (slot engine : Nat) (detail : Bytes), s.running = true
        ∧ (detectorClasses detector).contains .a = true)
    ∧ (∃ (s : State) (slot engine : Nat) (detail : Bytes), s.running = true ∧ s.platform.attempts < 2)
    ∧ (∃ (s : State) (slot engine : Nat) (detail : Bytes), s.running = true ∧ (s.slot slot).inFlight = true
        ∧ (s.cipher.opens.filter fun o => (s.family slot).contains o.slot) = [])
    ∧ (∃ (s : State) (slot engine : Nat) (detail : Bytes), s.running = true)
    ∧ (∃ (s : State) (slot engine : Nat) (detail : Bytes), s.running = true)
    ∧ (∃ (s : State) (detector : Detector) (cls : FaultClass) (slot engine : Nat) (detail : Bytes),
        (detectorClasses detector).contains cls = false)
    ∧ (∃ (s : State), s.running = true ∧ s.detectorOn 0 = true)
    ∧ (∃ (s : State), s.running = true ∧ s.detectorOn 2 = true)
    ∧ (∃ (s : State), s.running = true ∧ s.platform.fallbackClock = false)
    ∧ (∃ (s : State), s.platform.fallbackClock = true)
    ∧ (∃ (s : State) (via : Via) (value : Bytes), Reached s via 0x2F12 1 value ∧ s.signer = some s.exitSigner)
    ∧ (∃ (s : State) (via : Via) (value : Bytes), Reached s via 0x2F12 1 value ∧ s.signer ≠ some s.exitSigner)
    ∧ (∃ (s : State) (via : Via) (value : Bytes), Reached s via 0x2F11 0 value ∧ s.signer = some .owner)
    ∧ (∃ (s : State) (via : Via) (value : Bytes), Reached s via 0x2F11 0 value ∧ s.signer ≠ some .owner) :=
  ⟨⟨up .depot, .ecc, 3, 5, [], by decide +kernel⟩,
   ⟨up .depot, 3, 5, [], by decide +kernel⟩,
   ⟨withSlot 3 (slotOf .passport .waitingEvent), 3, 5, [], by decide +kernel⟩,
   ⟨{ up .bound with lock := { released := true, changeTick := 1, cause := 1, credential := 2 } }, 0, 0, [], by decide +kernel⟩,
   ⟨{ up .bound with lock := { released := true, changeTick := 1, cause := 1, credential := 2 } }, 0, 0, [], by decide +kernel⟩,
   ⟨up .depot, .ecc, .e, 3, 5, [], by decide +kernel⟩,
   ⟨up .depot, by decide +kernel⟩,
   ⟨up .depot, by decide +kernel⟩,
   ⟨up .depot, by decide +kernel⟩,
   ⟨(let s := up .depot; { s with platform := { s.platform with fallbackClock := true } }), by decide +kernel⟩,
   ⟨sealedFor 0x2F12 1 (leBytes 2 2048) ((let s := up .quarantine;
       { s with hardpan := { s.hardpan with causes := 2048, set := true }, life := { s.life with quarantineReturn := some .depot } })), viaV, leBytes 2 2048, reachedSealed _ _ _ _ _ (by decide +kernel), by decide +kernel⟩,
   ⟨vendorSealed 0x2F12 1 (leBytes 2 2048) ((let s := up .quarantine;
       { s with hardpan := { s.hardpan with causes := 2048, set := true }, life := { s.life with quarantineReturn := some .depot } })), viaV, leBytes 2 2048, reachedVendor _ _ _ _ _ (by decide +kernel), by decide +kernel⟩,
   ⟨sealedFor 0x2F11 0 [1] (up .depot), viaV, [1], reachedSealed _ _ _ _ _ (by decide +kernel), by decide +kernel⟩,
   ⟨vendorSealed 0x2F11 0 [1] (up .factory), viaV, [1], reachedVendor _ _ _ _ _ (by decide +kernel), by decide +kernel⟩⟩

theorem wit_DictionaryWritesAndSelectorsAct :
    (∃ (s : State) (via : Via) (idx sub : Nat) (value : Bytes), (∀ u, ownRule via idx sub value u = storeValue idx sub value u)
        ∧ Reached s via idx sub value ∧ isSealed idx sub = false ∧ needsSession (entryRow? idx sub) = false
        ∧ entryKey idx sub ≠ 0x200101 ∧ entryKey idx sub ≠ 0x2D4001)
    ∧ (∃ (s : State) (via : Via) (idx sub : Nat) (value : Bytes) (c : Code), s.portServes via.port = true ∧ s.carries via.srv = []
        ∧ (s.server via.srv).slot = none ∧ s.writeRefused idx sub value = some c
        ∧ (needsSession (entryRow? idx sub) = true → s.sessionRoom via = true) ∧ entryKey idx sub ≠ 0x2D4001
        ∧ (idx = 0x2B01 → s.lock.released = false))
    ∧ (∃ (s : State) (via : Via) (idx sub : Nat) (value : Bytes) (c : Code), s.portServes via.port = true ∧ s.carries via.srv = []
        ∧ (s.server via.srv).slot = none ∧ s.writeRefused idx sub value = none ∧ isSealed idx sub = true ∧ s.sessionRoom via = true
        ∧ s.envelopeResult idx sub value = some c ∧ s.streams idx sub value = false ∧ entryKey idx sub ≠ 0x200101
        ∧ entryKey idx sub ≠ 0x2D4001 ∧ (idx = 0x2B01 → s.lock.released = false))
    ∧ (∃ (s : State) (via : Via) (value : Bytes), Reached s via 0x2F20 3 value)
    ∧ (∃ (s : State) (via : Via) (value : Bytes), Reached s via 0x3F00 1 value)
    ∧ (∃ (s : State) (via : Via) (value : Bytes), Reached s via 0x3800 1 value)
    ∧ (∃ (s : State) (via : Via) (idx sub : Nat) (value : Bytes), Reached s via idx sub value ∧ isCredentialIndex idx = true)
    ∧ (∃ (s : State) (via : Via), s.portServes via.port = true ∧ s.carries via.srv = [] ∧ (s.server via.srv).slot = none
        ∧ s.sessionRoom via = true)
    ∧ (∃ (s : State) (via : Via) (sub : Nat), s.portServes via.port = true ∧ s.carries via.srv = [] ∧ (s.server via.srv).slot = none
        ∧ s.sessionRoom via = true ∧ (sub = 1 ∨ sub = 2) ∧ s.mode = .factory)
    ∧ (∃ (s : State) (via : Via) (sub : Nat), s.portServes via.port = true ∧ s.carries via.srv = [] ∧ (s.server via.srv).slot = none
        ∧ s.sessionRoom via = true ∧ (sub = 1 ∨ sub = 2) ∧ s.mode ≠ .factory) :=
  ⟨⟨up .depot, viaV, 0x2004, 2, [0x58, 0x02], fun _ => rfl, by decide +kernel⟩,
   ⟨up .depot, viaV, 0x2000, 0, [1], Rc.accessClass, by decide +kernel⟩,
   ⟨up .depot, viaV, 0x2200, 1, leBytes 2 1250, Rc.envelopeScope, by decide +kernel⟩,
   ⟨up .depot, viaV, leBytes 4 7, by decide +kernel⟩,
   ⟨up .depot, viaV, leBytes 4 7, by decide +kernel⟩,
   ⟨up .depot, viaV, leBytes 4 7, by decide +kernel⟩,
   ⟨sealedFor 0x301F 128 (zeros 128) (up .depot), viaV, 0x301F, 128, zeros 128, reachedSealed _ _ _ _ _ (by decide +kernel),
       by decide +kernel⟩,
   ⟨up .depot, viaV, by decide +kernel⟩,
   ⟨up .factory, viaV, 2, by decide +kernel⟩,
   ⟨up .depot, viaV, 2, by decide +kernel⟩⟩

theorem wit_LockIsNotHeldAcrossAReset :
    (∃ (s t : State) (c : Instr), exec c s = .next t ∧ s.lock.released = false ∧ t.lock.released = true)
    ∧ (∃ (s t : State) (c : Instr), (∃ rail aonLost, c = Instr.supplyReset rail aonLost) ∧ exec c s = .next t) :=
  ⟨⟨(let s := up .bound; { s with tilth := { s.tilth with proposals := [.release 61], slots := s.tilth.slots.set 60 (slotOf .release .waitingEvent (.release { carrier := .pdo, port := .v, op := .release, cid := 0x72208, exid := 7, cv := zeros 16, vn := zeros 12, site := false, credIndex := some 10, ke := zeros 16, waiting := false, challengeTick := 0 })) }, ledger := { s.ledger with hvil := .closed } }), _, .frameTick ⟨false, false, 12000, 3300, 250, false, false, []⟩, rfl, by decide +kernel⟩,
   ⟨up .depot, _, .supplyReset .vbat false, ⟨_, _, rfl⟩, rfl⟩⟩

theorem wit_ReleaseIsWithdrawnOnlyByStopHvilOrReset :
    ∃ (c : Instr) (s t : State), exec c s = .next t ∧ s.lock.released = true ∧ t.lock.released = false :=
  ⟨.hvilWithdrawal, (let s := up .bound; { s with lock := { s.lock with released := true, cause := 1 }, vehicle := { s.vehicle with hvilDue := true } }), _, rfl, rfl, rfl⟩

theorem wit_OwnerRequestQuarantinesFromAnyHost :
    ∃ (s : State) (via : Via), Reached s via 0x2F11 0 [0x01] ∧ s.signer = some .owner :=
  ⟨sealedFor 0x2F11 0 [1] (up .depot), viaV, reachedSealed _ _ _ _ _ (by decide +kernel), by decide +kernel⟩

theorem wit_TickModeLfPowerAndFaultCommandsLeaveTheRest :
    ∃ (s : State) (via : Via), Fresh s via :=
  ⟨up .depot, viaV, by decide +kernel⟩

theorem wit_BadgeRadioRangingAndVehicleCommandsLeaveTheRest :
    ∃ (s : State) (via : Via), Fresh s via :=
  ⟨up .depot, viaV, by decide +kernel⟩

theorem wit_InventoryPassportCipherAndRandomCommandsLeaveTheRest :
    ∃ (s : State) (via : Via), Fresh s via :=
  ⟨up .depot, viaV, by decide +kernel⟩

theorem wit_NetworkBridgeAndMeteringCommandsLeaveTheRest :
    ∃ (s : State) (via : Via), Fresh s via :=
  ⟨up .depot, viaV, by decide +kernel⟩

end Sys2Proof.Tests
end

/-! ## How every command ends (R2, R174, R355) -/

namespace Sys2Proof.Machine

/-- The ways the meaning of a command ends: with the lock as committed; with the main die perhaps reset, after the events of R174 or with
the lock withheld; with the lock withheld for the HV interlock; or with the tick's frame. -/
inductive EndsBy (c : Instr) (s : State) : Out → Prop
  | keep (t : State) : EndsBy c s (keepLock s t)
  | reset (t : State) (h : mayChangeLock c = true ∨ s.lock.released = false) : EndsBy c s (resetOnly s t)
  | withhold (hc : c = .hvilWithdrawal) (hl : s.lock.released = true) :
      EndsBy c s
        (.next { ({ s with vehicle := { s.vehicle with hvilDue := false } } : State).withhold 3 with pending := s.pending })
  | frame (i : TickIn) (hc : c = .frameTick i) : EndsBy c s (.next { s.frame i with pending := s.pending })

/-- HVIL_WITHDRAWAL withholds a released lock when a withdrawal is due, and keeps the lock otherwise (R202, R210). -/
theorem execHvilWithdrawal_endsBy (s : State) : EndsBy .hvilWithdrawal s (execHvilWithdrawal s) := by
  unfold execHvilWithdrawal
  cases hd : s.vehicle.hvilDue <;> cases hl : s.lock.released
  case true.true => exact .withhold rfl hl
  all_goals exact .keep _

/-- NMT reset node resets the die only with the lock withheld (R340). -/
theorem execNmtResetNode_endsBy (pt : Port) (node : Nat) (s : State) :
    EndsBy (.nmtResetNode pt node) s (execNmtResetNode pt node s) := by
  unfold execNmtResetNode
  split
  · exact .keep _
  · split
    · exact .keep _
    · next hl => exact .reset _ (.inr (Bool.eq_false_iff.mpr hl))

/-- FRAME_TICK runs the frame, or leaves the state alone where there is no tick (R34). -/
theorem execFrameTick_endsBy (i : TickIn) (s : State) : EndsBy (.frameTick i) s (execFrameTick i s) := by
  unfold execFrameTick
  split
  · exact .frame i rfl
  · exact .keep s

/-- Every command ends in one of these ways. -/
theorem exec_endsBy (c : Instr) (s : State) : EndsBy c s (exec c s) := by
  cases c with
  | frameTick i => exact execFrameTick_endsBy i s
  | hvilWithdrawal => exact execHvilWithdrawal_endsBy s
  | nmtResetNode pt node => exact execNmtResetNode_endsBy pt node s
  | supplyReset | resetPin | tickWatchdog | faultDetected | cipherCompareFail | sheCompareFail => exact .reset _ (.inl rfl)
  | _ => exact .keep _

/-- Each way to end is a next state with the queue as it was. -/
theorem EndsBy.next_pending {c : Instr} {s : State} {o : Out} (h : EndsBy c s o) : ∃ t, o = .next t ∧ t.pending = s.pending := by
  cases h with
  | keep | reset | withhold | frame => exact ⟨_, rfl, rfl⟩

/-- Settles O49: each of the ways a command can end answers a next state that takes its queue from the state before. -/
theorem commandsCompleteAndKeepTheQueue : Obligations.CommandsCompleteAndKeepTheQueue :=
  fun c s => (exec_endsBy c s).next_pending

end Sys2Proof.Machine

/-! ## The end of a host's write (R351, R356, R450) -/

namespace Sys2Proof.Machine

/-- A command whose meaning keeps the lock completes with what that meaning leaves, where the lock and the queue do not matter to it. -/
theorem Completes.of_keepLock {c : Instr} {s t : State} {P : State → Prop} (h : exec c s = keepLock s t) (hp : P t)
    (hk : ∀ u, P u → P { u with lock := s.lock, pending := s.pending }) : Completes c s P := ⟨_, h, hk t hp⟩

theorem State.tick_congr {s t : State} (h : t.tilth = s.tilth) : t.tick = s.tick := congrArg Tilth.tick h

theorem State.slot_congr {s t : State} (h : t.tilth = s.tilth) (n : Nat) : t.slot n = s.slot n := by simp only [State.slot, h]

/-- What is logged stays logged in a state with the same logs. -/
theorem Logged.congr {s t u : State} {code : Code} {subject : Nat} {data : Bytes} (h : Logged s t code subject data)
    (hl : u.logs = t.logs) : Logged s u code subject data := by
  unfold Logged; rw [hl]; exact h

/-- The end of a transfer frees its server and records the result. -/
theorem State.endTransfer_answered (s : State) (via : Via) (idx : Nat) (session : Bool) (code : Code) :
    Answered (s.endTransfer via session code (abortCodeOf code idx true)) via idx code := by
  unfold State.endTransfer
  refine ⟨?_, ?_, State.bytes_put _ _ _ _⟩ <;> cases via.srv <;> rfl

/-- A host's write that reaches an own rule, which leaves the network alone, is answered with the rule's result; it leaves what the rule
leaves, but for the envelope, the session of the access and the objects of the access itself. -/
theorem State.hostWrite_own {s : State} {via : Via} {idx sub : Nat} {value : Bytes} (h : Reached s via idx sub value) (own : Own)
    (hn : (own s).1.net = s.net) :
    Answered (s.hostWrite via idx sub value own) via idx (own s).2
      ∧ Within [.sealing, .rng, .free, .tilth, .net, .dict] [0x2020, 0x2102, 0x2103, 0x2B30] (own s).1
          (s.hostWrite via idx sub value own) := by
  have hslot : (s.server via.srv).slot = none := h.2.2.1
  rw [State.hostWrite_reached h own]
  refine ⟨State.endTransfer_answered _ _ _ _ _, ?_⟩
  have hc : ∀ u : State, Within [.sealing, .rng, .free] [] (own s).1 u →
      Within [.sealing, .rng, .free, .tilth, .net, .dict] [0x2020, 0x2102, 0x2103, 0x2B30] (own s).1
        ((u.putCode 0x2020 2 (own s).2).endTransfer via (needsSession (entryRow? idx sub)) (own s).2
          (abortCodeOf (own s).2 idx true)) := fun u hu => by
    have hnet : (u.putCode 0x2020 2 (own s).2).net = s.net := (hu.1.get .net (by decide)).trans hn
    refine (State.endTransfer_within ?_ _ _ _).step ((State.putCode_within _ _ _ _).step (hu.mono (by decide) (by decide)) (by decide)
      (by decide)) (by decide) (by decide)
    unfold State.server at hslot ⊢; rwa [hnet]
  split
  · split
    · exact hc _ (State.consume_within _ _ _ _)
    · exact hc _ (.refl _ _ _)
  · refine (State.endTransfer_within ?_ _ _ _).mono (by decide) (by decide)
    unfold State.server at hslot ⊢; rwa [hn]

end Sys2Proof.Machine

/-! ## What the end of sessions leaves of the array and of the table of slots (R42, R44, R62) -/

namespace Sys2Proof.Machine

/-- An array without an operation is left as it was, and the table of slots keeps its size. -/
structure KeepsIdle (s t : State) : Prop where
  lf : s.lf.run = none → t.lf = s.lf
  slots : t.tilth.slots.length = s.tilth.slots.length

section
variable {s t u : State}

theorem KeepsIdle.refl (s : State) : KeepsIdle s s := ⟨fun _ => rfl, rfl⟩

theorem KeepsIdle.trans (h : KeepsIdle s t) (k : KeepsIdle t u) : KeepsIdle s u :=
  ⟨fun hr => (k.lf (by rw [h.lf hr]; exact hr)).trans (h.lf hr), k.slots.trans h.slots⟩

theorem KeepsIdle.foldl {α : Type} {f : State → α → State} (h : ∀ u x, KeepsIdle u (f u x)) (l : List α) (s : State) :
    KeepsIdle s (l.foldl f s) := by
  induction l generalizing s with
  | nil => exact .refl s
  | cons x l ih => exact (h s x).trans (ih _)

/-- One more operation at the end of a chain. -/
theorem KeepsIdle.step (k : KeepsIdle t u) (h : KeepsIdle s t) : KeepsIdle s u := h.trans k

/-- What touches neither the array nor the slots. -/
theorem KeepsIdle.of_same (hl : t.lf = s.lf) (ht : t.tilth.slots = s.tilth.slots) : KeepsIdle s t := ⟨fun _ => hl, by rw [ht]⟩

theorem KeepsIdle.of_within {ps : List Part} {os : List Nat} (h : Within ps os s t) (hl : Part.lf ∉ ps) (ht : Part.tilth ∉ ps) :
    KeepsIdle s t := .of_same (h.1.get .lf hl) (congrArg Tilth.slots (h.1.get .tilth ht))

end

section
variable (s : State)

theorem State.endSession_keepsIdle (n : Nat) (c : Code) : KeepsIdle s (s.endSession n c) := by
  refine ⟨fun h => ?_, by simp [State.endSession]⟩
  cases hl : s.lf
  simp_all [State.endSession, State.releaseHolds]

theorem State.freeServer_keepsIdle (v : Srv) (c : Code) : KeepsIdle s (s.freeServer v c) :=
  .of_within (s.freeServer_within v c) (by decide) (by decide)

theorem State.windowEnds_keepsIdle (n : Nat) (c : Code) : KeepsIdle s (s.windowEnds n c) :=
  .of_within (s.windowEnds_within n c) (by decide) (by decide)

theorem State.dropTransfer_keepsIdle (v : Srv) (c : Code) : KeepsIdle s (s.dropTransfer v c) := by
  unfold State.dropTransfer
  split
  · exact (State.endSession_keepsIdle _ _ _).step ((State.freeServer_keepsIdle _ _ _).step (s.windowEnds_keepsIdle _ _))
  · exact s.freeServer_keepsIdle _ _

theorem State.dropCarrier_keepsIdle (v : Srv) (c : Code) : KeepsIdle s (s.dropCarrier v c) := by
  unfold State.dropCarrier
  split
  · exact s.dropTransfer_keepsIdle _ _
  · exact .refl s

theorem State.failConsumer_keepsIdle (k : Consumer) (c : Code) : KeepsIdle s (s.failConsumer k c) := by
  cases k with
  | firmware =>
    simp only [State.failConsumer, State.failInstall]
    split
    · exact .refl s
    · exact (State.dropCarrier_keepsIdle _ _ _).step (.of_same (by simp) (by simp))
  | journal =>
    simp only [State.failConsumer, State.failImport]
    split
    · exact .refl s
    · refine (State.dropCarrier_keepsIdle _ _ _).step (.of_same ?_ ?_) <;> split <;> simp [State.appendRecord]

theorem State.retract_keepsIdle (o : GcmOpen) : KeepsIdle s (s.retract o) := by
  have h : KeepsIdle s (((s.bump 0x2940 3).event Ev.cipherRetract o.slot
      (leBytes 1 (consumerCode o.provisional) ++ leBytes 4 (s.extentOf o))).used 1) := .of_same (by simp [State.used]) (by simp [State.used])
  unfold State.retract
  dsimp only
  split
  · exact h
  · exact (State.failConsumer_keepsIdle _ _ _).step h

theorem State.retractOpens_keepsIdle (ns : List Nat) : KeepsIdle s (s.retractOpens ns) :=
  .foldl (fun u x => u.retract_keepsIdle x) _ s

theorem State.dropJob_keepsIdle (c : Code) (k : Consumer) : KeepsIdle s (s.dropJob c k) := by
  unfold State.dropJob
  exact (KeepsIdle.foldl (fun u x => u.endSession_keepsIdle x c) _ _).step ((State.failConsumer_keepsIdle _ _ _).step
    ((State.retractOpens_keepsIdle _ _).step (.of_same (by simp) (by simp))))

theorem State.reportApproach_keepsIdle (n : Nat) (a : Approach) (c : Code) : KeepsIdle s (s.reportApproach n a c) := by
  unfold State.reportApproach
  dsimp only
  split <;> exact .of_same (by simp) (by simp)

theorem State.dropWalk_keepsIdle (n : Nat) (c : Code) : KeepsIdle s (s.dropWalk n c) := by
  unfold State.dropWalk
  split <;> exact .of_same (by simp) (by simp)

theorem State.reportPassport_keepsIdle (c : Code) : KeepsIdle s (s.reportPassport c) := by
  unfold State.reportPassport
  split
  · exact .refl s
  · split <;> exact .of_same (by simp [State.requestSession]) (by simp [State.requestSession])

theorem State.reportEnd_keepsIdle (n : Nat) (c : Code) : KeepsIdle s (s.reportEnd n c) := by
  unfold State.reportEnd
  split
  · exact s.reportApproach_keepsIdle _ _ _
  · exact s.dropWalk_keepsIdle _ _
  · exact (KeepsIdle.foldl (fun u x => u.dropJob_keepsIdle c x) _ _).step
      ((State.freeServer_keepsIdle _ _ _).step (s.windowEnds_keepsIdle _ _))
  · exact .of_within (s.putCode_within _ _ _) (by decide) (by decide)
  · split
    · exact .refl s
    · exact s.failConsumer_keepsIdle _ _
  · exact s.reportPassport_keepsIdle _
  · exact .of_same (by simp [State.reportExchange]) (by simp [State.reportExchange])
  · exact .refl s

end

/-- Without an operation there is nothing to damp. -/
theorem State.dropRun_idle {s : State} (h : s.lf.run = none) (ns : List Nat) : s.dropRun ns = s := by
  simp [State.dropRun, h]

/-- The end of a session leaves an idle array as it was (R62, R93). -/
theorem State.finish_lf {s : State} (h : s.lf.run = none) (n : Nat) (c : Code) : (s.finish n c).lf = s.lf := by
  unfold State.finish
  split
  · rfl
  · rw [State.dropRun_idle h]
    exact (((s.retractOpens_keepsIdle _).trans (State.reportEnd_keepsIdle _ _ _)).trans (State.endSession_keepsIdle _ _ _)).lf h

/-- A slot whose session is in flight is one of the table's. -/
theorem State.slot_inRange {s : State} {n : Nat} (h : (s.slot n).inFlight = true) : 1 ≤ n ∧ n ≤ s.tilth.slots.length := by
  unfold State.slot at h
  by_cases h0 : n = 0
  · simp [h0, Slot.inFlight, Slot.empty] at h
  · by_cases hl : n - 1 < s.tilth.slots.length
    · omega
    · simp [h0, hl, Slot.inFlight, Slot.empty] at h

/-- The end of a session in flight closes its slot with the result, where the array is idle (R42). -/
theorem State.finish_ended {s : State} {n : Nat} (hr : s.lf.run = none) (h : (s.slot n).inFlight = true) (c : Code) :
    Ended (s.finish n c) n c := by
  obtain ⟨h1, hn⟩ := State.slot_inRange h
  have hk := (s.retractOpens_keepsIdle (s.family n)).trans (State.reportEnd_keepsIdle _ n c)
  simp only [State.finish, h, State.dropRun_idle hr, Bool.not_true]
  exact State.endSession_ended h1 (by rwa [hk.slots]) c

end Sys2Proof.Machine

/-! ## Channels and their budgets (R86, R93, R94) -/

namespace Sys2Proof.Machine

section
variable {s : State}

@[simp] theorem LfArray.mapChannels_run (l : LfArray) (f : Nat → LfChannel → LfChannel) : (l.mapChannels f).run = l.run := rfl

theorem LfArray.length_mapChannels (l : LfArray) (f : Nat → LfChannel → LfChannel) :
    (l.mapChannels f).channels.length = l.channels.length := by simp [LfArray.mapChannels]

theorem LfArray.mapChannels_getElem? (l : LfArray) (f : Nat → LfChannel → LfChannel) (i : Nat) :
    (l.mapChannels f).channels[i]? = l.channels[i]?.map (f i) := by
  cases h : l.channels[i]? <;> simp [LfArray.mapChannels, h]

/-- A channel of the array after every channel has changed. -/
theorem State.channel_of_mapChannels {t : State} {f : Nat → LfChannel → LfChannel} {i : Nat} (hi : i < s.lf.channels.length)
    (h : t.lf.channels = (s.lf.mapChannels f).channels) : t.channel i = f i (s.channel i) := by
  simp [State.channel, h, LfArray.mapChannels_getElem?, hi]

theorem State.channel_congr {t : State} (h : t.lf = s.lf) (i : Nat) : t.channel i = s.channel i := by
  simp only [State.channel, h]

theorem State.channel_setChannel {ch : Nat} (h : ch < s.lf.channels.length) (f : LfChannel → LfChannel) :
    (s.setChannel ch f).channel ch = f (s.channel ch) := by
  simp [State.channel, State.setChannel, h]

@[simp] theorem State.length_setChannel (s : State) (ch : Nat) (f : LfChannel → LfChannel) :
    (s.setChannel ch f).lf.channels.length = s.lf.channels.length := by simp [State.setChannel]

/-- A change of the array is a change of nothing else. -/
theorem State.withLf_within (s : State) (l : LfArray) : Within [.lf] [] s { s with lf := l } := by
  refine .of_only (fun p => ?_) rfl
  cases p with
  | lf => exact .inl (by decide)
  | _ => exact .inr rfl

theorem State.setChannel_within (s : State) (ch : Nat) (f : LfChannel → LfChannel) : Within [.lf] [] s (s.setChannel ch f) :=
  s.withLf_within _

@[simp] theorem State.setChannel_tilth (s : State) (ch : Nat) (f : LfChannel → LfChannel) : (s.setChannel ch f).tilth = s.tilth := rfl
@[simp] theorem State.setChannel_run (s : State) (ch : Nat) (f : LfChannel → LfChannel) : (s.setChannel ch f).lf.run = s.lf.run := rfl
@[simp] theorem State.setChannel_calibrating (s : State) (ch : Nat) (f : LfChannel → LfChannel) :
    (s.setChannel ch f).lf.calibrating = s.lf.calibrating := rfl

@[simp] theorem LfChannel.become_state (c : LfChannel) (st : ChannelState) :
    (c.become st).state = if c.state = .disabled then .disabled else st := by
  unfold LfChannel.become; split <;> simp_all

@[simp] theorem LfChannel.become_trips (c : LfChannel) (st : ChannelState) : (c.become st).trips = c.trips := by
  unfold LfChannel.become; split <;> rfl

end

/-! ### The warnings of a budget -/

/-- The warnings of budgets change the marks of channels and the logs, and nothing else. -/
structure Rewarned (s t : State) : Prop where
  within : Within [.lf, .logs, .ledger] [] s t
  lf : t.lf = { s.lf with channels := t.lf.channels }
  length : t.lf.channels.length = s.lf.channels.length
  channel : ∀ i, ∃ b, t.channel i = { s.channel i with high := b }

theorem Rewarned.run {s t : State} (h : Rewarned s t) : t.lf.run = s.lf.run := by rw [h.lf]

theorem Rewarned.trans {s t u : State} (h : Rewarned s t) (k : Rewarned t u) : Rewarned s u where
  within := h.within.trans k.within
  lf := by have := k.lf; rw [h.lf] at this; exact this
  length := k.length.trans h.length
  channel i := by
    obtain ⟨b, hb⟩ := h.channel i
    obtain ⟨c, hc⟩ := k.channel i
    exact ⟨c, by rw [hc, hb]⟩

theorem Rewarned.foldl {α : Type} {f : State → α → State} (h : ∀ u x, Rewarned u (f u x)) (l : List α) (s : State) :
    Rewarned s (l.foldl f s) := by
  induction l generalizing s with
  | nil => exact ⟨.refl _ _ _, rfl, rfl, fun i => ⟨_, rfl⟩⟩
  | cons x l ih => exact (h s x).trans (ih _)

/-- The mark of one channel set. -/
theorem State.setHigh_rewarned (s : State) (ch : Nat) (b : Bool) : Rewarned s (s.setChannel ch fun c => { c with high := b }) where
  within := (s.setChannel_within _ _).mono (by decide) (by decide)
  lf := rfl
  length := s.length_setChannel _ _
  channel i := by
    simp only [State.channel, State.setChannel, List.getElem?_modify]
    cases s.lf.channels[i]? with
    | none => exact ⟨_, rfl⟩
    | some c =>
      by_cases hi : ch = i
      · exact ⟨b, by simp [hi]⟩
      · exact ⟨c.high, by simp [hi]⟩

theorem Rewarned.event {s t : State} (h : Rewarned s t) (code : Code) (subject : Nat) (data : Bytes) :
    Rewarned s (t.event code subject data) where
  within := (t.event_within _ _ _).step h.within (by decide) (by decide)
  lf := h.lf
  length := h.length
  channel := h.channel

theorem State.warnBudget_rewarned (s : State) (ch : Nat) : Rewarned s (s.warnBudget ch) := by
  unfold State.warnBudget
  dsimp only
  split
  · exact (s.setHigh_rewarned _ _).event _ _ _
  · exact s.setHigh_rewarned _ _

theorem State.warnBudgets_rewarned (s : State) : Rewarned s s.warnBudgets := .foldl State.warnBudget_rewarned _ s

/-- The budgets of a run corrected (R93): each channel by the charge driven, and its mark. -/
theorem State.correctBudgets_channel {s : State} {ch : Nat} (h : ch < s.lf.channels.length) (r : LfRun) (driven : List LfMeasure) :
    ∃ b, (s.correctBudgets r driven).channel ch =
      { s.channel ch with budget := (s.channel ch).budget + drivenCharge driven ch - r.charge ch, high := b } := by
  obtain ⟨b, hb⟩ := (State.warnBudgets_rewarned
    { s with lf := s.lf.mapChannels fun i c => { c with budget := c.budget + drivenCharge driven i - r.charge i } }).channel ch
  refine ⟨b, hb.trans ?_⟩
  rw [State.channel_of_mapChannels h rfl]

theorem State.correctBudgets_within (s : State) (r : LfRun) (driven : List LfMeasure) :
    Within [.lf, .logs, .ledger] [] s (s.correctBudgets r driven) :=
  (State.warnBudgets_rewarned _).within.step
    ((State.withLf_within _ _).mono (by decide) (by decide)) (by decide) (by decide)

@[simp] theorem State.correctBudgets_run (s : State) (r : LfRun) (driven : List LfMeasure) :
    (s.correctBudgets r driven).lf.run = s.lf.run := by
  unfold State.correctBudgets
  rw [(State.warnBudgets_rewarned _).run, LfArray.mapChannels_run]

theorem State.correctBudgets_length (s : State) (r : LfRun) (driven : List LfMeasure) :
    (s.correctBudgets r driven).lf.channels.length = s.lf.channels.length := by
  unfold State.correctBudgets
  rw [(State.warnBudgets_rewarned _).length, LfArray.length_mapChannels]

/-- A channel in a fault state (R86, R89, R91). -/
@[simp] theorem State.faultChannel_lf (s : State) (ch : Nat) (st : ChannelState) :
    (s.faultChannel ch st).lf = (s.setChannel ch fun c => c.become st).lf :=
  (State.alarm_within _ _ _ _).1.get .lf (by decide)

theorem State.faultChannel_within (s : State) (ch : Nat) (st : ChannelState) :
    Within [.lf, .net, .logs, .ledger, .dict] [0x2B32] s (s.faultChannel ch st) :=
  (State.alarm_within _ _ _ _).step ((s.setChannel_within _ _).mono (by decide) (by decide)) (by decide) (by decide)

theorem State.faultChannel_channel {s : State} {ch : Nat} (h : ch < s.lf.channels.length) (st : ChannelState) :
    (s.faultChannel ch st).channel ch = (s.channel ch).become st :=
  (State.channel_congr (s.faultChannel_lf ch st) ch).trans (State.channel_setChannel h _)

end Sys2Proof.Machine

/-! ## The end of an operation (R83, R85, R93) -/

namespace Sys2Proof.Machine

/-- The objects the end of an operation may write: the channels' records, and what the end of its session writes. -/
abbrev runObjects : List Nat := 0x2206 :: 0x2207 :: 0x2242 :: endObjects

section
variable {s : State}

theorem State.recordBurst_within (s : State) (b : LfBurst) : Within [.dict] [0x2206, 0x2207, 0x2242] s (s.recordBurst b) :=
  (State.bump_within _ _ _).step ((State.putNum_within _ _ _ _).step ((s.putNum_within _ _ _).mono (by decide) (by decide))
    (by decide) (by decide)) (by decide) (by decide)

theorem State.recordBursts_within (s : State) (bs : List LfBurst) :
    Within [.dict] [0x2206, 0x2207, 0x2242] s (bs.foldl State.recordBurst s) := .foldl State.recordBurst_within bs s

/-- A number stored in an entry is read in the entry's width. -/
@[simp] theorem State.bytes_putNum (s : State) (idx sub n : Nat) :
    (s.putNum idx sub n).bytes idx sub = leBytes (defaultAt (entryKey idx sub)).length n := State.bytes_put _ _ _ _

/-- A burst's frequency and code are stored (R85). -/
theorem State.recordBurst_bytes (s : State) (b : LfBurst) :
    (s.recordBurst b).bytes 0x2206 (b.ch + 1) = (s.putNum 0x2206 (b.ch + 1) b.hz).bytes 0x2206 (b.ch + 1)
      ∧ (s.recordBurst b).bytes 0x2207 (b.ch + 1) = (s.putNum 0x2207 (b.ch + 1) b.code).bytes 0x2207 (b.ch + 1) := by
  unfold State.recordBurst
  rw [(State.bump_within _ _ _).2.bytes _ _ (by decide), (State.bump_within _ _ _).2.bytes _ _ (by decide),
    (State.putNum_within _ _ _ _).2.bytes 0x2206 _ (by decide)]
  simp [State.putNum]

theorem State.lfResult_within (s : State) (n : Nat) (op : LfOp) (c : Code) (bs : List LfBurst) :
    Within endParts endObjects s (s.lfResult n op c bs) := by
  have hs : ∀ (u : State) f, Within endParts endObjects u (u.setSlot n f) := fun u f =>
    (u.setSlot_within _ _).mono (by decide) (by decide)
  unfold State.lfResult
  split
  · exact .refl _ _ _
  cases op with
  | vector => exact (hs s _).trans (hs _ _)
  | wake => exact .ite ((hs s _).trans (hs _ _)) (s.finish_within _ _)
  | command => exact .ite (hs s _) (s.finish_within _ _)

/-- What the end of an operation does to its session leaves the idle array alone. -/
theorem State.lfResult_lf (h : s.lf.run = none) (n : Nat) (op : LfOp) (c : Code) (bs : List LfBurst) :
    (s.lfResult n op c bs).lf = s.lf := by
  unfold State.lfResult
  split
  · rfl
  cases op with
  | vector => rfl
  | wake => dsimp only; split; rfl; exact State.finish_lf h _ _
  | command => dsimp only; split; rfl; exact State.finish_lf h _ _

/-- The state in which an ended operation's result reaches its session: the array idle, its budgets corrected, its bursts recorded. -/
def State.runSettled (s : State) (r : LfRun) (driven : List LfMeasure) : State :=
  (s.burstsOf r driven).foldl State.recordBurst (({ s with lf := { s.lf with run := none } } : State).correctBudgets r driven)

theorem State.endLfRun_eq (s : State) (r : LfRun) (c : Code) (driven : List LfMeasure) :
    s.endLfRun r c driven = (s.runSettled r driven).lfResult r.slot r.op c (s.burstsOf r driven) := rfl

theorem State.runSettled_within (s : State) (r : LfRun) (driven : List LfMeasure) :
    Within [.lf, .logs, .ledger, .dict] [0x2206, 0x2207, 0x2242] s (s.runSettled r driven) :=
  (State.recordBursts_within _ _).step
    ((State.correctBudgets_within _ _ _).step
      ((State.withLf_within _ _).mono (by decide) (by decide)) (by decide) (by decide))
    (by decide) (by decide)

theorem State.runSettled_tilth (s : State) (r : LfRun) (driven : List LfMeasure) : (s.runSettled r driven).tilth = s.tilth :=
  (s.runSettled_within r driven).1.get .tilth (by decide)

theorem State.runSettled_lf (s : State) (r : LfRun) (driven : List LfMeasure) :
    (s.runSettled r driven).lf = (({ s with lf := { s.lf with run := none } } : State).correctBudgets r driven).lf :=
  (State.recordBursts_within _ _).1.get .lf (by decide)

theorem State.runSettled_run (s : State) (r : LfRun) (driven : List LfMeasure) : (s.runSettled r driven).lf.run = none := by
  rw [State.runSettled_lf, State.correctBudgets_run]

theorem State.endLfRun_within (s : State) (r : LfRun) (c : Code) (driven : List LfMeasure) :
    Within endParts runObjects s (s.endLfRun r c driven) :=
  ((s.runSettled_within r driven).mono (by decide) (by decide)).trans
    ((State.lfResult_within _ _ _ _ _).mono (by decide) (by decide))

theorem State.endLfRun_lf (s : State) (r : LfRun) (c : Code) (driven : List LfMeasure) :
    (s.endLfRun r c driven).lf = (({ s with lf := { s.lf with run := none } } : State).correctBudgets r driven).lf :=
  (State.lfResult_lf (s.runSettled_run r driven) _ _ _ _).trans (s.runSettled_lf r driven)

/-- The end of an operation leaves none in progress. -/
@[simp] theorem State.endLfRun_run (s : State) (r : LfRun) (c : Code) (driven : List LfMeasure) :
    (s.endLfRun r c driven).lf.run = none := by
  rw [State.endLfRun_lf, State.correctBudgets_run]

theorem State.endLfRun_length (s : State) (r : LfRun) (c : Code) (driven : List LfMeasure) :
    (s.endLfRun r c driven).lf.channels.length = s.lf.channels.length := by
  rw [State.endLfRun_lf, State.correctBudgets_length]

/-- The end of an operation corrects the charge of each channel, and its mark (R93). -/
theorem State.endLfRun_channel {ch : Nat} (h : ch < s.lf.channels.length) (r : LfRun) (c : Code) (driven : List LfMeasure) :
    ∃ b, (s.endLfRun r c driven).channel ch =
      { s.channel ch with budget := (s.channel ch).budget + drivenCharge driven ch - r.charge ch, high := b } := by
  rw [State.channel_congr (s.endLfRun_lf r c driven)]
  exact State.correctBudgets_channel (s := { s with lf := { s.lf with run := none } }) h r driven

theorem State.endLfRun_state {ch : Nat} (h : ch < s.lf.channels.length) (r : LfRun) (c : Code) (driven : List LfMeasure) :
    ((s.endLfRun r c driven).channel ch).state = (s.channel ch).state := by
  obtain ⟨b, hb⟩ := State.endLfRun_channel h r c driven; rw [hb]

theorem State.endLfRun_trips {ch : Nat} (h : ch < s.lf.channels.length) (r : LfRun) (c : Code) (driven : List LfMeasure) :
    ((s.endLfRun r c driven).channel ch).trips = (s.channel ch).trips := by
  obtain ⟨b, hb⟩ := State.endLfRun_channel h r c driven; rw [hb]

/-- The one burst of an operation that ends well is kept at its frequency and code (R85). -/
theorem State.endLfRun_burst {r : LfRun} {driven : List LfMeasure} {b : LfBurst} (h : s.burstsOf r driven = [b]) (c : Code) :
    (s.endLfRun r c driven).bytes 0x2206 (b.ch + 1) = (s.putNum 0x2206 (b.ch + 1) b.hz).bytes 0x2206 (b.ch + 1)
      ∧ (s.endLfRun r c driven).bytes 0x2207 (b.ch + 1) = (s.putNum 0x2207 (b.ch + 1) b.code).bytes 0x2207 (b.ch + 1) := by
  have hw := State.lfResult_within (s.runSettled r driven) r.slot r.op c (s.burstsOf r driven)
  rw [State.endLfRun_eq, hw.2.bytes _ _ (by decide), hw.2.bytes _ _ (by decide)]
  simpa [State.runSettled, h] using State.recordBurst_bytes _ b

theorem Slot.approach?_eq_some {sl : Slot} {a : Approach} : sl.approach? = some a ↔ sl.work = .approach a := by
  unfold Slot.approach?; split <;> simp_all

/-- The bursts of a vector operation that ends well are in the approach, which waits for the badges (R85, R113). -/
theorem State.lfResult_vector {n : Nat} {a : Approach} (hf : (s.slot n).inFlight = true) (ha : (s.slot n).approach? = some a)
    (bs : List LfBurst) :
    ((s.lfResult n .vector Rc.ok bs).slot n).approach? = some { a with vectors := .done bs s.tick }
      ∧ ((s.lfResult n .vector Rc.ok bs).slot n).state = .waitingEvent := by
  obtain ⟨h1, hn⟩ := State.slot_inRange hf
  have hw := Slot.approach?_eq_some.1 ha
  unfold State.lfResult State.await State.setApproach
  simp only [hf, Bool.not_true, Bool.false_eq_true, if_false, if_true]
  rw [State.slot_setSlot h1 (by rwa [State.length_setSlot]), State.slot_setSlot h1 hn]
  simp [hw, Slot.approach?]

end

end Sys2Proof.Machine

/-! ## The end of a calibration (R86, R87, R91 to R93) -/

namespace Sys2Proof.Machine

section
variable {s : State}

theorem Rewarned.calibrating {t : State} (h : Rewarned s t) : t.lf.calibrating = s.lf.calibrating := by rw [h.lf]

/-- The end of a command or schedule leaves the channels, the operation and the calibration in progress (R87). -/
theorem State.endCalibration_lf (s : State) : ∃ l, s.endCalibration.lf = { s.lf with finished := l } := by
  unfold State.endCalibration
  split
  · exact ⟨_, rfl⟩
  · refine ⟨[], ?_⟩
    dsimp only
    split <;> split <;> simp

theorem State.endCalibration_channel (s : State) (ch : Nat) : s.endCalibration.channel ch = s.channel ch := by
  obtain ⟨l, hl⟩ := s.endCalibration_lf
  simp only [State.channel, hl]

theorem State.endCalibration_length (s : State) : s.endCalibration.lf.channels.length = s.lf.channels.length := by
  obtain ⟨l, hl⟩ := s.endCalibration_lf; rw [hl]

@[simp] theorem State.endCalibration_calibrating (s : State) : s.endCalibration.lf.calibrating = s.lf.calibrating := by
  obtain ⟨l, hl⟩ := s.endCalibration_lf; rw [hl]

theorem State.endCalibration_within (s : State) : Within [.lf, .logs, .ledger, .dict] [0x2221] s s.endCalibration := by
  have h0 : Within [.lf, .logs, .ledger, .dict] [0x2221] s { s with lf := { s.lf with finished := [] } } :=
    (State.withLf_within _ _).mono (by decide) (by decide)
  have h1 : ∀ t : State, Within [.lf, .logs, .ledger, .dict] [0x2221] s t →
      Within [.lf, .logs, .ledger, .dict] [0x2221] s (if t.num 0x2221 0 = Rc.pending.toNat then t.putCode 0x2221 0 Rc.ok else t) :=
    fun t h => .ite ((t.putCode_within _ _ _).step h (by decide) (by decide)) h
  unfold State.endCalibration
  split
  · exact .refl _ _ _
  · exact .ite (h1 _ h0) ((State.event_within _ _ _ _).step (h1 _ h0) (by decide) (by decide))

/-- A calibration result other than PENDING stays (R87). -/
theorem State.endCalibration_result (h : s.num 0x2221 0 ≠ Rc.pending.toNat) : s.endCalibration.bytes 0x2221 0 = s.bytes 0x2221 0 := by
  have h0 : (({ s with lf := { s.lf with finished := [] } } : State).num 0x2221 0 ≠ Rc.pending.toNat) := h
  unfold State.endCalibration
  split
  · rfl
  · dsimp only
    rw [if_neg h0]
    split <;> rfl

/-- A calibration cut short ends: none is in progress, and its channel is UNCALIBRATED, its trips kept (R91, R92, R95). -/
theorem State.dropCalibration_channel {ch nominal : Nat} (hc : s.lf.calibrating = some (ch, nominal)) (h : ch < s.lf.channels.length) :
    (s.dropCalibration.channel ch).state = (if (s.channel ch).state = .disabled then .disabled else .uncalibrated)
      ∧ (s.dropCalibration.channel ch).trips = (s.channel ch).trips := by
  have e : s.dropCalibration.channel ch =
      ((s.channel ch).become .uncalibrated).refund (Config.freeNat s.free % (calCharge (calOnUs nominal) + 1)) := by
    unfold State.dropCalibration
    rw [hc]
    exact State.channel_setChannel (s := { s with lf := { s.lf with calibrating := none } }) h _
  rw [e]
  exact ⟨LfChannel.become_state _ _, LfChannel.become_trips _ _⟩

theorem State.dropCalibration_calibrating (s : State) : s.dropCalibration.lf.calibrating = none := by
  unfold State.dropCalibration
  cases h : s.lf.calibrating with
  | none => exact h
  | some c => rfl

theorem State.dropCalibration_length (s : State) : s.dropCalibration.lf.channels.length = s.lf.channels.length := by
  unfold State.dropCalibration
  split
  · simp [State.used, State.setChannel]
  · rfl

theorem State.dropCalibration_within (s : State) : Within [.lf, .free] [] s s.dropCalibration := by
  unfold State.dropCalibration
  split
  · exact (State.used_within _ _).step ((State.setChannel_within _ _ _).step
      ((State.withLf_within _ _).mono (by decide) (by decide)) (by decide) (by decide))
      (by decide) (by decide)
  · exact .refl _ _ _

theorem State.refuseCalibration_channel (s : State) (ch : Nat) (c : Code) (i : Nat) : (s.refuseCalibration ch c).channel i = s.channel i :=
  State.endCalibration_channel _ _

theorem State.refuseCalibration_length (s : State) (ch : Nat) (c : Code) :
    (s.refuseCalibration ch c).lf.channels.length = s.lf.channels.length := State.endCalibration_length _

theorem State.refuseCalibration_calibrating (s : State) (ch : Nat) (c : Code) :
    (s.refuseCalibration ch c).lf.calibrating = s.lf.calibrating := State.endCalibration_calibrating _

theorem State.refuseCalibration_within (s : State) (ch : Nat) (c : Code) :
    Within [.lf, .logs, .ledger, .dict] [0x2221] s (s.refuseCalibration ch c) := by
  have h0 : Within [.lf, .logs, .ledger, .dict] [0x2221] (s.putCode 0x2221 0 c) { s.putCode 0x2221 0 c with lf := s.lf.dropChannel ch } :=
    (State.withLf_within _ _).mono (by decide) (by decide)
  exact (State.endCalibration_within _).step (((s.putCode_within _ _ _).mono (by decide) (by decide)).trans h0) (by decide) (by decide)

/-- The result with which a calibration is refused or cut short stands (R91 to R93). -/
theorem State.refuseCalibration_result (s : State) (ch : Nat) {c : Code} (h : leNat (codeBytes c) ≠ Rc.pending.toNat) :
    (s.refuseCalibration ch c).bytes 0x2221 0 = codeBytes c := by
  have hb : ({ s.putCode 0x2221 0 c with lf := s.lf.dropChannel ch } : State).bytes 0x2221 0 = codeBytes c := State.bytes_put _ _ _ _
  exact (State.endCalibration_result (by rw [State.num, hb]; exact h)).trans hb

end

end Sys2Proof.Machine

/-! ## Trips and supply faults (R91, R92) -/

namespace Sys2Proof.Machine

section
variable {s : State} {ch : Nat}

theorem State.cutLf_run {r : LfRun} (h : s.lf.run = some r) (c : Code) (driven : List LfMeasure) :
    s.cutLf c driven = s.endLfRun r c driven := by simp [State.cutLf, h]

theorem State.cutLf_calibration {nominal : Nat} (hr : s.lf.run = none) (hc : s.lf.calibrating = some (ch, nominal)) (c : Code)
    (driven : List LfMeasure) : s.cutLf c driven = s.dropCalibration.refuseCalibration ch c := by simp [State.cutLf, hr, hc]

/-- A calibration cut short leaves none in progress, its result, and its channel UNCALIBRATED with its trips. -/
structure CalibrationCut (s t : State) (ch : Nat) (c : Code) : Prop where
  calibrating : t.lf.calibrating = none
  result : t.bytes 0x2221 0 = codeBytes c
  length : t.lf.channels.length = s.lf.channels.length
  channel : ch < s.lf.channels.length →
    (t.channel ch).state = (if (s.channel ch).state = .disabled then .disabled else .uncalibrated) ∧ (t.channel ch).trips = (s.channel ch).trips
  within : Within [.lf, .free, .logs, .ledger, .dict] [0x2221] s t

theorem State.cutLf_calibrationCut {nominal : Nat} (hr : s.lf.run = none) (hc : s.lf.calibrating = some (ch, nominal)) {c : Code}
    (hp : leNat (codeBytes c) ≠ Rc.pending.toNat) (driven : List LfMeasure) : CalibrationCut s (s.cutLf c driven) ch c := by
  rw [State.cutLf_calibration hr hc]
  exact
    { calibrating := (State.refuseCalibration_calibrating _ _ _).trans s.dropCalibration_calibrating
      result := State.refuseCalibration_result _ _ hp
      length := (State.refuseCalibration_length _ _ _).trans s.dropCalibration_length
      channel := fun h => by rw [State.refuseCalibration_channel]; exact State.dropCalibration_channel hc h
      within := (State.refuseCalibration_within _ _ _).step (s.dropCalibration_within.mono (by decide) (by decide)) (by decide) (by decide) }

/-- A trip counted and kept with those of the last 10 s (R91). -/
def State.noteTrip (s : State) (ch : Nat) : State :=
  (s.bump 0x2241 (ch + 1)).setChannel ch fun c => { c with trips := s.tick :: s.recentTrips ch }

theorem State.trip_eq (s : State) (ch : Nat) (driven : List LfMeasure) :
    s.trip ch driven = if 2 ≤ (s.recentTrips ch).length
      then ((s.noteTrip ch).cutLf Rc.lfOvercurrent driven).faultChannel ch .faultOvercurrent
      else (s.noteTrip ch).cutLf Rc.lfOvercurrent driven := by
  simp [State.trip, State.noteTrip]

theorem State.noteTrip_channel (h : ch < s.lf.channels.length) :
    (s.noteTrip ch).channel ch = { s.channel ch with trips := s.tick :: s.recentTrips ch } :=
  State.channel_setChannel (s := s.bump 0x2241 (ch + 1)) h _

theorem State.noteTrip_length (s : State) (ch : Nat) : (s.noteTrip ch).lf.channels.length = s.lf.channels.length :=
  State.length_setChannel _ _ _

theorem State.noteTrip_run (s : State) (ch : Nat) : (s.noteTrip ch).lf.run = s.lf.run := by simp [State.noteTrip]

theorem State.noteTrip_calibrating (s : State) (ch : Nat) : (s.noteTrip ch).lf.calibrating = s.lf.calibrating := by
  simp [State.noteTrip]

/-- What follows a trip once the array is cut: the third within 10 s takes the channel to FAULT_OVERCURRENT; its trips are kept (R91). -/
theorem State.trip_channel {driven : List LfMeasure} {t : State} (ht : (s.noteTrip ch).cutLf Rc.lfOvercurrent driven = t)
    (h : ch < t.lf.channels.length) (hd : (t.channel ch).state = .disabled ↔ (s.channel ch).state = .disabled)
    (htr : (t.channel ch).trips = s.tick :: s.recentTrips ch) :
    (2 ≤ (s.recentTrips ch).length →
        ((s.trip ch driven).channel ch).state = (if (s.channel ch).state = .disabled then .disabled else .faultOvercurrent))
      ∧ ((s.trip ch driven).channel ch).trips = s.tick :: s.recentTrips ch := by
  rw [State.trip_eq, ht]
  split
  · rw [State.faultChannel_channel h]
    exact ⟨fun _ => by simp [hd], by rw [LfChannel.become_trips, htr]⟩
  · exact ⟨fun h2 => absurd h2 ‹_›, htr⟩

/-- What a trip leaves of the array beside its channels, of the calibration result and of the slots is what the cut leaves. -/
theorem State.trip_keeps (driven : List LfMeasure) :
    (s.trip ch driven).lf.run = ((s.noteTrip ch).cutLf Rc.lfOvercurrent driven).lf.run
      ∧ (s.trip ch driven).lf.calibrating = ((s.noteTrip ch).cutLf Rc.lfOvercurrent driven).lf.calibrating
      ∧ (s.trip ch driven).bytes 0x2221 0 = ((s.noteTrip ch).cutLf Rc.lfOvercurrent driven).bytes 0x2221 0 := by
  rw [State.trip_eq]
  split
  · exact ⟨by simp, by simp, (State.faultChannel_within _ _ _).2.bytes _ _ (by decide)⟩
  · exact ⟨rfl, rfl, rfl⟩

theorem State.calibratingNow_of_calibrating {nominal : Nat} (hc : s.lf.calibrating = some (ch, nominal)) : s.calibratingNow = some ch := by
  simp [State.calibratingNow, hc]

end

/-! ## The commands -/

section
variable {s : State}

theorem vlfOutside_iff {v : Nat} : vlfOutside v = true ↔ v < 7000 ∨ 34000 < v := by simp [vlfOutside]

theorem vlfOutside_eq_false {v : Nat} (hlo : 7000 ≤ v) (hhi : v ≤ 34000) : vlfOutside v = false := by
  rw [← Bool.not_eq_true, vlfOutside_iff]; omega

theorem exec_lfOperationEnd {r : LfRun} {v : Nat} {driven : List LfMeasure} (hr : s.lf.run = some r) (he : s.lfEnds r = true)
    (hd : r.reports driven = true) (hlo : 7000 ≤ v) (hhi : v ≤ 34000) :
    exec (.lfOperationEnd v driven) s = keepLock s ((s.putNum 0x2240 0 v).endLfRun r Rc.ok driven) := by
  show execLfOperationEnd v driven s = _
  simp [execLfOperationEnd, hr, he, hd, vlfOutside_eq_false hlo hhi]

theorem exec_lfDetuned {r : LfRun} {u : LfUnit} {ch : Nat} {clamp : LfClamp} {driven : List LfMeasure} (hr : s.lf.run = some r)
    (hu : r.unit? = some u) (hch : s.driven ch = true) (h3 : 3 ≤ clamp.first) (hf : clamp.first ≤ clamp.cycle)
    (hd : r.reports driven = true) : exec (.lfDetuned ch clamp driven) s = keepLock s (s.detune r u ch clamp driven) := by
  show execLfDetuned ch clamp driven s = _
  simp [execLfDetuned, hr, hu, hch, h3, hf, hd]

theorem exec_lfOvercurrent {ch : Nat} {driven : List LfMeasure} (hc : s.driven ch = true ∨ s.calibratingNow = some ch)
    (hf : s.reportFits driven = true) : exec (.lfOvercurrent ⟨ch, driven⟩) s = keepLock s (s.trip ch driven) := by
  show execLfOvercurrent ⟨ch, driven⟩ s = _
  simp [execLfOvercurrent, hc, hf]

/-- A supply fault: the VLF it brings, the array cut, and the chapter's EMCY (R92). -/
theorem exec_lfSupplyFault {v : Nat} {driven : List LfMeasure} (hb : s.lf.run.isSome = true ∨ s.lf.calibrating.isSome = true)
    (hf : s.reportFits driven = true) (hv : v < 7000 ∨ 34000 < v) :
    exec (.lfSupplyFault ⟨v, driven⟩) s =
      keepLock s (((s.putNum 0x2240 0 v).cutLf Rc.lfSupply driven).raise 0xFF03 Rc.lfSupply 0) := by
  show execLfSupplyFault ⟨v, driven⟩ s = _
  simp [execLfSupplyFault, hb, hf, vlfOutside_iff.2 hv]

theorem State.reportFits_run {r : LfRun} (hr : s.lf.run = some r) {driven : List LfMeasure} (h : r.reports driven = true) :
    s.reportFits driven = true := by simp [State.reportFits, hr, h]

theorem State.reportFits_idle (hr : s.lf.run = none) : s.reportFits [] = true := by simp [State.reportFits, hr]

end

end Sys2Proof.Machine

/-! ## Operations that end, detune, trip or lose their supply (R83, R85, R89, R91, R92) -/

namespace Sys2Proof.Machine

section
variable {s : State} {r : LfRun}

/-- The bursts of an operation do not read VLF. -/
theorem State.burstsOf_putVlf (s : State) (r : LfRun) (v : Nat) (driven : List LfMeasure) :
    (s.putNum 0x2240 0 v).burstsOf r driven = s.burstsOf r driven := by
  have h : ∀ ch, (s.putNum 0x2240 0 v).num 0x2205 ch = s.num 0x2205 ch := fun ch => by
    unfold State.num; rw [(s.putNum_within 0x2240 0 v).2.bytes _ _ (by decide)]
  simp only [State.burstsOf, h]

/-- The end of a vector operation that ends well keeps its bursts in the approach (R85, R113). -/
theorem State.endLfRun_vector {a : Approach} {driven : List LfMeasure} (ho : r.op = .vector) (hf : (s.slot r.slot).inFlight = true)
    (ha : (s.slot r.slot).approach? = some a) :
    ((s.endLfRun r Rc.ok driven).slot r.slot).approach? = some { a with vectors := .done (s.burstsOf r driven) s.tick }
      ∧ ((s.endLfRun r Rc.ok driven).slot r.slot).state = .waitingEvent := by
  have hs := State.slot_congr (s.runSettled_tilth r driven) r.slot
  have ht := State.tick_congr (s.runSettled_tilth r driven)
  rw [State.endLfRun_eq, ho, ← ht]
  exact State.lfResult_vector (by rw [hs]; exact hf) (by rw [hs]; exact ha) _

theorem lfOperationEnd_completes {v : Nat} {driven : List LfMeasure} (hr : s.lf.run = some r) (he : s.lfEnds r = true)
    (hd : r.reports driven = true) (hlo : 7000 ≤ v) (hhi : v ≤ 34000) :
    Completes (.lfOperationEnd v driven) s fun t =>
      t.lf.run = none
      ∧ t.bytes 0x2240 0 = (s.putNum 0x2240 0 v).bytes 0x2240 0
      ∧ (∀ ch, ch < s.lf.channels.length → (t.channel ch).budget = (s.channel ch).budget + drivenCharge driven ch - r.charge ch)
      ∧ (∀ b, s.burstsOf r driven = [b] → t.bytes 0x2206 (b.ch + 1) = (s.putNum 0x2206 (b.ch + 1) b.hz).bytes 0x2206 (b.ch + 1)
          ∧ t.bytes 0x2207 (b.ch + 1) = (s.putNum 0x2207 (b.ch + 1) b.code).bytes 0x2207 (b.ch + 1))
      ∧ (∀ a, r.op = .vector → (s.slot r.slot).inFlight = true → (s.slot r.slot).approach? = some a →
          (t.slot r.slot).approach? = some { a with vectors := .done (s.burstsOf r driven) s.tick }
          ∧ (t.slot r.slot).state = .waitingEvent) := by
  have hb := s.burstsOf_putVlf r v driven
  have hw := State.endLfRun_within (s.putNum 0x2240 0 v) r Rc.ok driven
  refine .of_keepLock (exec_lfOperationEnd hr he hd hlo hhi) ⟨State.endLfRun_run _ _ _ _, hw.2.bytes _ _ (by decide),
    fun ch h => ?_, fun b h => ?_, fun a ho hf ha => ?_⟩ fun _ h => h
  · obtain ⟨m, hm⟩ := State.endLfRun_channel (s := s.putNum 0x2240 0 v) h r Rc.ok driven
    exact congrArg LfChannel.budget hm
  · have hburst := State.endLfRun_burst (hb.trans h) Rc.ok
    simp only [State.bytes_putNum] at hburst ⊢
    exact hburst
  · exact hb ▸ State.endLfRun_vector (s := s.putNum 0x2240 0 v) ho hf ha

/-- A channel lowered to a code, its reduction noted with the transmission on the coils (R85, R89). -/
def State.lowered (s : State) (r : LfRun) (ch code : Nat) : State :=
  let t := s.setChannel ch fun c => { c.become .detuned with ceiling := code }
  { t with lf := { t.lf with run := some (r.noteDetuned ch) } }

theorem State.lowered_channel {ch : Nat} (h : ch < s.lf.channels.length) (r : LfRun) (code : Nat) :
    (s.lowered r ch code).channel ch = { (s.channel ch).become .detuned with ceiling := code } :=
  State.channel_setChannel h _

theorem State.lowered_run (s : State) (r : LfRun) (ch code : Nat) : (s.lowered r ch code).lf.run = some (r.noteDetuned ch) := rfl

theorem State.lowered_logged (s : State) (r : LfRun) (ch code : Nat) (data : Bytes) :
    Logged s ((s.lowered r ch code).event Ev.lfDetuned ch data) Ev.lfDetuned ch data := State.event_logged (s.lowered r ch code) _ _ _

/-- DETUNED within the first eight cycles and at a code of 2 at least lowers the channel to that code and logs it (R89). -/
theorem State.detune_lowers {u : LfUnit} {ch : Nat} {clamp : LfClamp} (driven : List LfMeasure) (h8 : clamp.cycle ≤ 8)
    (hc : 2 ≤ detunedCode (min u.target (s.channel ch).ceiling) clamp.first clamp.cycle) :
    s.detune r u ch clamp driven =
      (s.lowered r ch (detunedCode (min u.target (s.channel ch).ceiling) clamp.first clamp.cycle).toNat).event Ev.lfDetuned ch
        (leBytes 1 (detunedCode (min u.target (s.channel ch).ceiling) clamp.first clamp.cycle).toNat) := if_pos ⟨h8, hc⟩

/-- DETUNED later than the eighth cycle, or below a code of 2, is a fault (R89). -/
theorem State.detune_faults {u : LfUnit} {ch : Nat} {clamp : LfClamp} (driven : List LfMeasure)
    (h : 8 < clamp.cycle ∨ detunedCode (min u.target (s.channel ch).ceiling) clamp.first clamp.cycle < 2) :
    s.detune r u ch clamp driven = (s.faultChannel ch .faultDetune).endLfRun r Rc.lfDetuneLimit driven := by
  unfold State.detune
  exact if_neg fun ⟨h8, h2⟩ => by omega

theorem lfDetuned_lowers {u : LfUnit} {ch : Nat} {clamp : LfClamp} {driven : List LfMeasure} (hr : s.lf.run = some r)
    (hu : r.unit? = some u) (hd : s.driven ch = true) (hch : ch < s.lf.channels.length) (h3 : 3 ≤ clamp.first)
    (hf : clamp.first ≤ clamp.cycle) (hrep : r.reports driven = true) (h8 : clamp.cycle ≤ 8)
    (hc : 2 ≤ detunedCode (min u.target (s.channel ch).ceiling) clamp.first clamp.cycle) :
    Completes (.lfDetuned ch clamp driven) s fun t =>
      ((t.channel ch).state = (if (s.channel ch).state = .disabled then .disabled else .detuned))
      ∧ (t.channel ch).ceiling = (detunedCode (min u.target (s.channel ch).ceiling) clamp.first clamp.cycle).toNat
      ∧ Logged s t Ev.lfDetuned ch (leBytes 1 (detunedCode (min u.target (s.channel ch).ceiling) clamp.first clamp.cycle).toNat)
      ∧ t.lf.run = some (r.noteDetuned ch) := by
  have hexec := exec_lfDetuned hr hu hd h3 hf hrep
  rw [State.detune_lowers driven h8 hc] at hexec
  generalize (detunedCode (min u.target (s.channel ch).ceiling) clamp.first clamp.cycle).toNat = code at hexec ⊢
  have hlow : ((s.lowered r ch code).event Ev.lfDetuned ch (leBytes 1 code)).channel ch =
      { (s.channel ch).become .detuned with ceiling := code } := State.lowered_channel hch r code
  exact .of_keepLock hexec ⟨by rw [hlow]; exact LfChannel.become_state _ _, by rw [hlow], s.lowered_logged r ch code _,
    s.lowered_run r ch code⟩ fun _ h => h

theorem lfDetuned_faults {u : LfUnit} {ch : Nat} {clamp : LfClamp} {driven : List LfMeasure} (hr : s.lf.run = some r)
    (hu : r.unit? = some u) (hd : s.driven ch = true) (hch : ch < s.lf.channels.length) (h3 : 3 ≤ clamp.first)
    (hf : clamp.first ≤ clamp.cycle) (hrep : r.reports driven = true)
    (hc : 8 < clamp.cycle ∨ detunedCode (min u.target (s.channel ch).ceiling) clamp.first clamp.cycle < 2) :
    Completes (.lfDetuned ch clamp driven) s fun t =>
      ((t.channel ch).state = (if (s.channel ch).state = .disabled then .disabled else .faultDetune))
      ∧ t.lf.run = none := by
  have hl : ch < (s.faultChannel ch .faultDetune).lf.channels.length := by simpa using hch
  have hst := State.endLfRun_state hl r Rc.lfDetuneLimit driven
  rw [State.faultChannel_channel hch, LfChannel.become_state] at hst
  have hexec := exec_lfDetuned hr hu hd h3 hf hrep
  rw [State.detune_faults driven hc] at hexec
  exact .of_keepLock hexec ⟨hst, State.endLfRun_run _ _ _ _⟩ fun _ h => h

theorem lfOvercurrent_endsRun {ch : Nat} {driven : List LfMeasure} (hr : s.lf.run = some r) (hd : s.driven ch = true)
    (hch : ch < s.lf.channels.length) (hrep : r.reports driven = true) :
    Completes (.lfOvercurrent ⟨ch, driven⟩) s fun t =>
      t.lf.run = none
      ∧ (2 ≤ (s.recentTrips ch).length → (t.channel ch).state = (if (s.channel ch).state =
          .disabled then .disabled else .faultOvercurrent))
      ∧ (t.channel ch).trips = s.tick :: s.recentTrips ch := by
  have hcut : (s.noteTrip ch).cutLf Rc.lfOvercurrent driven = (s.noteTrip ch).endLfRun r Rc.lfOvercurrent driven :=
    State.cutLf_run ((s.noteTrip_run ch).trans hr) _ _
  have hl : ch < (s.noteTrip ch).lf.channels.length := by rwa [State.noteTrip_length]
  have hst := State.endLfRun_state hl r Rc.lfOvercurrent driven
  have htr := State.endLfRun_trips hl r Rc.lfOvercurrent driven
  rw [State.noteTrip_channel hch] at hst htr
  obtain ⟨hrun, -, -⟩ := State.trip_keeps (s := s) (ch := ch) driven
  exact .of_keepLock (exec_lfOvercurrent (.inl hd) (State.reportFits_run hr hrep))
    ⟨hrun.trans (by rw [hcut, State.endLfRun_run]), State.trip_channel hcut (by rwa [State.endLfRun_length, State.noteTrip_length])
      (by rw [hst]) htr⟩ fun _ h => h

theorem lfOvercurrent_endsCalibration {ch nominal : Nat} (hr : s.lf.run = none) (hc : s.lf.calibrating = some (ch, nominal))
    (hch : ch < s.lf.channels.length) :
    Completes (.lfOvercurrent ⟨ch, []⟩) s fun t =>
      t.lf.calibrating = none
      ∧ t.bytes 0x2221 0 = codeBytes Rc.lfOvercurrent
      ∧ (2 ≤ (s.recentTrips ch).length → (t.channel ch).state = (if (s.channel ch).state =
          .disabled then .disabled else .faultOvercurrent))
      ∧ (t.channel ch).trips = s.tick :: s.recentTrips ch := by
  have cut := State.cutLf_calibrationCut (c := Rc.lfOvercurrent) ((s.noteTrip_run ch).trans hr) ((s.noteTrip_calibrating ch).trans hc)
    (by decide) []
  have hl : ch < (s.noteTrip ch).lf.channels.length := by rwa [State.noteTrip_length]
  obtain ⟨hst, htr⟩ := cut.channel hl
  rw [State.noteTrip_channel hch] at hst htr
  obtain ⟨-, hcal, hres⟩ := State.trip_keeps (s := s) (ch := ch) []
  exact .of_keepLock (exec_lfOvercurrent (.inr (State.calibratingNow_of_calibrating hc)) (State.reportFits_idle hr))
    ⟨hcal.trans cut.calibrating, hres.trans cut.result, State.trip_channel rfl (by rwa [cut.length])
      (by rw [hst]; split <;> simp_all) htr⟩ fun _ h => h

theorem lfSupplyFault_endsRun {v : Nat} {driven : List LfMeasure} (hr : s.lf.run = some r) (hrep : r.reports driven = true)
    (hv : v < 7000 ∨ 34000 < v) :
    Completes (.lfSupplyFault ⟨v, driven⟩) s fun t =>
      t.lf.run = none
      ∧ t.bytes 0x2240 0 = (s.putNum 0x2240 0 v).bytes 0x2240 0 := by
  refine .of_keepLock (exec_lfSupplyFault (.inl (by simp [hr])) (State.reportFits_run hr hrep) hv) ?_ fun _ h => h
  rw [State.cutLf_run (s := s.putNum 0x2240 0 v) hr]
  have hw := State.raise_within ((s.putNum 0x2240 0 v).endLfRun r Rc.lfSupply driven) 0xFF03 Rc.lfSupply 0
  exact ⟨(congrArg LfArray.run (hw.1.get .lf (by decide))).trans (State.endLfRun_run _ _ _ _),
    (hw.2.bytes _ _ (by decide)).trans ((State.endLfRun_within _ _ _ _).2.bytes _ _ (by decide))⟩

theorem lfSupplyFault_endsCalibration {ch nominal v : Nat} (hr : s.lf.run = none) (hc : s.lf.calibrating = some (ch, nominal))
    (hv : v < 7000 ∨ 34000 < v) :
    Completes (.lfSupplyFault ⟨v, []⟩) s fun t =>
      t.lf.calibrating = none
      ∧ t.bytes 0x2221 0 = codeBytes Rc.lfSupply
      ∧ t.bytes 0x2240 0 = (s.putNum 0x2240 0 v).bytes 0x2240 0 := by
  refine .of_keepLock (exec_lfSupplyFault (.inr (by simp [hc])) (State.reportFits_idle hr) hv) ?_ fun _ h => h
  have cut := State.cutLf_calibrationCut (c := Rc.lfSupply) (s := s.putNum 0x2240 0 v) hr hc (by decide) []
  have hw := State.raise_within ((s.putNum 0x2240 0 v).cutLf Rc.lfSupply []) 0xFF03 Rc.lfSupply 0
  exact ⟨(congrArg LfArray.calibrating (hw.1.get .lf (by decide))).trans cut.calibrating, (hw.2.bytes _ _ (by decide)).trans cut.result,
    (hw.2.bytes _ _ (by decide)).trans (cut.within.2.bytes _ _ (by decide))⟩

/-- A fault cleared by its own rule (R94). -/
theorem ownLfFaultClear_of_isFault {sub : Nat} (h : (s.channel (sub - 1)).state.isFault = true) :
    ownLfFaultClear sub s =
      ((s.hostChannels fun i c => if i = sub - 1 then { c with state := .uncalibrated } else c).event Ev.lfFaultCleared (sub - 1) [], Rc.ok) := by
  simp [ownLfFaultClear, h]

theorem lfFaultClear_completes {via : Via} {sub : Nat} {value : Bytes} (h : Reached s via 0x2203 sub value) (h1 : 1 ≤ sub)
    (hn : sub ≤ s.lf.channels.length) (hf : (s.channel (sub - 1)).state.isFault = true) :
    Completes (.lfFaultClear via sub value) s fun t =>
      Answered t via 0x2203 Rc.ok
      ∧ (t.channel (sub - 1)).state = .uncalibrated
      ∧ Logged s t Ev.lfFaultCleared (sub - 1) [] := by
  have hown := ownLfFaultClear_of_isFault hf
  obtain ⟨ha, hw⟩ := State.hostWrite_own h (ownLfFaultClear sub) (by rw [hown]; rfl)
  rw [hown] at ha hw
  have hi : sub - 1 < s.lf.channels.length := by omega
  have hch : ((s.hostWrite via 0x2203 sub value (ownLfFaultClear sub)).channel (sub - 1)).state = .uncalibrated := by
    rw [State.channel_congr (hw.1.get .lf (by decide)),
      State.channel_of_mapChannels (s := s) (f := fun i c => if i = sub - 1 then { c with state := .uncalibrated } else c) hi rfl]
    simp
  exact .of_keepLock rfl ⟨ha, hch, Logged.congr (State.event_logged _ _ _ _) (hw.1.get .logs (by decide))⟩ fun _ h => h

end

/-- Settles O6: each command's effect, where its conditions hold, is the end of the operation or of the calibration by the laws above. -/
theorem lfOperationsEndAndFault : Obligations.LfOperationsEndAndFault :=
  ⟨fun _ _ _ _ => lfOperationEnd_completes,
   fun _ _ _ _ _ _ => lfDetuned_lowers,
   fun _ _ _ _ _ _ => lfDetuned_faults,
   fun _ _ _ _ => lfOvercurrent_endsRun,
   fun _ _ _ => lfOvercurrent_endsCalibration,
   fun _ _ _ _ => lfSupplyFault_endsRun,
   fun _ _ _ _ => lfSupplyFault_endsCalibration,
   fun _ _ _ _ => lfFaultClear_completes⟩

end Sys2Proof.Machine

/-! ## Calibrations commanded and started (R87, R92, R93) -/

namespace Sys2Proof.Machine

section
variable {s : State} {ch : Nat}

/-- A calibration commanded on the channels a mask names: those that can be calibrated wait, and the result is recorded (R87). -/
def State.calibrationCommanded (s : State) (named : List Nat) : State :=
  ({ s with lf := { s.lf with commanded := named.filter s.calibratable } } : State).putCode 0x2221 0
    (if named.all s.calibratable then Rc.pending else Rc.lfChannelFault)

theorem State.calibrationCommanded_commanded (s : State) (named : List Nat) :
    (s.calibrationCommanded named).lf.commanded = named.filter s.calibratable := rfl

theorem State.calibrationCommanded_result (s : State) (named : List Nat) :
    (s.calibrationCommanded named).bytes 0x2221 0 = codeBytes (if named.all s.calibratable then Rc.pending else Rc.lfChannelFault) :=
  State.bytes_put _ _ _ _

theorem ownLfCalibrate_idle {value : Bytes} (h : s.lf.commanded = []) :
    ownLfCalibrate value s = ((s.calibrationCommanded (maskBits (leNat value) 8)).firstAccess .lfa 0, Rc.ok) := by
  simp [ownLfCalibrate, h, State.calibrationCommanded]

theorem lfCalibrate_completes {via : Via} {value : Bytes} (h : Reached s via 0x2220 0 value) (hc : s.lf.commanded = []) :
    Completes (.lfCalibrate via value) s fun t =>
      Answered t via 0x2220 Rc.ok
      ∧ t.lf.commanded = (maskBits (leNat value) 8).filter s.calibratable
      ∧ (t.bytes 0x2221 0 = codeBytes (if (maskBits (leNat value) 8).all s.calibratable then Rc.pending else Rc.lfChannelFault)) := by
  have hown := ownLfCalibrate_idle (value := value) hc
  have hf := (s.calibrationCommanded (maskBits (leNat value) 8)).firstAccess_within .lfa 0
  obtain ⟨ha, hw⟩ := State.hostWrite_own h (ownLfCalibrate value) (by rw [hown]; exact hf.1.get .net (by decide))
  rw [hown] at ha hw
  have hlf := (hw.1.get .lf (by decide)).trans (hf.1.get .lf (by decide))
  have hres := (hw.2.bytes 0x2221 0 (by decide)).trans (hf.2.bytes 0x2221 0 (by decide))
  exact .of_keepLock rfl ⟨ha, (congrArg LfArray.commanded hlf).trans (State.calibrationCommanded_commanded _ _),
    hres.trans (State.calibrationCommanded_result _ _)⟩ fun _ h => h

/-- A calibration begun on a channel, with VLF stored and the channel charged (R86, R92, R93). -/
def State.calibrationBegun (s : State) (ch : Nat) : State :=
  let t := s.putNum 0x2240 0 s.lf.vlfMv
  ({ t with lf := { t.lf with calibrating := some (ch, t.seenNum 0x2200 1) } } : State).setChannel ch fun c =>
    { c with budget := c.budget + calCharge (calOnUs (t.seenNum 0x2200 1)) }

theorem State.calibrationBegun_calibrating (s : State) (ch : Nat) :
    (s.calibrationBegun ch).lf.calibrating = some (ch, s.seenNum 0x2200 1) := rfl

theorem State.calibrationBegun_dict (s : State) (ch : Nat) : (s.calibrationBegun ch).dict = (s.putNum 0x2240 0 s.lf.vlfMv).dict := rfl

theorem State.startCalibration_starts (hn : s.lf.nextCal = some ch) (hr : s.lf.run = none) (hc : s.lf.calibrating = none)
    (hon : s.isOn .lfa = true) (hw : s.classOneWaits = false) (hlo : 8000 ≤ s.lf.vlfMv) (hhi : s.lf.vlfMv ≤ 32000)
    (hb : (s.channel ch).budget + calCharge (calOnUs (s.seenNum 0x2200 1)) ≤ s.lfCapacity) (ht : s.thermalRefuses calEnergy = false) :
    s.startCalibration = (s.calibrationBegun ch).warnBudget ch := by
  have hvlf : ¬(s.lf.vlfMv < 8000 ∨ 32000 < s.lf.vlfMv) := by omega
  have hbud : ¬(s.putNum 0x2240 0 s.lf.vlfMv).lfCapacity <
      ((s.putNum 0x2240 0 s.lf.vlfMv).channel ch).budget + calCharge (calOnUs ((s.putNum 0x2240 0 s.lf.vlfMv).seenNum 0x2200 1)) :=
    Nat.not_lt.2 hb
  have hth : ¬(s.putNum 0x2240 0 s.lf.vlfMv).thermalRefuses calEnergy = true := Bool.eq_false_iff.1 ht
  unfold State.startCalibration State.calibrationBegun
  simp only [hn, hr, hc, hon, hw, Option.isSome_none, Bool.not_true, Bool.or_self, Bool.false_eq_true, if_false, if_neg hvlf,
    if_neg hbud, if_neg hth]

theorem lfCalibrationStart_completes (hn : s.lf.nextCal = some ch) (hr : s.lf.run = none) (hc : s.lf.calibrating = none)
    (hon : s.isOn .lfa = true) (hw : s.classOneWaits = false) (hlo : 8000 ≤ s.lf.vlfMv) (hhi : s.lf.vlfMv ≤ 32000)
    (hb : (s.channel ch).budget + calCharge (calOnUs (s.seenNum 0x2200 1)) ≤ s.lfCapacity) (ht : s.thermalRefuses calEnergy = false) :
    Completes .lfCalibrationStart s fun t =>
      t.lf.calibrating = some (ch, s.seenNum 0x2200 1)
      ∧ t.bytes 0x2240 0 = (s.putNum 0x2240 0 s.lf.vlfMv).bytes 0x2240 0 := by
  have hexec : exec .lfCalibrationStart s = keepLock s s.startCalibration := rfl
  rw [State.startCalibration_starts hn hr hc hon hw hlo hhi hb ht] at hexec
  have hwarn := (s.calibrationBegun ch).warnBudget_rewarned ch
  have hvlf : ((s.calibrationBegun ch).warnBudget ch).bytes 0x2240 0 = (s.putNum 0x2240 0 s.lf.vlfMv).bytes 0x2240 0 :=
    (hwarn.within.2.bytes _ _ (by decide)).trans (by simp only [State.bytes, State.calibrationBegun_dict])
  exact .of_keepLock hexec ⟨hwarn.calibrating.trans (s.calibrationBegun_calibrating ch), hvlf⟩ fun _ h => h

end

end Sys2Proof.Machine

/-! ## Calibrations ended (R81, R86, R87, R93) -/

namespace Sys2Proof.Machine

section
variable {s : State} {r : LfRun} {ch nominal hz : Nat}

/-- The charge of an ended calibration corrected (R93): the mark of the budget aside, the channel's charge alone changes. -/
theorem State.correctCal_rewarned (s : State) (ch nominal onUs : Nat) :
    Rewarned (s.setChannel ch fun c => { c with budget := c.budget + calCharge onUs - calCharge (calOnUs nominal) })
      (s.correctCal ch nominal onUs) := State.warnBudget_rewarned _ _

theorem State.correctCal_state (h : ch < s.lf.channels.length) (nominal onUs : Nat) :
    ((s.correctCal ch nominal onUs).channel ch).state = (s.channel ch).state := by
  obtain ⟨b, hb⟩ := (s.correctCal_rewarned ch nominal onUs).channel ch
  rw [hb, State.channel_setChannel h]

theorem State.correctCal_length (s : State) (ch nominal onUs : Nat) :
    (s.correctCal ch nominal onUs).lf.channels.length = s.lf.channels.length :=
  (s.correctCal_rewarned ch nominal onUs).length.trans (s.length_setChannel _ _)

theorem State.correctCal_within (s : State) (ch nominal onUs : Nat) :
    Within [.lf, .logs, .ledger] [] s (s.correctCal ch nominal onUs) :=
  (s.correctCal_rewarned ch nominal onUs).within.step ((s.setChannel_within _ _).mono (by decide) (by decide)) (by decide) (by decide)

theorem State.correctCal_calibrating (s : State) (ch nominal onUs : Nat) :
    (s.correctCal ch nominal onUs).lf.calibrating = s.lf.calibrating := (s.correctCal_rewarned ch nominal onUs).calibrating

/-! ### The outcomes -/

/-- A calibrated channel is READY with its full ceiling, unless the nominal carrier has been written meanwhile (R86, R90, R95). -/
theorem State.calibrated_channel (h : ch < s.lf.channels.length) (hn : nominal = s.num 0x2200 1) (hz : Nat) (temp : Int) :
    ((s.calibrated ch nominal hz temp).channel ch).state = (if (s.channel ch).state = .disabled then .disabled else .ready)
      ∧ ((s.calibrated ch nominal hz temp).channel ch).ceiling = 15 := by
  have hch := State.channel_setChannel (s := (s.putNum 0x2205 (ch + 1) hz).putInt 0x2222 0 temp) h fun c =>
    if nominal = s.num 0x2200 1 then { c.become .ready with ceiling := 15 } else c
  have he : (s.calibrated ch nominal hz temp).channel ch = { (s.channel ch).become .ready with ceiling := 15 } :=
    hch.trans (if_pos hn)
  rw [he]
  exact ⟨LfChannel.become_state _ _, rfl⟩

theorem State.calibrated_calibrating (s : State) (ch nominal hz : Nat) (temp : Int) :
    (s.calibrated ch nominal hz temp).lf.calibrating = s.lf.calibrating := by simp [State.calibrated]

theorem State.calibrated_hz (s : State) (ch nominal hz : Nat) (temp : Int) :
    (s.calibrated ch nominal hz temp).bytes 0x2205 (ch + 1) = leBytes (defaultAt (entryKey 0x2205 (ch + 1))).length hz :=
  ((State.putInt_within _ 0x2222 0 temp).2.bytes 0x2205 _ (by decide)).trans (State.bytes_putNum _ _ _ _)

theorem State.calibrated_tilth (s : State) (ch nominal hz : Nat) (temp : Int) : (s.calibrated ch nominal hz temp).tilth = s.tilth := by
  simp [State.calibrated]

theorem State.calOutcome_found (hw : calInWindow nominal hz = true) (temp : Int) :
    s.calOutcome ch nominal (.found hz) temp = s.calibrated ch nominal hz temp := by simp [State.calOutcome, hw]

theorem State.calOutcome_noZeroPhase (s : State) (ch nominal : Nat) (temp : Int) :
    s.calOutcome ch nominal .noZeroPhase temp = (s.putCode 0x2221 0 Rc.lfCalFail).faultChannel ch .faultCal := rfl

/-- A failed calibration's result stands at the end of the command or schedule (R86, R87). -/
theorem State.calFailed_result (s : State) (ch : Nat) (st : ChannelState) :
    ((s.putCode 0x2221 0 Rc.lfCalFail).faultChannel ch st).endCalibration.bytes 0x2221 0 = codeBytes Rc.lfCalFail := by
  have hb : ((s.putCode 0x2221 0 Rc.lfCalFail).faultChannel ch st).bytes 0x2221 0 = codeBytes Rc.lfCalFail :=
    ((State.faultChannel_within _ ch st).2.bytes _ _ (by decide)).trans (State.bytes_put _ _ _ _)
  exact (State.endCalibration_result (by rw [State.num, hb]; decide)).trans hb

/-! ### A calibration of its own -/

/-- The state in which the outcome of a commanded or scheduled calibration is met: none in progress, and its charge corrected. -/
def State.calibrationLeft (s : State) (ch nominal onUs : Nat) : State :=
  ({ s with lf := { s.lf.dropChannel ch with calibrating := none } } : State).correctCal ch nominal onUs

theorem State.calibrationLeft_calibrating (s : State) (ch nominal onUs : Nat) :
    (s.calibrationLeft ch nominal onUs).lf.calibrating = none := State.correctCal_calibrating _ _ _ _

theorem State.calibrationLeft_length (s : State) (ch nominal onUs : Nat) :
    (s.calibrationLeft ch nominal onUs).lf.channels.length = s.lf.channels.length := State.correctCal_length _ _ _ _

theorem State.calibrationLeft_state (h : ch < s.lf.channels.length) (nominal onUs : Nat) :
    ((s.calibrationLeft ch nominal onUs).channel ch).state = (s.channel ch).state :=
  State.correctCal_state (s := { s with lf := { s.lf.dropChannel ch with calibrating := none } }) h nominal onUs

theorem State.calibrationLeft_num (s : State) (ch nominal onUs idx sub : Nat) :
    (s.calibrationLeft ch nominal onUs).num idx sub = s.num idx sub :=
  congrArg leNat ((State.correctCal_within { s with lf := { s.lf.dropChannel ch with calibrating := none } } ch nominal onUs).2.bytes
    idx sub (by simp))

theorem exec_lfCalibrationEnd_own {o : LfCal} {temp : Int} {onUs : Nat} (hc : s.lf.calibrating = some (ch, nominal)) :
    exec (.lfCalibrationEnd ch o ⟨temp, onUs⟩) s =
      keepLock s ((s.calibrationLeft ch nominal onUs).calOutcome ch nominal o temp).endCalibration := by
  show execLfCalibrationEnd ch o ⟨temp, onUs⟩ s = _
  simp [execLfCalibrationEnd, State.calibratingNow_of_calibrating hc, State.calEnds, hc, State.calibrationLeft]

theorem lfCalibrationEnd_ready {onUs : Nat} {temp : Int} (hc : s.lf.calibrating = some (ch, nominal))
    (hw : calInWindow nominal hz = true) (hn : nominal = s.num 0x2200 1) (hch : ch < s.lf.channels.length) :
    Completes (.lfCalibrationEnd ch (.found hz) ⟨temp, onUs⟩) s fun t =>
      ((t.channel ch).state = (if (s.channel ch).state = .disabled then .disabled else .ready))
      ∧ (t.channel ch).ceiling = 15
      ∧ t.lf.calibrating = none
      ∧ t.bytes 0x2205 (ch + 1) = (s.putNum 0x2205 (ch + 1) hz).bytes 0x2205 (ch + 1) := by
  have hexec := exec_lfCalibrationEnd_own (o := .found hz) (temp := temp) (onUs := onUs) hc
  rw [State.calOutcome_found hw] at hexec
  have hlen : ch < (s.calibrationLeft ch nominal onUs).lf.channels.length := by rwa [State.calibrationLeft_length]
  obtain ⟨hst, hceil⟩ := State.calibrated_channel hlen (hn.trans (s.calibrationLeft_num ch nominal onUs 0x2200 1).symm) hz temp
  rw [State.calibrationLeft_state hch, ← State.endCalibration_channel] at hst
  rw [← State.endCalibration_channel] at hceil
  have hnone : ((s.calibrationLeft ch nominal onUs).calibrated ch nominal hz temp).endCalibration.lf.calibrating = none := by
    rw [State.endCalibration_calibrating, State.calibrated_calibrating, State.calibrationLeft_calibrating]
  have hhz : ((s.calibrationLeft ch nominal onUs).calibrated ch nominal hz temp).endCalibration.bytes 0x2205 (ch + 1) =
      (s.putNum 0x2205 (ch + 1) hz).bytes 0x2205 (ch + 1) := by
    rw [(State.endCalibration_within _).2.bytes _ _ (by decide), State.calibrated_hz, State.bytes_putNum]
  exact .of_keepLock hexec ⟨hst, hceil, hnone, hhz⟩ fun _ h => h

/-! ### A calibration inside an operation -/

/-- The state in which the outcome of a calibration inside an operation is met: its charge corrected. -/
def State.runCalibrationLeft (s : State) (r : LfRun) (ch onUs : Nat) : State :=
  ({ s with lf := s.lf.dropChannel ch } : State).correctCal ch r.nominal onUs

theorem State.runCalibrationLeft_length (s : State) (r : LfRun) (ch onUs : Nat) :
    (s.runCalibrationLeft r ch onUs).lf.channels.length = s.lf.channels.length := State.correctCal_length _ _ _ _

theorem State.runCalibrationLeft_state (h : ch < s.lf.channels.length) (r : LfRun) (onUs : Nat) :
    ((s.runCalibrationLeft r ch onUs).channel ch).state = (s.channel ch).state :=
  State.correctCal_state (s := { s with lf := s.lf.dropChannel ch }) h r.nominal onUs

theorem State.runCalibrationLeft_tilth (s : State) (r : LfRun) (ch onUs : Nat) : (s.runCalibrationLeft r ch onUs).tilth = s.tilth :=
  (State.correctCal_within { s with lf := s.lf.dropChannel ch } ch r.nominal onUs).1.get .tilth (by decide)

theorem State.endCalibration_tilth (s : State) : s.endCalibration.tilth = s.tilth := s.endCalibration_within.1.get .tilth (by decide)

theorem exec_lfCalibrationEnd_inRun {o : LfCal} {temp : Int} {onUs : Nat} (hc : s.lf.calibrating = none) (hr : s.lf.run = some r)
    (ho : r.onset = none) (hcals : r.cals = [ch]) :
    exec (.lfCalibrationEnd ch o ⟨temp, onUs⟩) s =
      keepLock s ((((s.runCalibrationLeft r ch onUs).calOutcome ch r.nominal o temp).endCalibration).goOnLf r ch
        (calSucceeds r.nominal o)) := by
  show execLfCalibrationEnd ch o ⟨temp, onUs⟩ s = _
  simp [execLfCalibrationEnd, State.calibratingNow, State.calEnds, hc, hr, ho, hcals, State.runCalibrationLeft]

/-- The first carrier begins in this tick, where the last calibration of a wake or a command has succeeded (R78, R87). -/
theorem State.goOnLf_transmits (hcals : r.cals = [ch]) (hop : r.op ≠ .vector) (ht : transmittable r.op r.units = true) :
    (s.goOnLf r ch true).lf.run = some { r with cals := [], onset := some s.tick } := by
  have hx : ∀ q : LfRun, q.op ≠ .vector → (s.lfTransmit q).lf.run = some { q with onset := some s.tick } := fun q hq => by
    unfold State.lfTransmit
    split
    · exact absurd ‹_› hq
    · rfl
  simp [State.goOnLf, hcals, ht, hx, hop]

/-- Where too little is left to transmit the operation ends with LF_NO_CHANNEL, the channel's charge given back (R81, R93). -/
theorem State.goOnLf_ends (hcals : r.cals = [ch]) (ht : transmittable r.op (r.without ch).units = false) :
    s.goOnLf r ch false = (s.setChannel ch fun c => c.refund (plannedCharge r.drives ch)).endLfRun { r.without ch with cals := [] }
      Rc.lfNoChannel [] := by
  have ht' : transmittable (r.without ch).op (r.without ch).units = false := ht
  simp [State.goOnLf, hcals, ht']

/-- The end of a wake or a command with a failure ends its session (R37). -/
theorem State.endLfRun_ended {c : Code} (hop : r.op ≠ .vector) (hf : (s.slot r.slot).inFlight = true) (hc : c ≠ Rc.ok)
    (driven : List LfMeasure) : Ended (s.endLfRun r c driven) r.slot c := by
  have hs := State.slot_congr (s.runSettled_tilth r driven) r.slot
  have hfin := State.finish_ended (s.runSettled_run r driven) (by rw [hs]; exact hf) c
  rw [State.endLfRun_eq]
  unfold State.lfResult
  simp only [hs, hf, Bool.not_true, Bool.false_eq_true, if_false, if_neg hc]
  split
  · exact absurd ‹_› hop
  · exact hfin
  · exact hfin

theorem lfCalibrationEnd_transmits {onUs : Nat} {temp : Int} (hc : s.lf.calibrating = none) (hr : s.lf.run = some r)
    (ho : r.onset = none) (hcals : r.cals = [ch]) (hop : r.op ≠ .vector) (hw : calInWindow r.nominal hz = true)
    (ht : transmittable r.op r.units = true) :
    Completes (.lfCalibrationEnd ch (.found hz) ⟨temp, onUs⟩) s fun t =>
      t.lf.run = some { r with cals := [], onset := some s.tick } := by
  have hexec := exec_lfCalibrationEnd_inRun (o := .found hz) (temp := temp) (onUs := onUs) hc hr ho hcals
  rw [State.calOutcome_found hw, show calSucceeds r.nominal (.found hz) = true from hw] at hexec
  have htick := State.tick_congr ((State.endCalibration_tilth _).trans ((State.calibrated_tilth (s.runCalibrationLeft r ch onUs) ch
    r.nominal hz temp).trans (s.runCalibrationLeft_tilth r ch onUs)))
  have hrun := State.goOnLf_transmits (s := ((s.runCalibrationLeft r ch onUs).calibrated ch r.nominal hz temp).endCalibration)
    hcals hop ht
  rw [htick] at hrun
  exact .of_keepLock hexec hrun fun _ h => h

/-- The state in which an operation ends for the failure of its last calibration: the channel faulted, its charge given back. -/
def State.lastFailure (s : State) (ch charge : Nat) : State :=
  ((s.putCode 0x2221 0 Rc.lfCalFail).faultChannel ch .faultCal).endCalibration.setChannel ch fun c => c.refund charge

theorem State.lastFailure_length (s : State) (ch charge : Nat) : (s.lastFailure ch charge).lf.channels.length = s.lf.channels.length := by
  unfold State.lastFailure
  rw [State.length_setChannel, State.endCalibration_length, State.faultChannel_lf, State.length_setChannel, State.putCode_lf]

theorem State.lastFailure_state (h : ch < s.lf.channels.length) (charge : Nat) :
    ((s.lastFailure ch charge).channel ch).state = if (s.channel ch).state = .disabled then .disabled else .faultCal := by
  have hf : ch < ((s.putCode 0x2221 0 Rc.lfCalFail).faultChannel ch .faultCal).endCalibration.lf.channels.length := by
    rwa [State.endCalibration_length, State.faultChannel_lf, State.length_setChannel]
  unfold State.lastFailure
  rw [State.channel_setChannel hf, State.endCalibration_channel, State.faultChannel_channel (by exact h)]
  exact LfChannel.become_state _ _

theorem State.lastFailure_result (s : State) (ch charge : Nat) : (s.lastFailure ch charge).bytes 0x2221 0 = codeBytes Rc.lfCalFail :=
  s.calFailed_result ch .faultCal

theorem State.lastFailure_tilth (s : State) (ch charge : Nat) : (s.lastFailure ch charge).tilth = s.tilth :=
  (State.endCalibration_tilth _).trans ((State.faultChannel_within _ ch .faultCal).1.get .tilth (by decide))

/-- The last calibration of an operation fails, and too little is left to transmit: the operation ends with LF_NO_CHANNEL (R81, R87). -/
theorem exec_lfCalibrationEnd_lastFailure {temp : Int} {onUs : Nat} (hc : s.lf.calibrating = none) (hr : s.lf.run = some r)
    (ho : r.onset = none) (hcals : r.cals = [ch]) (ht : transmittable r.op (r.without ch).units = false) :
    exec (.lfCalibrationEnd ch .noZeroPhase ⟨temp, onUs⟩) s =
      keepLock s (((s.runCalibrationLeft r ch onUs).lastFailure ch (plannedCharge r.drives ch)).endLfRun { r.without ch with cals := [] }
        Rc.lfNoChannel []) := by
  rw [exec_lfCalibrationEnd_inRun hc hr ho hcals, State.calOutcome_noZeroPhase,
    show calSucceeds r.nominal .noZeroPhase = false from rfl, State.goOnLf_ends hcals ht]
  rfl

theorem lfCalibrationEnd_endsRun {onUs : Nat} {temp : Int} (hc : s.lf.calibrating = none) (hr : s.lf.run = some r)
    (ho : r.onset = none) (hcals : r.cals = [ch]) (hop : r.op ≠ .vector) (ht : transmittable r.op (r.without ch).units = false)
    (hf : (s.slot r.slot).inFlight = true) (hch : ch < s.lf.channels.length) :
    Completes (.lfCalibrationEnd ch .noZeroPhase ⟨temp, onUs⟩) s fun t =>
      t.lf.run = none
      ∧ ((t.channel ch).state = (if (s.channel ch).state = .disabled then .disabled else .faultCal))
      ∧ t.bytes 0x2221 0 = codeBytes Rc.lfCalFail
      ∧ Ended t r.slot Rc.lfNoChannel := by
  have hexec := exec_lfCalibrationEnd_lastFailure (temp := temp) (onUs := onUs) hc hr ho hcals ht
  have hst := State.runCalibrationLeft_state hch r onUs
  have hslot := State.slot_congr (s.runCalibrationLeft_tilth r ch onUs) r.slot
  have hlen := s.runCalibrationLeft_length r ch onUs
  generalize s.runCalibrationLeft r ch onUs = l at hexec hst hslot hlen
  have hlast := l.lastFailure_state (hlen ▸ hch) (plannedCharge r.drives ch)
  have hlength := l.lastFailure_length ch (plannedCharge r.drives ch)
  have hresult := l.lastFailure_result ch (plannedCharge r.drives ch)
  have hslots := State.slot_congr (l.lastFailure_tilth ch (plannedCharge r.drives ch)) r.slot
  generalize l.lastFailure ch (plannedCharge r.drives ch) = f at hexec hlast hlength hresult hslots
  have hchannel := State.endLfRun_state (hlength ▸ hlen ▸ hch) { r.without ch with cals := [] } Rc.lfNoChannel []
  rw [hlast, hst] at hchannel
  exact .of_keepLock hexec ⟨State.endLfRun_run _ _ _ _, hchannel,
    ((State.endLfRun_within _ _ _ _).2.bytes _ _ (by decide)).trans hresult,
    State.endLfRun_ended (r := { r.without ch with cals := [] }) hop ((hslots.trans hslot) ▸ hf) (by decide) []⟩ fun _ h => h

end

end Sys2Proof.Machine

/-! ## The settings of the array (R94, R95) -/

namespace Sys2Proof.Machine

section
variable {s : State}

/-- A host's write whose own rule changes channels and stores the value leaves these channels, the time of the write and the value (R95). -/
theorem State.hostWrite_channels {via : Via} {idx sub : Nat} {value : Bytes} (h : Reached s via idx sub value) {own : Own}
    {f : Nat → LfChannel → LfChannel} (hown : own s = ((s.hostChannels f).put idx sub value, Rc.ok))
    (ho : idx ∉ [0x2020, 0x2102, 0x2103, 0x2B30]) :
    Answered (s.hostWrite via idx sub value own) via idx Rc.ok
      ∧ (s.hostWrite via idx sub value own).lf = { s.lf.mapChannels f with hostTick := some s.now }
      ∧ (s.hostWrite via idx sub value own).bytes idx sub = value := by
  obtain ⟨ha, hw⟩ := State.hostWrite_own h own (by rw [hown]; rfl)
  rw [hown] at ha hw
  exact ⟨ha, hw.1.get .lf (by decide), (hw.2.bytes _ _ ho).trans (State.bytes_put _ _ _ _)⟩

theorem lfChannelEnableWrite_completes {via : Via} {value : Bytes} (h : Reached s via 0x2201 0 value) :
    Completes (.lfChannelEnableWrite via value) s fun t =>
      Answered t via 0x2201 Rc.ok
      ∧ (t.lf = { s.lf.mapChannels fun i c => c.enable (bit (leNat value) i) with hostTick := some s.now })
      ∧ t.bytes 0x2201 0 = value :=
  .of_keepLock rfl (State.hostWrite_channels h rfl (by decide)) fun _ h => h

theorem lfNominalFrequencyWrite_completes {via : Via} {value : Bytes} (h : Reached s via 0x2200 1 value) :
    Completes (.lfNominalFrequencyWrite via value) s fun t =>
      Answered t via 0x2200 Rc.ok
      ∧ (t.lf = { s.lf.mapChannels fun _ c => { c with state := if c.state = .disabled then .disabled else .uncalibrated, ceiling := 15 } with hostTick := some s.now })
      ∧ t.bytes 0x2200 1 = value :=
  .of_keepLock rfl (State.hostWrite_channels h rfl (by decide)) fun _ h => h

end

/-- Settles O7: calibrations by what their command, start and end leave, the settings by what a host's write of channels leaves. -/
theorem lfCalibrationsRunAndSettingsApply : Obligations.LfCalibrationsRunAndSettingsApply :=
  ⟨fun _ _ _ => lfCalibrate_completes,
   fun _ _ => lfCalibrationStart_completes,
   fun _ _ _ _ _ _ => lfCalibrationEnd_ready,
   fun _ _ _ _ _ _ => lfCalibrationEnd_transmits,
   fun _ _ _ _ _ => lfCalibrationEnd_endsRun,
   fun _ _ _ => lfChannelEnableWrite_completes,
   fun _ _ _ => lfNominalFrequencyWrite_completes⟩

end Sys2Proof.Machine

/-! ## What the operations of badge sessions leave of the slots and of the air (R42, R47, R62) -/

namespace Sys2Proof.Machine

section
variable {s t u : State}

/-- One more operation at the end of a chain: its parts and its objects join the chain's. -/
theorem Within.next {ps qs : List Part} {os xs : List Nat} (h : Within ps os s t) (k : Within qs xs t u) :
    Within (ps ++ qs) (os ++ xs) s u :=
  (h.mono (fun _ => List.mem_append_left _) fun _ => List.mem_append_left _).trans
    (k.mono (fun _ => List.mem_append_right _) fun _ => List.mem_append_right _)

/-- A frame widened to larger lists. -/
theorem Within.widen {ps qs : List Part} {os xs : List Nat} (h : Within ps os s t)
    (hs : (∀ p ∈ ps, p ∈ qs) ∧ ∀ o ∈ os, o ∈ xs) : Within qs xs s t := h.mono hs.1 hs.2

/-- Where RF is free it stays free. -/
def KeepsAirFree (s t : State) : Prop := s.radio.air = none → t.radio.air = none

theorem KeepsAirFree.refl (s : State) : KeepsAirFree s s := id

theorem KeepsAirFree.trans (h : KeepsAirFree s t) (k : KeepsAirFree t u) : KeepsAirFree s u := k ∘ h

theorem KeepsAirFree.foldl {α : Type} {f : State → α → State} (h : ∀ u x, KeepsAirFree u (f u x)) (l : List α) (s : State) :
    KeepsAirFree s (l.foldl f s) := by
  induction l generalizing s with
  | nil => exact .refl s
  | cons x l ih => exact (h s x).trans (ih _)

theorem KeepsAirFree.of_radio (h : t.radio = s.radio) : KeepsAirFree s t := fun hs => by rw [h, hs]

theorem KeepsAirFree.of_within {ps : List Part} {os : List Nat} (h : Within ps os s t) (hr : Part.radio ∉ ps) :
    KeepsAirFree s t := .of_radio (h.1.get .radio hr)

end

section
variable (s : State)

theorem State.endSession_keepsAirFree (n : Nat) (c : Code) : KeepsAirFree s (s.endSession n c) := fun h => by
  simp [State.endSession, State.releaseHolds, h]

theorem State.dropTransfer_keepsAirFree (v : Srv) (c : Code) : KeepsAirFree s (s.dropTransfer v c) := by
  unfold State.dropTransfer
  split
  · exact (KeepsAirFree.of_within ((s.windowEnds_within _ _).next (State.freeServer_within _ _ _)) (by decide)).trans
      (State.endSession_keepsAirFree _ _ _)
  · exact .of_within (s.freeServer_within _ _) (by decide)

theorem State.dropCarrier_keepsAirFree (v : Srv) (c : Code) : KeepsAirFree s (s.dropCarrier v c) := by
  unfold State.dropCarrier
  split
  · exact s.dropTransfer_keepsAirFree _ _
  · exact .refl s

theorem State.failConsumer_keepsAirFree (k : Consumer) (c : Code) : KeepsAirFree s (s.failConsumer k c) := by
  cases k with
  | firmware =>
    simp only [State.failConsumer, State.failInstall]
    split
    · exact .refl s
    · exact (KeepsAirFree.of_radio (by simp)).trans (State.dropCarrier_keepsAirFree _ _ _)
  | journal =>
    simp only [State.failConsumer, State.failImport]
    split
    · exact .refl s
    · refine (KeepsAirFree.of_radio ?_).trans (State.dropCarrier_keepsAirFree _ _ _)
      split <;> simp [State.appendRecord]

theorem State.retract_keepsAirFree (o : GcmOpen) : KeepsAirFree s (s.retract o) := by
  have h : KeepsAirFree s (((s.bump 0x2940 3).event Ev.cipherRetract o.slot
      (leBytes 1 (consumerCode o.provisional) ++ leBytes 4 (s.extentOf o))).used 1) := .of_radio (by simp)
  unfold State.retract
  dsimp only
  split
  · exact h
  · exact h.trans (State.failConsumer_keepsAirFree _ _ _)

theorem State.retractOpens_keepsAirFree (ns : List Nat) : KeepsAirFree s (s.retractOpens ns) :=
  .foldl (fun u x => u.retract_keepsAirFree x) _ s

theorem State.dropJob_keepsAirFree (c : Code) (k : Consumer) : KeepsAirFree s (s.dropJob c k) := by
  unfold State.dropJob
  exact (((KeepsAirFree.of_radio (by simp)).trans (State.retractOpens_keepsAirFree _ _)).trans
    (State.failConsumer_keepsAirFree _ _ _)).trans (.foldl (fun u x => u.endSession_keepsAirFree x c) _ _)

theorem State.reportEnd_keepsAirFree (n : Nat) (c : Code) : KeepsAirFree s (s.reportEnd n c) := by
  unfold State.reportEnd
  split
  · exact .of_radio (by unfold State.reportApproach; dsimp only; split <;> simp)
  · exact .of_radio (by unfold State.dropWalk; split <;> simp)
  · exact (KeepsAirFree.of_within ((s.windowEnds_within _ _).next (State.freeServer_within _ _ _)) (by decide)).trans
      (.foldl (fun u x => u.dropJob_keepsAirFree c x) _ _)
  · exact .of_within (s.putCode_within _ _ _) (by decide)
  · split
    · exact .refl s
    · exact s.failConsumer_keepsAirFree _ _
  · refine .of_radio ?_
    unfold State.reportPassport
    split
    · rfl
    · split <;> simp [State.requestSession]
  · exact .of_radio (by simp [State.reportExchange])
  · exact .refl s

/-- The end of a session takes nothing onto the air (R62). -/
theorem State.finish_keepsAirFree (n : Nat) (c : Code) : KeepsAirFree s (s.finish n c) := by
  unfold State.finish
  split
  · exact .refl s
  · exact (((KeepsAirFree.of_within (s.dropRun_within _) (by decide)).trans (State.retractOpens_keepsAirFree _ _)).trans
      (State.reportEnd_keepsAirFree _ _ _)).trans (State.endSession_keepsAirFree _ _ _)

end

/-- The end of a session in flight closes its slot with the result (R42). -/
theorem State.finish_closes {s : State} {n : Nat} (h : (s.slot n).inFlight = true) (c : Code) : Ended (s.finish n c) n c := by
  obtain ⟨h1, hn⟩ := State.slot_inRange h
  have hk := ((s.dropRun (s.family n)).retractOpens_keepsIdle (s.family n)).trans (State.reportEnd_keepsIdle _ n c)
  have hd : (s.dropRun (s.family n)).tilth = s.tilth := (s.dropRun_within _).1.get .tilth (by decide)
  simp only [State.finish, h, Bool.not_true]
  exact State.endSession_ended h1 (by rwa [hk.slots, hd]) c

/-! ## What the small operations of sessions stay within -/

section
variable (s : State)

theorem State.withTilth_within (x : Tilth) : Within [.tilth] [] s { s with tilth := x } :=
  .of_only (fun p => by cases p with | tilth => exact .inl (by decide) | _ => exact .inr rfl) rfl
theorem State.withBadges_within (x : BadgeState) : Within [.badges] [] s { s with badges := x } :=
  .of_only (fun p => by cases p with | badges => exact .inl (by decide) | _ => exact .inr rfl) rfl
theorem State.withRadio_within (x : Radio) : Within [.radio] [] s { s with radio := x } :=
  .of_only (fun p => by cases p with | radio => exact .inl (by decide) | _ => exact .inr rfl) rfl
theorem State.withVehicle_within (x : Vehicle) : Within [.vehicle] [] s { s with vehicle := x } :=
  .of_only (fun p => by cases p with | vehicle => exact .inl (by decide) | _ => exact .inr rfl) rfl
theorem State.withCipher_within (x : Cipher) : Within [.cipher] [] s { s with cipher := x } :=
  .of_only (fun p => by cases p with | cipher => exact .inl (by decide) | _ => exact .inr rfl) rfl
theorem State.withPower_within (x : Power) : Within [.power] [] s { s with power := x } :=
  .of_only (fun p => by cases p with | power => exact .inl (by decide) | _ => exact .inr rfl) rfl

end

section
variable (s : State) (n : Nat)

theorem State.setApproach_within (f : Approach → Approach) : Within [.tilth] [] s (s.setApproach n f) := s.setSlot_within _ _
theorem State.setBadge_within (f : Badge → Badge) : Within [.tilth] [] s (s.setBadge n f) := s.setSlot_within _ _
theorem State.await_within : Within [.tilth] [] s (s.await n) := s.setSlot_within _ _
theorem State.makeReady_within (e : Engine) (named : Option Nat) : Within [.tilth] [] s (s.makeReady n e named) := s.setSlot_within _ _

theorem State.allocRegister_within (o : CipherOwner) (k : KeyUse) (v : Bytes) :
    Within [.cipher, .dict] [0x2903] s (s.allocRegister o k v) :=
  ((s.withCipher_within _).next (State.putNum_within _ _ _ _)).widen (by decide)

theorem State.deriveKey_within (o : CipherOwner) (l : Label) (v : Bytes) :
    Within [.cipher, .dict] [0x2903, 0x2940] s (s.deriveKey o l v) :=
  ((s.allocRegister_within _ _ _).next (State.bump_within _ _ _)).widen (by decide)

theorem State.waitDraw_within (inst : Nat) : Within [.tilth, .rng, .power, .logs, .ledger] [] s (s.waitDraw n inst) :=
  (((s.firstAccess_within _ _).next (State.setInstance_within _ _ _)).next (State.setSlot_within _ _ _)).widen (by decide)

/-- The nonce of a round is drawn and its keys are derived (R98, R102). -/
def State.roundKeys : State :=
  let u := (s.used 16).countCall 2
  (if ((s.slot n).approach?.any fun a => a.rounds == 0) then u.deriveKey (.slot n) .fleet s.fleetKey else u).deriveKey (.slot n) .round
    (s.roundKey (s.fresh 16))

theorem State.roundKeys_within : Within [.cipher, .dict] [0x2903, 0x2940] ((s.used 16).countCall 2) (s.roundKeys n) :=
  (State.deriveKey_within _ _ _ _).step (.ite (State.deriveKey_within _ _ _ _) (.refl _ _ _)) (by decide) (by decide)

/-- A round begins: keys, one more draw, the next wake sequence, the approach's record with the nonce, ST3 called, and the wake made
ready (R102, R109). -/
theorem State.beginRound_shape : ∃ (ws : BadgeState) (f : Approach → Approach),
    s.beginRound n = (({ (s.roundKeys n).used 1 with badges := ws }.setApproach n f).countCall 8).makeReady n .lf none
      ∧ ∀ a, (f a).rn = s.fresh 16 := ⟨_, _, rfl, fun _ => rfl⟩

theorem State.beginRound_within : Within [.tilth, .badges, .cipher, .rng, .dict, .free] [0x2903, 0x2940] s (s.beginRound n) := by
  obtain ⟨ws, f, h, -⟩ := s.beginRound_shape n
  rw [h]
  exact ((((((((s.used_within _).next (State.countCall_within _ _)).next (s.roundKeys_within n)).next
    (State.used_within _ _)).next (State.withBadges_within _ _)).next (State.setApproach_within _ _ _)).next
    (State.countCall_within _ _)).next (State.makeReady_within _ _ _ _)).widen (by decide)

theorem State.queueDraw_keepsAirFree (inst : Nat) : KeepsAirFree s (s.queueDraw n inst) := by
  unfold State.queueDraw
  split
  · exact .of_within (s.waitDraw_within n inst) (by decide)
  · exact s.finish_keepsAirFree _ _

/-- The start of a round takes nothing onto the air (R102). -/
theorem State.startRound_keepsAirFree (turn : Bool) : KeepsAirFree s (s.startRound n turn) := by
  unfold State.startRound
  split
  · exact s.finish_keepsAirFree _ _
  · exact s.queueDraw_keepsAirFree _ _
  · split
    · exact s.finish_keepsAirFree _ _
    · exact s.queueDraw_keepsAirFree _ _
    · split
      · exact s.finish_keepsAirFree _ _
      · exact .of_within (s.beginRound_within n) (by decide)

theorem State.settleApproach_keepsAirFree : KeepsAirFree s (s.settleApproach n) := by
  unfold State.settleApproach State.afterRound
  split
  · split
    · split
      · exact s.finish_keepsAirFree _ _
      · split
        · split
          · exact s.startRound_keepsAirFree _ _
          · split <;> exact s.finish_keepsAirFree _ _
        · split
          · exact s.finish_keepsAirFree _ _
          · exact .refl s
    · exact .refl s
  · exact .refl s

end

/-! ## The slot of an approach -/

section
variable {s : State} {n : Nat}

theorem State.inFlight_of_acts (h : (s.slot n).acts = true) : (s.slot n).inFlight = true := by
  simp only [Slot.acts, Bool.and_eq_true] at h; exact h.1

theorem State.approach?_setApproach {a : Approach} (h1 : 1 ≤ n) (hn : n ≤ s.tilth.slots.length) (ha : (s.slot n).approach? = some a)
    (f : Approach → Approach) : ((s.setApproach n f).slot n).approach? = some (f a) := by
  unfold State.setApproach
  rw [State.slot_setSlot h1 hn, Slot.approach?_eq_some.1 ha]
  rfl

theorem State.length_setApproach (s : State) (n : Nat) (f : Approach → Approach) :
    (s.setApproach n f).tilth.slots.length = s.tilth.slots.length := s.length_setSlot _ _

@[simp] theorem State.setApproach_waiting (s : State) (n : Nat) (f : Approach → Approach) :
    (s.setApproach n f).tilth.waiting = s.tilth.waiting := rfl

/-- An approach with a badge session still to be admitted waits for it (R109). -/
theorem State.settleApproach_waits (h : (s.tilth.waiting.any fun r => r.parent == some n) = true) : s.settleApproach n = s := by
  have hc : s.childless n = false := by simp [State.childless, h]
  unfold State.settleApproach
  split
  · simp [hc]
  · rfl

end

/-! ## Touches and host requests (R100, R101) -/

/-- The entries that the commands of badge sessions, the radio, ranging and the random source reach for a host are neither sealed nor in need
of a session (R353, R450). -/
theorem plainEntries : ∀ e ∈ [(0x2310, 0), (0x2420, 0), (0x2450, 1), (0x2501, 0), (0x2A45, 0)],
    isSealed e.1 e.2 = false ∧ needsSession (entryRow? e.1 e.2) = false := by decide +kernel

/-- A session request that finds room joins those that wait (R43). -/
theorem State.requestSession_waiting {s : State} (h : s.tilth.waiting.length < 16) (k : SessionKind) (parent : Option Nat) (work : Work) :
    (s.requestSession k parent work).1.tilth.waiting =
      s.tilth.waiting ++ [{ kind := k, arrival := s.now, parent := parent, work := work }] := by
  simp [State.requestSession, h]

section
variable {s : State} {e : Nat}

/-- A touch that acts, with no approach about and the fleet data set, asks for an approach (R101). -/
theorem State.touch_asks (ha : s.approaching = false) (hw : s.approachWaits = false) (hm : s.touchActs = true) (hf : s.fleetReady = true)
    (hr : s.rootBad 2 = false) (hq : s.tilth.waiting.length < 16) (e : Nat) :
    s.touch e = ((s.requestSession .approach none (.approach (s.newApproach e))).1, Rc.ok) := by
  simp [State.touch, ha, hw, hm, hf, hr, State.requestSession, hq]

/-- A touch while an approach is about is logged and starts nothing (R101). -/
theorem State.touch_ignored (h : s.approaching = true ∨ s.approachWaits = true) (e : Nat) : s.touch e = (s.touchIgnored e, Rc.ok) := by
  simp [State.touch, h]

theorem exec_touchEvent (hr : s.running = true) (ht : s.touchDeclared e = true) :
    exec (.touchEvent e) s = keepLock s ((s.spendTouch e).touch e).1 := by
  show execTouchEvent e s = _
  simp [execTouchEvent, hr, ht]

theorem touchEvent_asks (hr : s.running = true) (ht : s.touchDeclared e = true) (ha : s.approaching = false)
    (hw : s.approachWaits = false) (hm : s.touchActs = true) (hf : s.fleetReady = true) (hb : s.rootBad 2 = false)
    (hq : s.tilth.waiting.length < 16) :
    Completes (.touchEvent e) s fun t =>
      t.tilth.waiting = s.tilth.waiting ++
        [({ kind := .approach, arrival := s.now, parent := none, work := .approach (s.newApproach e) } : Request)] := by
  refine .of_keepLock (exec_touchEvent hr ht) ?_ fun _ h => h
  rw [State.touch_asks (s := s.spendTouch e) ha hw hm hf hb hq]
  exact State.requestSession_waiting (s := s.spendTouch e) hq _ _ _

theorem touchEvent_ignored (hr : s.running = true) (ht : s.touchDeclared e = true)
    (ha : s.approaching = true ∨ s.approachWaits = true) :
    Completes (.touchEvent e) s fun t => t.tilth = s.tilth ∧ Logged s t Ev.touchIgnored e [] := by
  refine .of_keepLock (exec_touchEvent hr ht) ?_ fun _ h => h
  rw [State.touch_ignored (s := s.spendTouch e) ha]
  exact ⟨rfl, State.event_logged (s.spendTouch e) _ _ _⟩

theorem hostApproachRequest_asks {via : Via} {value : Bytes} (h : Reached s via 0x2310 0 value) (ha : s.approaching = false)
    (hw : s.approachWaits = false) (hm : s.touchActs = true) (hf : s.fleetReady = true) (hb : s.rootBad 2 = false)
    (hq : s.tilth.waiting.length < 16) :
    Completes (.hostApproachRequest via value) s fun t =>
      Answered t via 0x2310 Rc.ok
      ∧ t.tilth.waiting = s.tilth.waiting ++
        [({ kind := .approach, arrival := s.now, parent := none, work := .approach (s.newApproach (s.seenNum 0x2310 1)) } : Request)] := by
  have hown : ownHostApproach s = ((s.requestSession .approach none (.approach (s.newApproach (s.seenNum 0x2310 1)))).1, Rc.ok) :=
    State.touch_asks ha hw hm hf hb hq _
  have hplain := plainEntries (0x2310, 0) (by decide)
  refine .of_keepLock rfl ⟨?_, ?_⟩ fun _ h => h
  · have := (State.hostWrite_own h ownHostApproach (by rw [hown]; rfl)).1
    rwa [hown] at this
  · rw [State.hostWrite_reached h, hown, hplain.1, hplain.2, ← State.requestSession_waiting hq]
    have hend := State.endTransfer_plain (s := (s.requestSession .approach none (.approach (s.newApproach (s.seenNum 0x2310 1)))).1)
      (via := via) h.2.2.1 Rc.ok (abortCodeOf Rc.ok 0x2310 true)
    exact congrArg Tilth.waiting (hend.1.get .tilth (by decide))

end

/-! ## Rounds (R107, R108) -/

/-- An approach after one answer of a round: the handle held, the answer counted, the round done with its collisions (R108). -/
def Approach.closedWith (a : Approach) (h collided : Nat) : Approach :=
  { a with roundDone := true, collided := collided, answers := a.answers + 1, handles := a.handles ++ [h] }

section
variable {s : State} {n : Nat} {a : Approach} {x : Answer}

/-- The three changes of an approach's record at the close of a round with one badge. -/
theorem State.approach?_closed (h1 : 1 ≤ n) (hn : n ≤ s.tilth.slots.length) (ha : (s.slot n).approach? = some a) (h collided : Nat) :
    ((((s.setApproach n fun a => { a with handles := a.handles ++ [h] }).setApproach n
      fun a => { a with answers := a.answers + 1 }).setApproach n
        fun a => { a with roundDone := true, collided := collided }).slot n).approach? = some (a.closedWith h collided) := by
  have hl : ∀ f, n ≤ (s.setApproach n f).tilth.slots.length := fun f => by rwa [State.length_setApproach]
  exact State.approach?_setApproach h1 (by rw [State.length_setApproach]; exact hl _)
    (State.approach?_setApproach h1 (hl _) (State.approach?_setApproach h1 hn ha _) _) _

/-- The receptions of a closed round, before its answers are taken (R107, R130). -/
def State.roundHeard (s : State) (n : Nat) (answers : List Answer) (crcFailures : Nat) : State :=
  (((answers.map (·.rx)).foldl State.heard s.leaveAir).count 0x2460 3 crcFailures).await n

theorem State.hears_within (s : State) (rssi : Int) : Within [.radio, .dict] [0x2440, 0x2460] s (s.hears rssi) :=
  (((s.withRadio_within _).next (State.putInt_within _ _ _ _)).next (State.bump_within _ _ _)).widen (by decide)

theorem State.heard_within (s : State) (rx : Reception) : Within [.radio, .dict] [0x2440, 0x2460] s (s.heard rx) := s.hears_within _

theorem State.leaveAir_within (s : State) : Within [.radio] [] s s.leaveAir :=
  ((s.withRadio_within _).next (State.withRadio_within _ _)).widen (by decide)

/-- Receptions that are counted change the radio and its counts. -/
theorem State.receptions_within (s : State) (answers : List Answer) (k : Nat) :
    Within [.radio, .dict] [0x2440, 0x2460] s (((answers.map (·.rx)).foldl State.heard s.leaveAir).count 0x2460 3 k) :=
  ((s.leaveAir_within.next (.foldl State.heard_within _ _)).next (State.count_within _ _ _ _)).widen (by decide)

/-- The receptions of a round change the radio and its counts, and the slot waits; the air is free. -/
theorem State.roundHeard_within (s : State) (n : Nat) (answers : List Answer) (k : Nat) :
    Within [.tilth, .radio, .dict] [0x2440, 0x2460] s (s.roundHeard n answers k) :=
  ((s.receptions_within answers k).next (State.await_within _ _)).widen (by decide)

/-- A packet heard is not itself on the air (R130). -/
theorem State.heard_keepsAirFree (s : State) (rx : Reception) : KeepsAirFree s (s.heard rx) := id

theorem State.roundHeard_air (s : State) (n : Nat) (answers : List Answer) (k : Nat) : (s.roundHeard n answers k).radio.air = none :=
  KeepsAirFree.foldl State.heard_keepsAirFree _ s.leaveAir rfl

/-- The one answer of a round, where it is valid (R108). -/
theorem State.closeRound_one (h : x.slot < a.slots) (hlen : x.payload.length = 4) (hleg : x.legacy = false) (noise : RoundNoise) :
    s.closeRound n a [x] noise =
      ((((s.roundHeard n [x] noise.crcFailures).takeHandle n x [] (handleOf x a.rk)).setApproach n
        fun a => { a with answers := a.answers + 1 }).setApproach n
          fun a => { a with roundDone := true, collided := noise.collided }).settleApproach n := by
  simp [State.closeRound, State.roundHeard, h, insertAnswer, State.takeAnswers, hlen, hleg]

/-- An answer with a handle of its own, room for another badge and room in the queue: the handle is held and a badge session asked for
(R108). -/
theorem State.takeHandle_asks {h : Nat} (h0 : h ≠ 0) (h1 : h ≠ 0xFFFFFFFF) (ha : (s.slot n).approach? = some a)
    (hheld : a.handles.length < s.seenNum 0x2306 0) (hq : s.tilth.waiting.length < 16) :
    s.takeHandle n x [] h = (s.requestSession .badge (some n) (.badge (newBadge x.slot x.legacy h (s.choosePort x.rx)))).1.setApproach n
      fun a => { a with handles := a.handles ++ [h] } := by
  have hn : ¬ s.seenNum 0x2306 0 ≤ a.holds := Nat.not_le.2 hheld
  simp [State.takeHandle, h0, h1, ha, hn, State.requestSession, hq]

theorem State.takeHandle_keepsAirFree (s : State) (n : Nat) (x : Answer) (seen : List Nat) (h : Nat) :
    KeepsAirFree s (s.takeHandle n x seen h) := by
  unfold State.takeHandle
  dsimp only
  split
  · exact .of_within (s.event_within _ _ _) (by decide)
  · split
    · exact .of_within ((s.requestSession_within _ _ _).next (State.setApproach_within _ _ _)) (by decide)
    · exact .of_within (((s.requestSession_within _ _ _).next (State.bump_within _ _ _)).next (State.event_within _ _ _ _)) (by decide)

/-- After a round with one valid answer the air is free (R107). -/
theorem State.closeRound_air (h : x.slot < a.slots) (hlen : x.payload.length = 4) (hleg : x.legacy = false) (noise : RoundNoise) :
    (s.closeRound n a [x] noise).radio.air = none := by
  rw [State.closeRound_one h hlen hleg]
  refine State.settleApproach_keepsAirFree _ n ?_
  exact State.takeHandle_keepsAirFree _ _ _ _ _ (s.roundHeard_air _ _ _)

/-- While a round's receptions are counted its approach stays in its slot, and the queue and the clock stay. -/
theorem State.roundHeard_slots (ha : (s.slot n).approach? = some a) (hf : (s.slot n).inFlight = true) (answers : List Answer) (k : Nat) :
    ((s.roundHeard n answers k).slot n).approach? = some a ∧ (s.roundHeard n answers k).tilth.waiting = s.tilth.waiting
      ∧ (s.roundHeard n answers k).now = s.now ∧ (s.roundHeard n answers k).tilth.slots.length = s.tilth.slots.length := by
  obtain ⟨hn1, hn⟩ := State.slot_inRange hf
  have ht : State.tilth _ = s.tilth := (s.receptions_within answers k).1.get .tilth (by decide)
  unfold State.roundHeard
  generalize ((answers.map (·.rx)).foldl State.heard s.leaveAir).count 0x2460 3 k = u at ht
  have hslot := State.slot_setSlot hn1 (ht ▸ hn : n ≤ u.tilth.slots.length)
    fun sl => { sl with state := .waitingEvent, engine := none, named := none, carry := 0 }
  refine ⟨?_, show u.tilth.waiting = _ from congrArg Tilth.waiting ht, show u.tilth.executed = _ from congrArg Tilth.executed ht,
    (u.length_setSlot _ _).trans (congrArg (·.slots.length) ht)⟩
  unfold State.await
  rw [hslot, State.slot_congr ht]
  exact ha

/-- A round with one valid answer, whose handle is its own and fits: its badge session waits, and the approach holds the handle (R108). -/
theorem State.closeRound_asks {h : Nat} (hh : h = handleOf x a.rk) (ha : (s.slot n).approach? = some a) (hf : (s.slot n).inFlight = true)
    (hx : x.slot < a.slots) (hlen : x.payload.length = 4) (hleg : x.legacy = false) (hheld : a.handles.length < s.seenNum 0x2306 0)
    (hq : s.tilth.waiting.length < 16) (h0 : h ≠ 0) (h1 : h ≠ 0xFFFFFFFF) (noise : RoundNoise) :
    (s.closeRound n a [x] noise).tilth.waiting = s.tilth.waiting ++
        [{ kind := .badge, arrival := s.now, parent := some n, work := .badge (newBadge x.slot false h (s.choosePort x.rx)) }]
      ∧ ((s.closeRound n a [x] noise).slot n).approach? = some (a.closedWith h noise.collided) := by
  obtain ⟨hn1, hn⟩ := State.slot_inRange hf
  obtain ⟨happ, hwait, hnow, hlength⟩ := State.roundHeard_slots ha hf [x] noise.crcFailures
  have hseen : (s.roundHeard n [x] noise.crcFailures).hist2 = s.hist2 := (s.roundHeard_within n _ _).1.get .hist2 (by decide)
  rw [State.closeRound_one hx hlen hleg, ← hh]
  generalize s.roundHeard n [x] noise.crcFailures = r at happ hwait hnow hlength hseen
  rw [State.takeHandle_asks h0 h1 happ (by unfold State.seenNum State.seenBytes State.seen at hheld ⊢; rwa [hseen]) (by rwa [hwait])]
  have hport : r.choosePort x.rx = s.choosePort x.rx := by
    simp only [State.choosePort, State.fixedPort, State.seenNum, State.seenBytes, State.seen, hseen]
  have hw := State.requestSession_waiting (by rwa [hwait]) .badge (some n) (.badge (newBadge x.slot x.legacy h (r.choosePort x.rx)))
    (s := r)
  rw [hwait, hnow, hport, hleg] at hw
  rw [State.settleApproach_waits (by simp [hport, hleg, hw])]
  exact ⟨by rw [hport, hleg]; exact hw,
    State.approach?_closed (s := (r.requestSession .badge (some n) _).1) hn1 (hlength ▸ hn) happ h _⟩

theorem exec_roundEnd (ha : (s.slot n).approach? = some a) (hact : (s.slot n).acts = true) (hd : a.roundDone = false)
    (hair : (s.radio.air.any fun y => y.slot == n && y.close ≤ s.now) = true) (answers : List Answer) (noise : RoundNoise) :
    exec (.roundEnd n answers noise) s = keepLock s (s.closeRound n a answers noise) := by
  show execRoundEnd n answers noise s = _
  simp only [execRoundEnd, ha, hact, hd, hair, Bool.not_false, Bool.and_self, if_true]

theorem roundEnd_closes {collided crcFailures h : Nat} (hh : h = handleOf x a.rk) (ha : (s.slot n).approach? = some a)
    (hact : (s.slot n).acts = true) (hd : a.roundDone = false)
    (hair : (s.radio.air.any fun y => y.slot == n && y.close ≤ s.now) = true) (hx : x.slot < a.slots) (hlen : x.payload.length = 4)
    (hleg : x.legacy = false) (hheld : a.handles.length < s.seenNum 0x2306 0) (hq : s.tilth.waiting.length < 16) :
    Completes (.roundEnd n [x] ⟨collided, crcFailures⟩) s fun t =>
      (h ≠ 0 → h ≠ 0xFFFFFFFF → t.tilth.waiting = s.tilth.waiting ++
          [{ kind := .badge, arrival := s.now, parent := some n, work := .badge (newBadge x.slot false h (s.choosePort x.rx)) }])
      ∧ (h ≠ 0 → h ≠ 0xFFFFFFFF → (t.slot n).approach? = some (a.closedWith h collided))
      ∧ t.radio.air = none := by
  have asks := State.closeRound_asks hh ha (State.inFlight_of_acts hact) hx hlen hleg hheld hq
  exact .of_keepLock (exec_roundEnd ha hact hd hair _ _)
    ⟨fun h0 h1 => (asks h0 h1 ⟨collided, crcFailures⟩).1, fun h0 h1 => (asks h0 h1 ⟨collided, crcFailures⟩).2,
      State.closeRound_air hx hlen hleg _⟩ fun _ h => h

/-- An approach in flight that has lasted its limit ends (R119). -/
theorem approachTimeout_ends (hk : (s.slot n).kind = some .approach) (hf : (s.slot n).inFlight = true)
    (hl : s.lasted n (s.seenNum 0x2305 3) = true) : Completes (.approachTimeout n) s fun t => Ended t n Rc.approachTimeout := by
  have hexec : exec (.approachTimeout n) s = keepLock s (s.finish n Rc.approachTimeout) := by
    show execApproachTimeout n s = _
    simp [execApproachTimeout, hk, hl]
  exact .of_keepLock hexec (State.finish_closes hf _) fun _ h => h

end

/-- Settles O8: a touch and a host request by what `State.touch` asks for, the round by its one answer, the timeout by the end of a session
in flight. -/
theorem approachesBeginAndRoundsClose : Obligations.ApproachesBeginAndRoundsClose :=
  ⟨fun _ _ => touchEvent_asks,
   fun _ _ => touchEvent_ignored,
   fun _ _ _ => hostApproachRequest_asks,
   fun _ _ _ _ _ _ _ => roundEnd_closes,
   fun _ _ => approachTimeout_ends⟩

end Sys2Proof.Machine

/-! ## Draws and the queues of the generators (R322, R323) -/

namespace Sys2Proof.Machine

section
variable {s t : State} {i j n : Nat} {g : Generator}

theorem State.drawState_congr (h : t.rng = s.rng) (i : Nat) (turn : Bool) : t.drawState i turn = s.drawState i turn := by
  simp only [State.drawState, State.instance?, State.strictDraw, State.stretchDraw, h]

theorem State.fresh_congr (h : t.free = s.free) (k : Nat) : t.fresh k = s.fresh k := by simp only [State.fresh, h]

theorem State.instance?_congr (h : t.rng = s.rng) (i : Nat) : t.instance? i = s.instance? i := by simp only [State.instance?, h]

theorem State.instance?_setInstance (h : s.instance? i = some g) (f : Generator → Generator) :
    (s.setInstance i f).instance? i = some (f g) := by
  unfold State.instance? at h ⊢
  simp [State.setInstance, h]

theorem State.instance?_setInstance_ne (h : i - 1 ≠ j - 1) (f : Generator → Generator) :
    (s.setInstance i f).instance? j = s.instance? j := by
  simp [State.instance?, State.setInstance, h]

/-- A call counted leaves who waits at the generators. -/
theorem State.queue_countCall (s : State) (i j : Nat) :
    ((s.countCall i).instance? j).map (·.queue) = (s.instance? j).map (·.queue) := by
  have hset : ∀ f : Generator → Generator, (∀ g, (f g).queue = g.queue) →
      ((s.setInstance i f).instance? j).map (·.queue) = (s.instance? j).map (·.queue) := fun f hf => by
    simp only [State.instance?, State.setInstance, List.getElem?_modify]
    split <;> cases s.rng.instances[j - 1]? <;> simp [hf]
  unfold State.countCall
  dsimp only
  split
  · exact hset _ fun _ => rfl
  · exact hset _ fun _ => rfl

/-- A strict generator reseeds at each call, with three blocks of the pool (R323). -/
theorem State.pool_countCall (h : i ≤ 4) : (s.countCall i).rng.pool = s.rng.pool - 3 := by simp [State.countCall, h, State.setInstance]

theorem State.makeReady_state (h1 : 1 ≤ n) (hn : n ≤ s.tilth.slots.length) (e : Engine) (named : Option Nat) :
    ((s.makeReady n e named).slot n).state = .ready := by
  unfold State.makeReady; rw [State.slot_setSlot h1 hn]

theorem State.makeReady_approach? (h1 : 1 ≤ n) (hn : n ≤ s.tilth.slots.length) (e : Engine) (named : Option Nat) :
    ((s.makeReady n e named).slot n).approach? = (s.slot n).approach? := by
  unfold State.makeReady; rw [State.slot_setSlot h1 hn]; rfl

theorem State.await_exchange? (h1 : 1 ≤ n) (hn : n ≤ s.tilth.slots.length) : ((s.await n).slot n).exchange? = (s.slot n).exchange? := by
  unfold State.await; rw [State.slot_setSlot h1 hn]; rfl

end

/-! ## Strict requests (R102, R193, R323) -/

section
variable {s : State} {i n : Nat} {rest : List Nat} {g : Generator}

/-- The generator a strict request is served from is one of the four, and its draw is ready (R323). -/
theorem State.nextStrict_ready (h : s.nextStrict = some i) (hg : s.instance? i = some g) :
    1 ≤ i ∧ i ≤ 4 ∧ s.strictDraw g true = .ready := by
  have hmem := List.mem_of_find?_eq_some h
  have hp := List.find?_some h
  simp [hg] at hmem hp
  exact ⟨by omega, by omega, hp.2⟩

/-- The generator whose first request is taken for serving. -/
def State.dequeued (s : State) (i : Nat) (rest : List Nat) : State := s.setInstance i fun g => { g with queue := rest }

theorem exec_strictRequestServed (h : s.nextStrict = some i) (hg : s.instance? i = some g) (hq : g.queue = n :: rest) :
    exec .strictRequestServed s = keepLock s ((s.dequeued i rest).resumeDraw n i) := by
  show execStrictRequestServed s = _
  simp only [execStrictRequestServed, h, State.serveDraw, hg, hq, State.dequeued]

theorem State.queue_dequeued (hg : s.instance? i = some g) : ((s.dequeued i rest).instance? i).map (·.queue) = some rest := by
  rw [State.dequeued, State.instance?_setInstance hg]; rfl

/-- The request whose turn has come finds its draw ready, whoever else waits (R323). -/
theorem State.drawState_dequeued (h : s.nextStrict = some i) (hg : s.instance? i = some g) :
    (s.dequeued i rest).drawState i true = .ready := by
  obtain ⟨-, h4, hready⟩ := State.nextStrict_ready h hg
  simp only [State.drawState, State.dequeued, State.instance?_setInstance hg, h4, if_true]
  exact hready

/-- A session of no other rule goes on with its step ready (R323). -/
theorem State.resumeDraw_plain (ha : ∀ a, (s.slot n).work ≠ .approach a) (hb : ∀ b, (s.slot n).work ≠ .badge b)
    (hx : ∀ x, (s.slot n).work ≠ .release x) : s.resumeDraw n i = ((s.used 64).countCall i).operationDone n := by
  unfold State.resumeDraw
  split
  · next a h => exact absurd h (ha a)
  · next b h => exact absurd h (hb b)
  · next x h => exact absurd h (hx x)
  · rfl

theorem strictRequestServed_plain (ha : ∀ a, (s.slot n).work ≠ .approach a) (hb : ∀ b, (s.slot n).work ≠ .badge b)
    (hx : ∀ x, (s.slot n).work ≠ .release x) (h : s.nextStrict = some i) (hg : s.instance? i = some g) (hq : g.queue = n :: rest)
    (hf : (s.slot n).inFlight = true) :
    Completes .strictRequestServed s fun t =>
      (t.instance? i).map (·.queue) = some rest ∧ (t.slot n).state = .ready ∧ t.rng.pool = s.rng.pool - 3 := by
  obtain ⟨h1, hn⟩ := State.slot_inRange hf
  refine .of_keepLock (exec_strictRequestServed h hg hq) ?_ fun _ h => h
  rw [State.resumeDraw_plain (s := s.dequeued i rest) ha hb hx]
  have hrng : ((((s.dequeued i rest).used 64).countCall i).operationDone n).rng = (((s.dequeued i rest).used 64).countCall i).rng := rfl
  have hlen : (((s.dequeued i rest).used 64).countCall i).tilth = s.tilth := (State.countCall_within _ _).1.get .tilth (by decide)
  refine ⟨?_, State.makeReady_state h1 (by rwa [hlen]) _ _, ?_⟩
  · rw [State.instance?_congr hrng, State.queue_countCall]
    exact State.queue_dequeued hg
  · rw [hrng, State.pool_countCall (State.nextStrict_ready h hg).2.1]
    rfl

/-! ### A challenge of the vehicle exchange (R187, R193) -/

theorem State.setOutbound_within (s : State) (c : Carrier) (msg : Bytes) : Within [.vehicle, .dict] [0x2611] s (s.setOutbound c msg) := by
  unfold State.setOutbound
  split
  · exact (s.withVehicle_within _).widen (by decide)
  · exact (s.withVehicle_within _).widen (by decide)
  · exact (s.put_within _ _ _).widen (by decide)

theorem State.setExchange_within (s : State) (n : Nat) (x : Exchange) : Within [.tilth] [] s (s.setExchange n x) := s.setSlot_within _ _

theorem State.challengeVehicle_within (s : State) (n : Nat) (x : Exchange) (cv : Bytes) (fallback : Bool) :
    Within [.tilth, .vehicle, .dict] [0x2611] s (s.challengeVehicle n x cv fallback) :=
  ((((s.withVehicle_within _).next (State.setExchange_within _ _ _)).next
    (State.setOutbound_within _ _ _)).next (State.await_within _ _)).widen (by decide)

theorem State.exchange?_setExchange (h1 : 1 ≤ n) (hn : n ≤ s.tilth.slots.length) (x : Exchange) :
    ((s.setExchange n x).slot n).exchange? = some x := by
  unfold State.setExchange; rw [State.slot_setSlot h1 hn]; rfl

/-- A message of an exchange goes out and the exchange waits, with its new record. -/
theorem State.exchange?_presented (h1 : 1 ≤ n) (hn : n ≤ s.tilth.slots.length) (x : Exchange) (c : Carrier) (msg : Bytes) :
    ((((s.setExchange n x).setOutbound c msg).await n).slot n).exchange? = some x := by
  have ht : ((s.setExchange n x).setOutbound c msg).tilth = (s.setExchange n x).tilth :=
    (State.setOutbound_within _ _ _).1.get .tilth (by decide)
  have hlen : n ≤ (s.setExchange n x).tilth.slots.length := by unfold State.setExchange; rwa [State.length_setSlot]
  rw [State.await_exchange? h1 (ht ▸ hlen), State.slot_congr ht, State.exchange?_setExchange h1 hn]

/-- The exchange waits for its RESPONSE with the EXID and CV of its CHALLENGE (R187). -/
theorem State.challengeVehicle_exchange? (h1 : 1 ≤ n) (hn : n ≤ s.tilth.slots.length) (x : Exchange) (cv : Bytes) (fallback : Bool) :
    ((s.challengeVehicle n x cv fallback).slot n).exchange? =
      some { x with exid := s.vehicle.exid, cv := cv, waiting := true, challengeTick := s.now } :=
  State.exchange?_presented (s := { s with vehicle := { s.vehicle with exid := nextExid s.vehicle.exid } }) h1 hn _ _ _

theorem State.drawChallenge_drawn {turn : Bool} (h : s.drawState 3 turn = .ready) (x : Exchange) :
    s.drawChallenge n x turn = ((s.used 16).countCall 3).challengeVehicle n x (s.fresh 16) false := by
  simp [State.drawChallenge, State.cvDraw, h]

theorem strictRequestServed_exchange {x : Exchange} (h : s.nextStrict = some 3) (hg : s.instance? 3 = some g) (hq : g.queue = n :: rest)
    (hf : (s.slot n).inFlight = true) (hx : (s.slot n).work = .release x) :
    Completes .strictRequestServed s fun t =>
      (t.instance? 3).map (·.queue) = some rest
      ∧ (t.slot n).exchange? = some { x with exid := s.vehicle.exid, cv := s.fresh 16, waiting := true, challengeTick := s.now } := by
  obtain ⟨h1, hn⟩ := State.slot_inRange hf
  refine .of_keepLock (exec_strictRequestServed h hg hq) ?_ fun _ h => h
  have hresume : (s.dequeued 3 rest).resumeDraw n 3 = (s.dequeued 3 rest).drawChallenge n x true := by
    have : ((s.dequeued 3 rest).slot n).work = .release x := hx
    simp [State.resumeDraw, this]
  rw [hresume, State.drawChallenge_drawn (State.drawState_dequeued h hg)]
  constructor
  · rw [State.instance?_congr ((State.challengeVehicle_within _ _ _ _ _).1.get .rng (by decide)), State.queue_countCall]
    exact State.queue_dequeued hg
  · exact State.challengeVehicle_exchange? (s := ((s.dequeued 3 rest).used 16).countCall 3) h1 hn x _ _

/-! ### A round of an approach (R102) -/

theorem State.roundKeys_tilth (s : State) (n : Nat) : (s.roundKeys n).tilth = s.tilth :=
  ((s.roundKeys_within n).1.get .tilth (by decide)).trans ((State.countCall_within _ _).1.get .tilth (by decide))

/-- An approach that begins a round holds the fresh nonce, and its wake is ready (R102). -/
theorem State.beginRound_ready {a : Approach} (h1 : 1 ≤ n) (hn : n ≤ s.tilth.slots.length) (ha : (s.slot n).approach? = some a) :
    ((s.beginRound n).slot n).approach?.map (·.rn) = some (s.fresh 16) ∧ ((s.beginRound n).slot n).state = .ready := by
  obtain ⟨ws, f, hv, hrn⟩ := s.beginRound_shape n
  have ht : ({ (s.roundKeys n).used 1 with badges := ws } : State).tilth = s.tilth := s.roundKeys_tilth n
  generalize ({ (s.roundKeys n).used 1 with badges := ws } : State) = v at hv ht
  have hlen : n ≤ (v.setApproach n f).tilth.slots.length := by rwa [State.length_setApproach, ht]
  have hcall : ((v.setApproach n f).countCall 8).tilth = (v.setApproach n f).tilth := (State.countCall_within _ _).1.get .tilth (by decide)
  rw [hv]
  refine ⟨?_, State.makeReady_state h1 (hcall ▸ hlen) _ _⟩
  rw [State.makeReady_approach? h1 (hcall ▸ hlen), State.slot_congr hcall,
    State.approach?_setApproach h1 (ht ▸ hn) ((congrArg Slot.approach? (State.slot_congr ht n)).trans ha), Option.map_some, hrn]

/-- A round that begins leaves who waits at the generators. -/
theorem State.queue_beginRound (s : State) (n i : Nat) :
    ((s.beginRound n).instance? i).map (·.queue) = (s.instance? i).map (·.queue) := by
  obtain ⟨ws, f, hv, -⟩ := s.beginRound_shape n
  have hend : (s.beginRound n).rng = ((s.roundKeys n).countCall 8).rng := by rw [hv]; rfl
  rw [State.instance?_congr hend, State.queue_countCall,
    State.instance?_congr (s := (s.used 16).countCall 2) ((s.roundKeys_within n).1.get .rng (by decide)), State.queue_countCall]
  rfl

theorem State.startRound_begins {turn : Bool} (h2 : s.drawState 2 turn = .ready) (h8 : s.drawState 8 = .ready)
    (hc : s.cipher.failed = false) : s.startRound n turn = s.beginRound n := by
  simp [State.startRound, h2, h8, hc]

theorem strictRequestServed_approach {a : Approach} (h : s.nextStrict = some 2) (hg : s.instance? 2 = some g) (hq : g.queue = n :: rest)
    (hf : (s.slot n).inFlight = true) (ha : (s.slot n).work = .approach a) (h8 : s.drawState 8 = .ready)
    (hc : s.cipher.failed = false) :
    Completes .strictRequestServed s fun t =>
      (t.instance? 2).map (·.queue) = some rest
      ∧ (t.slot n).approach?.map (·.rn) = some (s.fresh 16)
      ∧ (t.slot n).state = .ready := by
  obtain ⟨h1, hn⟩ := State.slot_inRange hf
  refine .of_keepLock (exec_strictRequestServed h hg hq) ?_ fun _ h => h
  have hresume : (s.dequeued 2 rest).resumeDraw n 2 = (s.dequeued 2 rest).startRound n true := by
    have : ((s.dequeued 2 rest).slot n).work = .approach a := ha
    simp [State.resumeDraw, this]
  have h8' : (s.dequeued 2 rest).drawState 8 = .ready := by
    unfold State.drawState at h8 ⊢
    rwa [State.dequeued, State.instance?_setInstance_ne (by decide)]
  rw [hresume, State.startRound_begins (State.drawState_dequeued h hg) h8' hc, State.queue_beginRound]
  exact ⟨State.queue_dequeued hg, State.beginRound_ready (s := s.dequeued 2 rest) h1 hn (Slot.approach?_eq_some.2 ha)⟩

end

/-! ## Stretch generators and the host's bytes (R322, R324) -/

section
variable {s : State} {i : Nat} {g : Generator}

theorem stretchReseed_seeds (hg : s.instance? i = some g) (hi : 5 ≤ i) (hd : s.reseedDue g = true) :
    Completes (.stretchReseed i) s fun t => t.instance? i = some (g.seed s.tick) ∧ t.rng.pool = s.rng.pool - 3 := by
  have hexec : exec (.stretchReseed i) s =
      keepLock s ((s.setInstance i fun g => g.seed s.tick).setRng fun r => { r with pool := r.pool - 3 }) := by
    show execStretchReseed i s = _
    simp [execStretchReseed, hg, hi, hd]
  exact .of_keepLock hexec ⟨State.instance?_setInstance hg _, rfl⟩ fun _ h => h

theorem rngStretchExhausted_exhausts (hg : s.instance? i = some g) (hi : 5 ≤ i) (hs : g.seeded = true) (hc : 2 ^ 20 ≤ g.calls)
    (he : g.exhausted = false) :
    Completes (.rngStretchExhausted i) s fun t =>
      t.instance? i = some { g with exhausted := true, calls := 2 ^ 20 } ∧ Logged s t Ev.rngStretchExhausted i (leBytes 1 i) := by
  have hexec : exec (.rngStretchExhausted i) s =
      keepLock s ((s.setInstance i fun g => { g with exhausted := true, calls := 2 ^ 20 }).event Ev.rngStretchExhausted i
        (leBytes 1 i)) := by
    show execRngStretchExhausted i s = _
    simp only [execRngStretchExhausted, hg, hi, hs, hc, he, true_or, and_self, Bool.not_false, if_true]
  exact .of_keepLock hexec ⟨State.instance?_setInstance hg _, State.event_logged (s.setInstance i _) _ _ _⟩ fun _ h => h

/-- What the host's read leaves at 0x2A45:00, and that it answers OK and leaves the servers alone (R322). -/
theorem ownHostRandom_reads (s : State) :
    (ownHostRandom s).2 = Rc.ok ∧ (ownHostRandom s).1.net = s.net
      ∧ (ownHostRandom s).1.bytes 0x2A45 0 = if s.drawState 16 = .ready then s.fresh 32 else zeros 32 := by
  have hw := s.firstAccess_within .rns 0
  have hdraw := State.drawState_congr (hw.1.get .rng (by decide)) 16 false
  have hfresh := State.fresh_congr (hw.1.get .free (by decide)) 32
  have hnet : (s.firstAccess .rns 0).net = s.net := hw.1.get .net (by decide)
  unfold ownHostRandom
  dsimp only
  rw [hdraw, hfresh]
  split
  · next h => exact ⟨rfl, ((State.countCall_within _ _).1.get .net (by decide)).trans hnet, by rw [State.bytes_put, if_pos h]⟩
  · next h => exact ⟨rfl, hnet, by rw [State.bytes_put, if_neg h]⟩

/-- A host's read that needs no session, on a fresh server of a port that serves, is its own rule with the transfer's end (R352). -/
theorem State.hostRead_plain {via : Via} {idx sub : Nat} (hp : s.portServes via.port = true) (hf : Fresh s via)
    (hn : needsSession (entryRow? idx sub) = false) (own : Own) :
    s.hostRead via idx sub own = (own s).1.endTransfer via false (own s).2 (abortCodeOf (own s).2 idx false) := by
  simp [State.hostRead, hp, State.supersede_fresh hf, hn]

theorem hostRandomRead_reads {via : Via} (hp : s.portServes via.port = true) (hc : s.carries via.srv = [])
    (hs : (s.server via.srv).slot = none) :
    Completes (.hostRandomRead via) s fun t =>
      Answered t via 0x2A45 Rc.ok ∧ (t.bytes 0x2A45 0 = (if s.drawState 16 = .ready then s.fresh 32 else zeros 32)) := by
  obtain ⟨hok, hnet, hbytes⟩ := ownHostRandom_reads s
  have hread := State.hostRead_plain hp ⟨hc, hs⟩ (plainEntries (0x2A45, 0) (by decide)).2 ownHostRandom
  rw [hok, show abortCodeOf Rc.ok 0x2A45 false = abortCodeOf Rc.ok 0x2A45 true from rfl] at hread
  refine .of_keepLock rfl ?_ fun _ h => h
  rw [hread, ← hbytes]
  exact ⟨State.endTransfer_answered _ _ _ _ _,
    (State.endTransfer_plain (by unfold State.server at hs ⊢; rwa [hnet]) _ _).2.bytes _ _ (by decide)⟩

end

/-- Settles O26: the strict requests by what the taken request's session goes on with, the stretch generators by their own records, the
host's bytes by the rule of the entry. -/
theorem randomRequestsAreServed : Obligations.RandomRequestsAreServed :=
  ⟨fun _ _ _ _ _ => strictRequestServed_plain,
   fun _ _ _ _ _ => strictRequestServed_exchange,
   fun _ _ _ _ _ => strictRequestServed_approach,
   fun _ _ _ => stretchReseed_seeds,
   fun _ _ _ => rngStretchExhausted_exhausts,
   fun _ _ => hostRandomRead_reads⟩

end Sys2Proof.Machine

/-! ## What the operations of sessions on the air stay within (R42, R102, R119, R138) -/

namespace Sys2Proof.Machine

section
variable (s : State) (n : Nat)

theorem State.makeReadyOutside_within (e : Engine) (named : Option Nat) : Within [.tilth] [] s (s.makeReadyOutside n e named) :=
  ((s.makeReady_within _ _ _).next (State.setSlot_within _ _ _)).widen (by decide)

theorem State.beginThrough_within (w : Through) : Within [.tilth] [] s (s.beginThrough n w) :=
  ((s.makeReady_within _ _ _).next (State.setSlot_within _ _ _)).widen (by decide)

theorem State.nameRf_within (k : Nat) : Within [.tilth] [] s (s.nameRf n k) := s.makeReady_within _ _ _

theorem State.prepare_within (a : Approach) (type handle : Nat) (payload : Bytes) :
    Within [.tilth] [] s (s.prepare n a type handle payload) := ((s.setBadge_within _ _).next (State.nameRf_within _ _ _)).widen (by decide)

theorem State.gcm_within (k : Nat) : Within [.dict] [0x2940] s (s.gcm k) := s.count_within _ _ _

theorem State.gcmOpened_within (len : Nat) : Within [.dict] [0x2904, 0x2940] s (s.gcmOpened len) :=
  ((s.gcm_within _).next (State.putNum_within _ _ _ _)).widen (by decide)

theorem State.tagFailed_within : Within [.dict] [0x2940] s s.tagFailed := s.bump_within _ _

theorem State.queueDraw_within (inst : Nat) : Within (.power :: endParts) endObjects s (s.queueDraw n inst) :=
  .ite ((s.waitDraw_within n inst).widen (by decide)) ((s.finish_within n _).widen (by decide))

theorem State.startRound_within (turn : Bool) :
    Within (.badges :: .power :: endParts) (0x2903 :: endObjects) s (s.startRound n turn) := by
  have ends : ∀ c, Within (.badges :: .power :: endParts) (0x2903 :: endObjects) s (s.finish n c) := fun c =>
    (s.finish_within n c).widen (by decide)
  have waits : ∀ i, Within (.badges :: .power :: endParts) (0x2903 :: endObjects) s (s.queueDraw n i) := fun i =>
    (s.queueDraw_within n i).widen (by decide)
  unfold State.startRound
  split
  · exact ends _
  · exact waits _
  · split
    · exact ends _
    · exact waits _
    · exact .ite (ends _) ((s.beginRound_within n).widen (by decide))

theorem State.retryBadge_within (b : Badge) : Within endParts endObjects s (s.retryBadge n b) :=
  .ite ((((s.setBadge_within _ _).next (State.setSlot_within _ _ _)).next (State.nameRf_within _ _ _)).widen (by decide))
    (s.finish_within _ _)

theorem State.retryApproach_within (a : Approach) (e : Engine) : Within endParts endObjects s (s.retryApproach n a e) := by
  have again : Within endParts endObjects s
      ((s.setApproach n fun a => { a with retries := a.retries + 1 }).setSlot n fun sl => { sl with deferred := 0 }) :=
    ((s.setApproach_within _ _).next (State.setSlot_within _ _ _)).widen (by decide)
  exact .ite (.ite ((again.next (State.nameRf_within _ _ _)).widen (by decide))
    ((again.next (State.makeReady_within _ _ _ _)).widen (by decide))) (s.finish_within _ _)

theorem State.retryStep_within : Within endParts endObjects s (s.retryStep n) := by
  unfold State.retryStep
  split
  · exact .ite (s.retryBadge_within _ _) (s.finish_within _ _)
  · exact s.retryApproach_within _ _ _
  · exact .refl _ _ _

/-- A step without lock ends its sweep, waits a tick, or counts as a missing reply (R138, R166). -/
theorem State.noLock_within : Within endParts (0x2460 :: endObjects) s (s.noLock n) :=
  .ite ((s.finish_within n _).widen (by decide))
    (.ite
      (((((s.setSlot_within _ _).next (State.bump_within _ _ _)).next (State.event_within _ _ _ _)).next
        (State.makeReady_within _ _ _ _)).widen (by decide))
      (((s.setSlot_within _ _).next (State.retryStep_within _ _)).widen (by decide)))

end

/-! ## Touches and rounds (R100, R101, R108) -/

section
variable (s : State)

theorem State.spendTouch_within (e : Nat) : Within [.power] [] s (s.spendTouch e) := s.withPower_within _

/-- The record of an approach is its entries and its events (R101). -/
theorem State.reportApproach_records (n : Nat) (a : Approach) (c : Code) :
    Within [.ledger, .logs, .dict] [0x2311] s (s.reportApproach n a c) := by
  have ended : ∀ data, Within [.ledger, .logs, .dict] [0x2311] s
      (((((s.putCode 0x2311 1 c).putNum 0x2311 2 a.lastCredential).putNum 0x2311 3
      a.touchTick).putNum 0x2311 4 (s.sinceTick a.touchTick * 25)).event Ev.approachEnded n data) := fun data =>
    (((((s.putCode_within _ _ _).next (State.putNum_within _ _ _ _)).next (State.putNum_within _ _ _ _)).next
      (State.putNum_within _ _ _ _)).next (State.event_within _ _ _ _)).widen (by decide)
  exact .ite (((ended _).next (State.event_within _ _ _ _)).widen (by decide)) (ended _)

theorem State.touch_within (e : Nat) : Within [.tilth, .ledger, .logs, .dict] [0x2102, 0x2311] s (s.touch e).1 := by
  have ignored : Within [.tilth, .ledger, .logs, .dict] [0x2102, 0x2311] s (s.touchIgnored e) :=
    (s.event_within _ _ _).widen (by decide)
  have report : ∀ c, Within [.tilth, .ledger, .logs, .dict] [0x2102, 0x2311] s (s.reportApproach 0 (s.newApproach e) c) := fun c =>
    (s.reportApproach_records _ _ _).widen (by decide)
  have asks : ∀ w, Within [.tilth, .ledger, .logs, .dict] [0x2102, 0x2311] s (s.requestSession .approach none w).1 := fun w =>
    (s.requestSession_within _ _ _).widen (by decide)
  unfold State.touch
  split
  · exact ignored
  · split
    · split
      · exact report _
      · split
        · exact report _
        · dsimp only
          split
          · exact asks _
          · exact ((asks _).next (State.bump_within _ _ _)).widen (by decide)
    · exact ignored

theorem State.dropAnswer_within (x : Answer) : Within [.ledger, .logs] [] s (s.dropAnswer x) :=
  (s.event_within _ _ _).widen (by decide)

theorem State.takeHandle_within (n : Nat) (x : Answer) (seen : List Nat) (h : Nat) :
    Within [.tilth, .ledger, .logs, .dict] [0x2102] s (s.takeHandle n x seen h) := by
  have asks : ∀ w, Within [.tilth, .ledger, .logs, .dict] [0x2102] s (s.requestSession .badge (some n) w).1 := fun w =>
    (s.requestSession_within _ _ _).widen (by decide)
  unfold State.takeHandle
  dsimp only
  split
  · exact (s.dropAnswer_within x).widen (by decide)
  · split
    · exact ((asks _).next (State.setApproach_within _ _ _)).widen (by decide)
    · exact (((asks _).next (State.bump_within _ _ _)).next (State.dropAnswer_within _ _)).widen (by decide)

theorem State.takeAnswers_within (n : Nat) (a : Approach) (seen : List Nat) (xs : List Answer) :
    Within [.tilth, .ledger, .logs, .dict] [0x2102] s (s.takeAnswers n a seen xs) := by
  induction xs generalizing s seen with
  | nil => exact .refl _ _ _
  | cons x xs ih =>
    unfold State.takeAnswers
    split
    · exact ih _ _
    · split
      · exact Within.trans ((s.event_within _ _ _).widen (by decide)) (ih _ _)
      · split
        · exact ih _ _
        · exact (((s.takeHandle_within n x seen _).next (State.setApproach_within _ _ _)).widen (by decide)).trans (ih _ _)

theorem State.settleApproach_within (n : Nat) :
    Within (.badges :: .power :: endParts) (0x2903 :: endObjects) s (s.settleApproach n) := by
  have ends : ∀ c, Within (.badges :: .power :: endParts) (0x2903 :: endObjects) s (s.finish n c) := fun c =>
    (s.finish_within n c).widen (by decide)
  unfold State.settleApproach State.afterRound
  split
  · split
    · split
      · exact ends _
      · exact .ite (.ite (s.startRound_within n _) (.ite (ends _) (ends _))) (.ite (ends _) (.refl _ _ _))
    · exact .refl _ _ _
  · exact .refl _ _ _

theorem State.closeRound_within (n : Nat) (a : Approach) (answers : List Answer) (noise : RoundNoise) :
    Within (.badges :: .power :: endParts) (0x2102 :: 0x2440 :: 0x2460 :: 0x2903 :: endObjects) s (s.closeRound n a answers noise) :=
  ((((s.roundHeard_within n _ _).next (State.takeAnswers_within _ _ _ _ _)).next
    (State.setApproach_within _ _ _)).next (State.settleApproach_within _ _)).widen (by decide)

end

/-! ## Credentials looked up (R55, R56) -/

section
variable (s : State) (n i : Nat)

theorem State.pinOrEnd_within : Within endParts endObjects s (s.pinOrEnd n i) :=
  .ite (.refl _ _ _) (.ite (s.finish_within _ _) ((s.setSlot_within _ _).widen (by decide)))

theorem State.readRecord_within : Within [.tilth, .logs] [] s (s.readRecord n i) := by
  have read : Within [.tilth, .logs] [] s
      (if recordGood (s.credential i) = true then s else s.logFault 0x03 0x03 0 n 10 (leBytes 2 i)) :=
    .ite (.refl _ _ _) ((s.logFault_within _ _ _ _ _ _).widen (by decide))
  exact (read.next (State.withTilth_within _ _)).widen (by decide)

theorem State.lookupNow_within : Within endParts (0x2104 :: endObjects) s (s.lookupNow n i) := by
  have read : Within endParts (0x2104 :: endObjects) s (s.readRecord n i) := (s.readRecord_within n i).widen (by decide)
  have found : Within endParts (0x2104 :: endObjects) s
      (if (s.tilth.cache.any fun l => l.index == i && !(l.dropAt.any (· ≤ s.now))) = true then (s.useLine i).bump 0x2104 1
       else if (s.tilth.pageIns.any fun p => p.index == i) = true then (s.readRecord n i).bump 0x2104 1
       else (s.readRecord n i).bump 0x2104 2) :=
    .ite (((s.withTilth_within _).next (State.bump_within _ _ _)).widen (by decide))
      (.ite ((read.next (State.bump_within _ _ _)).widen (by decide)) ((read.next (State.bump_within _ _ _)).widen (by decide)))
  exact (found.next (State.pinOrEnd_within _ _ _)).widen (by decide)

end

end Sys2Proof.Machine

/-! ## Badge sessions checked, refused and confirmed (R111, R112, R115, R116, R118) -/

namespace Sys2Proof.Machine

section
variable (s : State) (n : Nat)

theorem State.noteRefusal_within : Within [.tilth, .dict] [0x2312] s (s.noteRefusal n) := by
  have counted : Within [.tilth, .dict] [0x2312] s (s.bump 0x2312 3) := (s.bump_within _ _).widen (by decide)
  unfold State.noteRefusal
  dsimp only
  split
  · exact (counted.next (State.setApproach_within _ _ _)).widen (by decide)
  · exact counted

theorem State.refuseBadge_within (c : Code) : Within endParts (0x2312 :: endObjects) s (s.refuseBadge n c) :=
  ((s.noteRefusal_within n).next (State.finish_within _ _ _)).widen (by decide)

theorem State.suspect_within (credId : Nat) : Within [.net, .ledger, .logs, .dict] [0x2312, 0x2B32] s (s.suspect n credId) :=
  ((s.bump_within _ _).next (State.alarm_within _ _ _ _)).widen (by decide)

theorem State.proofFails_within (i credId : Nat) :
    Within [.tilth, .net, .ledger, .logs, .dict] [0x2312, 0x2B32] s (s.proofFails n i credId) := by
  unfold State.proofFails
  refine (State.beginThrough_within _ _ _).step ((State.noteRefusal_within _ _).step ?_ (by decide) (by decide)) (by decide) (by decide)
  exact .ite ((s.suspect_within n credId).widen (by decide)) (.refl _ _ _)

theorem State.toneRegister_within (b : Badge) (tk : Bytes) : Within [.cipher, .dict] [0x2903, 0x2940] s (s.toneRegister n b tk) :=
  .ite ((s.allocRegister_within _ _ _).widen (by decide)) (((s.deriveKey_within _ _ _).next (State.gcm_within _ _)).widen (by decide))

theorem State.confirm_within (a : Approach) (b : Badge) : Within endParts (0x2903 :: endObjects) s (s.confirm n a b) := by
  unfold State.confirm
  refine .ite ((s.finish_within n _).widen (by decide)) ?_
  exact (((s.setBadge_within _ _).next (State.toneRegister_within _ _ _ _)).next
    (State.prepare_within _ _ _ _ _ _)).widen (by decide)

theorem State.acceptBadge_within (p : Nat) (a : Approach) (b : Badge) :
    Within endParts (0x2903 :: endObjects) s (s.acceptBadge n p a b) :=
  (((s.setApproach_within _ _).next (State.event_within _ _ _ _)).next (State.confirm_within _ _ _ _)).widen (by decide)

/-- The objects that the check of a RESPONSE may write beside those of the end of a session. -/
abbrev responseObjects : List Nat := 0x2104 :: 0x2312 :: 0x2903 :: 0x2B32 :: endObjects

theorem State.checkResponse_within (p : Nat) (a : Approach) (b : Badge) (payload : Bytes) :
    Within endParts responseObjects s (s.checkResponse n p a b payload) := by
  have looked : ∀ i f, Within endParts responseObjects s ((s.lookupNow n i).setBadge n f) := fun i f =>
    ((s.lookupNow_within n i).next (State.setBadge_within _ _ _)).widen (by decide)
  unfold State.checkResponse
  split
  · exact (s.refuseBadge_within n _).widen (by decide)
  · dsimp only
    split
    · exact ((looked _ _).next (State.refuseBadge_within _ _ _)).widen (by decide)
    · refine .ite (looked _ _) (.ite (((looked _ _).next (State.refuseBadge_within _ _ _)).widen (by decide)) (.ite ?_ ?_))
      · exact ((((looked _ _).next (State.deriveKey_within _ _ _ _)).next (State.gcm_within _ _)).next
          (State.acceptBadge_within _ _ _ _ _)).widen (by decide)
      · exact (((((looked _ _).next (State.deriveKey_within _ _ _ _)).next (State.gcm_within _ _)).next (State.tagFailed_within _)).next
          (State.proofFails_within _ _ _ _)).widen (by decide)

theorem State.response_within (p : Nat) (a : Approach) (b : Badge) (payload : Bytes) :
    Within endParts (0x2904 :: responseObjects) s (s.response n p a b payload) := by
  unfold State.response
  split
  · exact (((s.gcmOpened_within _).next (State.tagFailed_within _)).next (State.refuseBadge_within _ _ _)).widen (by decide)
  · exact ((((s.gcmOpened_within _).next (State.setBadge_within _ _ _)).next (State.deriveKey_within _ _ _ _)).next
      (State.checkResponse_within _ _ _ _ _ _)).widen (by decide)

theorem State.acceptLegacy_within (i : Nat) (b : Badge) (cnt : Bytes) : Within [.tilth] [] s (s.acceptLegacy n i b cnt) :=
  ((s.setBadge_within _ _).next (State.beginThrough_within _ _ _)).widen (by decide)

theorem State.legacyResponse_within (a : Approach) (b : Badge) (payload : Bytes) :
    Within endParts (0x2104 :: 0x2312 :: 0x2903 :: endObjects) s (s.legacyResponse n a b payload) := by
  have keyed : ∀ f l v o k w, Within endParts (0x2104 :: 0x2312 :: 0x2903 :: endObjects) s
      (((s.setBadge n f).deriveKey o l v).allocRegister o k w) := fun f l v o k w =>
    (((s.setBadge_within _ _).next (State.deriveKey_within _ _ _ _)).next (State.allocRegister_within _ _ _ _)).widen (by decide)
  have looked : ∀ f l v o k w i g, Within endParts (0x2104 :: 0x2312 :: 0x2903 :: endObjects) s
      (((((s.setBadge n f).deriveKey o l v).allocRegister o k w).lookupNow n i).setBadge n g) := fun f l v o k w i g =>
    (((keyed f l v o k w).next (State.lookupNow_within _ _ _)).next (State.setBadge_within _ _ _)).widen (by decide)
  unfold State.legacyResponse
  dsimp only
  split
  · exact (((keyed _ _ _ _ _ _).next (State.tagFailed_within _)).next (State.refuseBadge_within _ _ _)).widen (by decide)
  · split
    · exact ((keyed _ _ _ _ _ _).next (State.refuseBadge_within _ _ _)).widen (by decide)
    · split
      · exact ((looked _ _ _ _ _ _ _ _).next (State.refuseBadge_within _ _ _)).widen (by decide)
      · exact .ite (looked _ _ _ _ _ _ _ _) (.ite (((looked _ _ _ _ _ _ _ _).next (State.refuseBadge_within _ _ _)).widen (by decide))
          (.ite (((looked _ _ _ _ _ _ _ _).next (State.refuseBadge_within _ _ _)).widen (by decide))
            (((looked _ _ _ _ _ _ _ _).next (State.acceptLegacy_within _ _ _ _ _)).widen (by decide))))

theorem State.advanceBadge_within : Within [.tilth, .dict] [0x2940] s (s.advanceBadge n) := by
  unfold State.advanceBadge
  split
  · exact .refl _ _ _
  · refine .ite (.refl _ _ _) ?_
    split
    · exact ((((s.gcm_within _).next (State.setBadge_within _ _ _)).next (State.prepare_within _ _ _ _ _ _)).next
        (State.nameRf_within _ _ _)).widen (by decide)
    · exact ((s.setBadge_within _ _).next (State.makeReadyOutside_within _ _ _ _)).widen (by decide)
    · exact .refl _ _ _

theorem State.sendOutcome_within (a : Approach) (b : Badge) (code : Byte) (result : Code) (uses : Bool) :
    Within [.tilth, .dict] [0x2940] s (s.sendOutcome n a b code result uses) :=
  (((s.gcm_within _).next (State.setBadge_within _ _ _)).next (State.prepare_within _ _ _ _ _ _)).widen (by decide)

/-- The objects that a VREPORT may write beside those of the end of a session. -/
abbrev reportObjects : List Nat := 0x2312 :: 0x2440 :: 0x2460 :: 0x2904 :: endObjects

/-- A report that does not fit leaves the state before its reception (R105, R114). -/
theorem State.takeReport_within {t : State} (h : Within endParts reportObjects s t) (a : Approach) (body : Bytes) :
    Within endParts reportObjects s (s.takeReport t n a body) :=
  .ite ((h.next (State.refuseBadge_within _ _ _)).widen (by decide)) (.ite (.refl _ _ _)
    (((h.next (State.setBadge_within _ _ _)).next (State.makeReady_within _ _ _ _)).widen (by decide)))

end

/-! ## The radio (R134 to R151) -/

section
variable (s : State)

theorem State.setSynth_within (f : SynthCal → SynthCal) : Within [.radio] [] s (s.setSynth f) := s.withRadio_within _

theorem State.beginSynthCal_within : Within [.radio] [] s s.beginSynthCal := s.setSynth_within _

theorem ownSynthCalibrate_within (value : Bytes) : Within [.radio] [] s (ownSynthCalibrate value s).1 := by
  unfold ownSynthCalibrate
  split
  · exact .refl _ _ _
  · split
    · exact .refl _ _ _
    · exact .ite (((s.setSynth_within _).next (State.beginSynthCal_within _)).widen (by decide)) (s.setSynth_within _)

theorem State.synthDue_within : Within [.radio, .ledger, .logs, .dict] [0x2421] s s.synthDue :=
  .ite (.refl _ _ _) (.ite
    ((((s.setSynth_within _).next (State.putNum_within _ _ _ _)).next (State.event_within _ _ _ _)).widen (by decide))
    (s.beginSynthCal_within.widen (by decide)))

theorem State.dieReads_within (tempDeci : Int) : Within [.power, .hardpan] [] s (s.dieReads tempDeci) :=
  .of_only (fun p => by cases p with | power | hardpan => exact .inl (by decide) | _ => exact .inr rfl) rfl

theorem State.radioTemp_within (tempDeci : Int) :
    Within [.radio, .ledger, .power, .hardpan, .logs, .dict] [0x2400, 0x2421] s (s.radioTemp tempDeci) := by
  have reads : Within [.radio, .ledger, .power, .hardpan, .logs, .dict] [0x2400, 0x2421] s
      ((s.dieReads tempDeci).putInt 0x2400 3 tempDeci) :=
    ((s.dieReads_within _).next (State.putInt_within _ _ _ _)).widen (by decide)
  exact .ite ((reads.next (State.synthDue_within _)).widen (by decide)) reads

theorem State.synthOk_within (bands : List (Nat × Nat)) (tempDeci : Int) :
    Within [.radio, .ledger, .logs, .dict] [0x2404, 0x2421] s (s.synthOk bands tempDeci) :=
  (((((s.withRadio_within _).next (State.putCode_within _ _ _ _)).next (State.putNum_within _ _ _ _)).next
    (State.putNum_within _ _ _ _)).next (State.event_within _ _ _ _)).widen (by decide)

theorem State.synthFail_within : Within [.radio, .net, .ledger, .logs, .dict] [0x2421, 0x2B32] s s.synthFail :=
  (((s.withRadio_within _).next (State.putCode_within _ _ _ _)).next (State.raise_within _ _ _ _)).widen (by decide)

theorem State.bgKeep_within (b : BgCal) (f : BgFound) : Within [.radio, .dict] [0x2404] s (s.bgKeep b f) := by
  have valid : Within [.radio, .dict] [0x2404] s (s.putNum 0x2404 2 (s.num 0x2404 2 ||| 2 ^ bgValidBit b)) :=
    (s.putNum_within _ _ _).widen (by decide)
  cases b with
  | iqImage => exact ((valid.next (State.putNum_within _ _ _ _)).next (State.withRadio_within _ _)).widen (by decide)
  | paDetector => exact (valid.next (State.withRadio_within _ _)).widen (by decide)
  | dcOffset | rssiOffset => exact valid

theorem State.bgRun_within (b : BgCal) (passed : Bool) (tempDeci : Int) (f : BgFound) :
    Within [.radio, .ledger, .logs, .dict] [0x2404, 0x2423] s (s.bgRun b passed tempDeci f) := by
  unfold State.bgRun
  dsimp only
  split
  · exact (((s.withRadio_within _).next (State.bump_within _ _ _)).next (State.bgKeep_within _ _ _)).widen (by decide)
  · exact (((s.withRadio_within _).next (State.bump_within _ _ _)).next (State.event_within _ _ _ _)).widen (by decide)

theorem State.airNow_within : Within [.radio] [] s s.airNow := s.withRadio_within _

theorem State.endRaw_within (c : Code) : Within [.radio, .dict] [0x2451] s (s.endRaw c) :=
  ((s.airNow_within.next (State.withRadio_within _ _)).next (State.putCode_within _ _ _ _)).widen (by decide)

theorem State.loseAir_within (a : Air) : Within endParts (0x2460 :: endObjects) s (s.loseAir a) := by
  have left : Within endParts (0x2460 :: endObjects) s s.leaveAir := s.leaveAir_within.widen (by decide)
  unfold State.loseAir
  refine .ite (.refl _ _ _) ?_
  split
  · exact .ite ((left.next (State.retryStep_within _ _)).widen (by decide)) ((s.bump_within _ _).widen (by decide))
  · exact (left.next (State.finish_within _ _ _)).widen (by decide)

theorem State.loseGrant_within : Within endParts (0x2451 :: 0x2460 :: endObjects) s s.loseGrant := by
  unfold State.loseGrant
  split
  · exact .ite (.refl _ _ _) (.ite ((s.endRaw_within _).widen (by decide)) ((s.bump_within _ _).widen (by decide)))
  · exact (s.loseAir_within _).widen (by decide)
  · exact .refl _ _ _

theorem State.maskRate_within : Within [.radio, .ledger, .logs] [] s s.maskRate :=
  .ite (((s.withRadio_within _).next (State.event_within _ _ _ _)).widen (by decide))
    ((s.withRadio_within _).widen (by decide))

theorem State.stopRaw_within (c : RawCommand) : Within [.radio, .dict] [0x2451] s (s.stopRaw c) := by
  unfold State.stopRaw
  dsimp only
  refine .ite (s.endRaw_within _) ?_
  split
  · exact (s.withRadio_within _).widen (by decide)
  · exact (s.withRadio_within _).widen (by decide)
  · exact s.endRaw_within _

theorem ownRawStop_within : Within [.radio, .dict] [0x2451] s (ownRawStop s).1 := by
  have reports : ∀ c, Within [.radio, .dict] [0x2451] s (s.putCode 0x2451 1 c) := fun c =>
    (s.putCode_within _ _ _).widen (by decide)
  unfold ownRawStop
  split
  · exact reports _
  · split
    · exact s.stopRaw_within _
    · exact reports _

theorem ownRaw_within (c : RawCommand) : Within [.radio, .ledger, .power, .logs, .dict] [0x2451] s (ownRaw c s).1 := by
  unfold ownRaw
  split
  · exact .ite (.refl _ _ _) ((s.putCode_within _ _ _).widen (by decide))
  · exact (((s.withRadio_within _).next (State.firstAccess_within _ _ _)).next (State.putCode_within _ _ _ _)).widen (by decide)

/-- What a raw command leaves at its end: its results and counts (R130, R149). -/
theorem State.rawResult_within (c : RawCommand) (o : RawEnd) :
    Within [.radio, .dict] [0x2440, 0x2441, 0x2451, 0x2452, 0x2460] s (s.rawResult c o) := by
  have ended : Within [.radio, .dict] [0x2440, 0x2441, 0x2451, 0x2452, 0x2460] s (s.endRaw Rc.ok) :=
    (s.endRaw_within _).widen (by decide)
  unfold State.rawResult
  split
  · dsimp only
    have counted : ∀ a b v k m, Within [.radio, .dict] [0x2440, 0x2441, 0x2451, 0x2452, 0x2460] s
        ((((((s.endRaw Rc.ok).putNum 0x2451 3 a).putNum 0x2451 4 b).put 0x2451 5 v).count 0x2460 2 k).count 0x2460 3 m) :=
      fun a b v k m => (((((ended.next (State.putNum_within _ _ _ _)).next (State.putNum_within _ _ _ _)).next
        (State.put_within _ _ _ _)).next (State.count_within _ _ _ _)).next (State.count_within _ _ _ _)).widen (by decide)
    exact .ite (counted _ _ _ _ _) (((counted _ _ _ _ _).next (State.putInt_within _ _ _ _)).widen (by decide))
  · exact (ended.next (State.put_within _ _ _ _)).widen (by decide)
  · exact (ended.next (State.put_within _ _ _ _)).widen (by decide)
  · exact (ended.next (State.count_within _ _ _ _)).widen (by decide)
  · exact ended
  · exact ended
  · exact .refl _ _ _

end

/-! ## Ranging (R156, R163, R165) -/

section
variable (s : State) (n : Nat)

theorem ownToneMask_within (value : Bytes) : Within [.dict] [0x2501] s (ownToneMask value s).1 := by
  unfold ownToneMask
  split
  · exact .refl _ _ _
  · exact s.put_within _ _ _

theorem State.hearEchoes_within (echoes : List (Option ProbeEcho)) :
    Within [.radio, .dict] [0x2440, 0x2460] s (s.hearEchoes echoes) := by
  refine .foldl (fun u e => ?_) _ s
  split
  · exact .ite (u.hears_within _) ((u.bump_within _ _).widen (by decide))
  · exact .refl _ _ _

theorem State.writeVerdict_within (m : Measured) (v : Code) (credId : Nat) :
    Within [.dict, .free] [0x2500, 0x2530] s (s.writeVerdict m v credId) := by
  have judged : ∀ a b c d e f, Within [.dict, .free] [0x2500, 0x2530] s ((((((s.putCode 0x2500 1 a).putNum 0x2500 2 b).putNum 0x2500 3
      c).putInt 0x2500 4 d).putNum 0x2500 5 e).putNum 0x2500 6 f) := fun a b c d e f =>
    ((((((s.putCode_within _ _ _).next (State.putNum_within _ _ _ _)).next (State.putNum_within _ _ _ _)).next
      (State.putInt_within _ _ _ _)).next (State.putNum_within _ _ _ _)).next (State.putNum_within _ _ _ _)).widen (by decide)
  unfold State.writeVerdict
  dsimp only
  refine (State.bump_within _ _ _).step ((State.used_within _ _).step ((State.putNum_within _ _ _ _).step ?_
    (by decide) (by decide)) (by decide) (by decide)) (by decide) (by decide)
  split <;> exact (((judged _ _ _ _ _ _).next (State.put_within _ _ _ _)).next (State.putNum_within _ _ _ _)).widen (by decide)

theorem State.qualify_within (p : Nat) (a : Approach) (b : Badge) : Within [.tilth, .dict] [0x2940] s (s.qualify n p a b) := by
  have noted : ∀ f, Within [.tilth, .dict] [0x2940] s (s.setApproach p f) := fun f =>
    (s.setApproach_within _ _).widen (by decide)
  exact .ite (((noted _).next (State.sendOutcome_within _ _ _ _ _ _ _)).widen (by decide))
    (((((noted _).next (State.setBadge_within _ _ _)).next (State.await_within _ _)).next
      (State.makeReadyOutside_within _ _ _ _)).widen (by decide))

theorem State.disqualify_within (p : Nat) (a : Approach) (b : Badge) (v : Code) :
    Within [.tilth, .net, .ledger, .logs, .dict] [0x2312, 0x2940, 0x2B32] s (s.disqualify n p a b v) := by
  have noted : ∀ f, Within [.tilth, .net, .ledger, .logs, .dict] [0x2312, 0x2940, 0x2B32] s
      ((s.bump 0x2312 3).setApproach p f) := fun f => ((s.bump_within _ _).next (State.setApproach_within _ _ _)).widen (by decide)
  unfold State.disqualify
  dsimp only
  split
  · exact ((((noted _).next (State.suspect_within _ _ _)).next (State.setBadge_within _ _ _)).next
      (State.beginThrough_within _ _ _)).widen (by decide)
  · exact ((noted _).next (State.sendOutcome_within _ _ _ _ _ _ _)).widen (by decide)

theorem State.commitVerdict_within (p : Nat) (a : Approach) (b : Badge) (m : Measured) :
    Within [.tilth, .net, .ledger, .logs, .dict, .free] [0x2312, 0x2500, 0x2530, 0x2940, 0x2B32] s (s.commitVerdict n p a b m) := by
  have logged : ∀ v d, Within [.tilth, .net, .ledger, .logs, .dict, .free] [0x2312, 0x2500, 0x2530, 0x2940, 0x2B32] s
      ((s.writeVerdict m v b.credId).event Ev.verdictCommitted n d) := fun v d =>
    ((s.writeVerdict_within _ _ _).next (State.event_within _ _ _ _)).widen (by decide)
  exact .ite (((logged _ _).next (State.qualify_within _ _ _ _ _)).widen (by decide))
    (((logged _ _).next (State.disqualify_within _ _ _ _ _ _)).widen (by decide))

end

end Sys2Proof.Machine

/-! ## The vehicle exchange (R185 to R200) -/

namespace Sys2Proof.Machine

section
variable (s : State) (n : Nat) (x : Exchange)

theorem State.refuseExchange_within (c : Code) : Within (.vehicle :: endParts) (0x2611 :: endObjects) s (s.refuseExchange n x c) :=
  ((s.setOutbound_within _ _).next (State.finish_within _ _ _)).widen (by decide)

theorem State.challengeFallback_within : Within [.tilth, .vehicle, .dict] [0x2611, 0x2630] s (s.challengeFallback n x) :=
  ((s.bump_within _ _).next (State.challengeVehicle_within _ _ _ _ _)).widen (by decide)

theorem State.drawChallenge_within (turn : Bool) :
    Within (.vehicle :: .power :: endParts) (0x2611 :: 0x2630 :: endObjects) s (s.drawChallenge n x turn) := by
  have fallback : Within (.vehicle :: .power :: endParts) (0x2611 :: 0x2630 :: endObjects) s (s.challengeFallback n x) :=
    (s.challengeFallback_within n x).widen (by decide)
  have refuse : ∀ c, Within (.vehicle :: .power :: endParts) (0x2611 :: 0x2630 :: endObjects) s (s.refuseExchange n x c) := fun c =>
    (s.refuseExchange_within n x c).widen (by decide)
  unfold State.drawChallenge
  split
  · exact (((s.used_within _).next (State.countCall_within _ _)).next (State.challengeVehicle_within _ _ _ _ _)).widen (by decide)
  · exact fallback
  · exact .ite (((s.setExchange_within _ _).next (State.waitDraw_within _ _ _)).widen (by decide)) (.ite (refuse _) fallback)
  · exact refuse _

theorem State.checkRequest_within (msg : Bytes) :
    Within (.vehicle :: .power :: endParts) (0x2104 :: 0x2611 :: 0x2630 :: endObjects) s (s.checkRequest n x msg) := by
  have refuse : ∀ c, Within (.vehicle :: .power :: endParts) (0x2104 :: 0x2611 :: 0x2630 :: endObjects) s
      (s.refuseExchange n x c) := fun c => (s.refuseExchange_within n x c).widen (by decide)
  unfold State.checkRequest
  refine .ite (refuse _) (.ite (refuse _) (.ite (refuse _) ?_))
  split
  · exact refuse _
  · dsimp only
    have looked : ∀ i : Option Nat, Within (.vehicle :: .power :: endParts) (0x2104 :: 0x2611 :: 0x2630 :: endObjects) s
        (match i with | some i => s.lookupNow n i | none => s) := fun i => by
      cases i with
      | none => exact .refl _ _ _
      | some i => exact (s.lookupNow_within n i).widen (by decide)
    exact .ite (looked _) (((looked _).next (State.drawChallenge_within _ _ _ _)).widen (by decide))

/-- The watermark of clods: its marks, its event with EMCY, and the lowest F (R54). -/
theorem State.watermark_within : Within [.tilth, .net, .ledger, .logs, .dict] [0x2103, 0x2B32] s s.watermark := by
  have low : Within [.tilth, .net, .ledger, .logs, .dict] [0x2103, 0x2B32] s
      (s.putNum 0x2103 3 (min (s.num 0x2103 3) (512 - s.tilth.clodsHeld))) := (s.putNum_within _ _ _).widen (by decide)
  unfold State.watermark
  dsimp only
  generalize s.putNum 0x2103 3 (min (s.num 0x2103 3) (512 - s.tilth.clodsHeld)) = a at low
  have warned : Within [.tilth, .net, .ledger, .logs, .dict] [0x2103, 0x2B32] s
      (if s.tilth.freeClods < s.seenNum 0x2103 2 ∧ (!a.tilth.clodLow) = true then
        ({ a with tilth := { a.tilth with clodLow := true } } : State).alarm Ev.clodLow 0 [] else a) :=
    .ite (((low.next (State.withTilth_within _ _)).next (State.alarm_within _ _ _ _)).widen (by decide)) low
  generalize (if s.tilth.freeClods < s.seenNum 0x2103 2 ∧ (!a.tilth.clodLow) = true then
    ({ a with tilth := { a.tilth with clodLow := true } } : State).alarm Ev.clodLow 0 [] else a) = b at warned
  have shut : Within [.tilth, .net, .ledger, .logs, .dict] [0x2103, 0x2B32] s
      (if 2 * s.tilth.freeClods < s.seenNum 0x2103 2 then { b with tilth := { b.tilth with clodShut := true } } else b) :=
    .ite ((warned.next (State.withTilth_within _ _)).widen (by decide)) warned
  exact .ite (((shut.next (State.withTilth_within _ _)).next (State.event_within _ _ _ _)).widen (by decide)) shut

/-- An admission that does not wait changes the table of slots alone (R41). -/
theorem State.admitNow_within {s t : State} {k : SessionKind} {work : Work} {n : Nat} (h : s.admitNow k work = some (n, t)) :
    Within [.tilth] [] s t := by
  unfold State.admitNow at h
  split at h
  · obtain ⟨m, -, he⟩ := Option.map_eq_some_iff.1 h
    cases he
    exact s.setSlot_within _ _
  · cases h

/-- The parts and the objects that a REQUEST may change. -/
abbrev requestParts : List Part := .vehicle :: .power :: endParts
abbrev requestObjects : List Nat := 0x2102 :: 0x2103 :: 0x2104 :: 0x2611 :: 0x2630 :: 0x2B32 :: endObjects

theorem State.reportExchange_records (cid op : Nat) (c : Code) : Within [.dict] [0x2601] s (s.reportExchange cid op c) :=
  (((s.putCode_within _ _ _).next (State.putNum_within _ _ _ _)).next (State.putNum_within _ _ _ _)).widen (by decide)

theorem State.request_within (port : Port) (c : Carrier) (msg : Bytes) : Within requestParts requestObjects s (s.request port c msg) := by
  have superseded : Within requestParts requestObjects s
      (match s.exchangeOn c with | some m => s.finish m Rc.exchangeSuperseded | none => s) := by
    split
    · exact (s.finish_within _ _).widen (by decide)
    · exact .refl _ _ _
  unfold State.request
  dsimp only
  split
  · next hadmit =>
    exact (((((superseded.next (State.admitNow_within hadmit)).next (State.setOutbound_within _ _ _)).next
      (State.firstAccess_within _ _ _)).next (State.checkRequest_within _ _ _ _)).next (State.watermark_within _)).widen (by decide)
  · exact (((superseded.next (State.bump_within _ _ _)).next (State.setOutbound_within _ _ _)).next
      (State.reportExchange_records _ _ _ _)).widen (by decide)

theorem State.she_within (k : Nat) : Within [.dict] [0x2A00] s (s.she k) := s.count_within _ _ _

theorem State.sheSigned_within : Within [.rng, .dict] [0x2A00] s s.sheSigned := by
  have signed : Within [.rng, .dict] [0x2A00] s (s.she 1) := (s.she_within _).widen (by decide)
  exact .ite ((signed.next (State.bump_within _ _ _)).widen (by decide)) ((signed.next (State.countCall_within _ _)).widen (by decide))

theorem State.deriveExchange_within : Within [.cipher, .dict] [0x2903, 0x2940, 0x2A00] s (s.deriveExchange n x).1 := by
  unfold State.deriveExchange
  split
  · exact (s.she_within _).widen (by decide)
  · exact (((s.deriveKey_within _ _ _).next (State.deriveKey_within _ _ _ _)).next (State.gcm_within _ _)).widen (by decide)

theorem State.countFailure_within (i : Nat) : Within [.tilth, .net, .ledger, .logs, .dict] [0x2B32] s (s.countFailure n i) := by
  unfold State.countFailure
  refine (State.beginThrough_within _ _ _).step ?_ (by decide) (by decide)
  exact .ite ((s.alarm_within _ _ _).widen (by decide)) (.refl _ _ _)

/-- The parts and the objects that a RESPONSE may change. -/
abbrev answerParts : List Part := .vehicle :: endParts
abbrev answerObjects : List Nat := 0x2611 :: 0x2903 :: 0x2A00 :: 0x2B32 :: endObjects

theorem State.exchangeAuthFail_within : Within answerParts answerObjects s (s.exchangeAuthFail n x) := by
  unfold State.exchangeAuthFail
  split
  · exact (((s.setExchange_within _ _).next (State.tagFailed_within _)).next (State.countFailure_within _ _ _)).widen (by decide)
  · exact (s.refuseExchange_within _ _ _).widen (by decide)

theorem State.acknowledge_within (c : Code) : Within answerParts answerObjects s (s.acknowledge n x c) := by
  have counted : Within answerParts answerObjects s (if x.site = true then s.sheSigned else s.gcm 1) :=
    .ite (s.sheSigned_within.widen (by decide)) ((s.gcm_within _).widen (by decide))
  have sent : ∀ y m, Within answerParts answerObjects s
      (((if x.site = true then s.sheSigned else s.gcm 1).setExchange n y).setOutbound x.carrier m) := fun y m =>
    ((counted.next (State.setExchange_within _ _ _)).next (State.setOutbound_within _ _ _)).widen (by decide)
  unfold State.acknowledge
  dsimp only
  split
  · exact ((sent _ _).next (State.beginThrough_within _ _ _)).widen (by decide)
  · exact ((sent _ _).next (State.finish_within _ _ _)).widen (by decide)

theorem State.propose_within (p : Proposal) : Within [.tilth] [] s (s.propose p) := s.withTilth_within _

theorem State.logRefusal_within (c : Code) : Within [.net, .ledger, .logs, .dict] [0x2B32] s (s.logRefusal n c) :=
  .ite ((s.alarm_within _ _ _).widen (by decide)) ((s.event_within _ _ _).widen (by decide))

theorem State.tryRelease_within : Within answerParts answerObjects s (s.tryRelease n x) := by
  unfold State.tryRelease
  refine .ite (s.acknowledge_within _ _ _) ?_
  split
  · exact ((s.logRefusal_within _ _).next (State.acknowledge_within _ _ _ _)).widen (by decide)
  · exact (s.propose_within _).widen (by decide)

theorem State.authenticated_within : Within answerParts answerObjects s (s.authenticated n x) := by
  have taken : ∀ y, Within answerParts answerObjects s (s.setExchange n y) := fun y =>
    (s.setExchange_within n y).widen (by decide)
  have cleared : ∀ y c, Within answerParts answerObjects s ((s.setExchange n y).setOutbound c []) := fun y c =>
    ((taken y).next (State.setOutbound_within _ _ _)).widen (by decide)
  unfold State.authenticated
  cases x.carrier <;> cases x.op
  case pdo.status => exact ((taken _).next (State.acknowledge_within _ _ _ _)).widen (by decide)
  case pdo.stop => exact ((taken _).next (State.propose_within _ _)).widen (by decide)
  case pdo.release => exact ((taken _).next (State.tryRelease_within _ _ _)).widen (by decide)
  case usdo.status => exact ((cleared _ _).next (State.acknowledge_within _ _ _ _)).widen (by decide)
  case usdo.stop => exact ((cleared _ _).next (State.propose_within _ _)).widen (by decide)
  case usdo.release => exact ((cleared _ _).next (State.tryRelease_within _ _ _)).widen (by decide)

theorem State.checkExchange_within (msg : Bytes) : Within answerParts answerObjects s (s.checkExchange n x msg) := by
  have refuse : ∀ c, Within answerParts answerObjects s (s.refuseExchange n x c) := fun c =>
    (s.refuseExchange_within n x c).widen (by decide)
  have derived : Within answerParts answerObjects s (s.deriveExchange n x).1 := (s.deriveExchange_within n x).widen (by decide)
  unfold State.checkExchange
  refine .ite (refuse _) (.ite (refuse _) ?_)
  split
  · exact refuse _
  · dsimp only
    split
    · exact (derived.next (State.exchangeAuthFail_within _ _ _)).widen (by decide)
    · exact .ite ((derived.next (State.authenticated_within _ _ _)).widen (by decide))
        ((derived.next (State.exchangeAuthFail_within _ _ _)).widen (by decide))

theorem State.respond_within (c : Carrier) (msg : Bytes) : Within answerParts answerObjects s (s.respond c msg) := by
  unfold State.respond
  split
  · split
    · exact .ite (.ite ((s.refuseExchange_within _ _ _).widen (by decide)) (s.checkExchange_within _ _ _)) (.refl _ _ _)
    · exact .refl _ _ _
  · exact .refl _ _ _

theorem State.responseLate_within (c : Carrier) : Within (.vehicle :: endParts) (0x2611 :: endObjects) s (s.responseLate c n x) := by
  unfold State.responseLate
  refine .ite ((State.finish_within _ _ _).step ?_ (by decide) (by decide)) (.refl _ _ _)
  split
  · exact .refl _ _ _
  · exact (s.setOutbound_within _ _).widen (by decide)

end

/-! ## A host's write as its own rule leaves it (R351, R353, R450) -/

section
variable {s : State} {ps : List Part} {os : List Nat}

/-- The end of a transfer, with the session its server may hold. -/
theorem State.endTransfer_closes (s : State) (via : Via) (session : Bool) (c : Code) (abort : Nat) :
    Within [.tilth, .lf, .radio, .cipher, .rng, .net, .bridge, .dict] [0x2102, 0x2103, 0x2B30] s (s.endTransfer via session c abort) := by
  unfold State.endTransfer
  refine (State.putCode_within _ _ _ _).step ((State.setServer_within _ _ _).step ?_ (by decide) (by decide)) (by decide) (by decide)
  split
  · exact (s.endSession_within _ _).widen (by decide)
  · refine .ite ?_ (.refl _ _ _)
    split
    · exact (s.markOneAccess_within.next (State.setSlot_within _ _ _)).widen (by decide)
    · exact .refl _ _ _

/-- A write to an entry that is not sealed is refused by the checks, or is what its own rule leaves (R450). -/
theorem State.write_unsealed {idx sub : Nat} (hx : isSealed idx sub = false) (value : Bytes) (own : Own) :
    (s.write idx sub value own).1 = s ∨ s.write idx sub value own = own s := by
  unfold State.write
  split
  · exact .inl rfl
  · exact .inr (by simp [hx])

/-- A host's write on a fresh server, to an entry that is not sealed and needs no session: what its own rule leaves, its server's result and
nothing else, where the rule leaves the network alone. -/
theorem State.hostWrite_plain_within {via : Via} {idx sub : Nat} {value : Bytes} {own : Own} (hf : Fresh s via)
    (hx : isSealed idx sub = false) (hn : needsSession (entryRow? idx sub) = false) (ho : Within ps os s (own s).1)
    (hnet : Part.net ∉ ps) : Within (.net :: .dict :: ps) (0x2B30 :: os) s (s.hostWrite via idx sub value own) := by
  unfold State.hostWrite
  refine .ite (.refl _ _ _) ?_
  have hwrite : Within ps os s (s.write idx sub value own).1 := by
    rcases State.write_unsealed (s := s) hx value own with h | h <;> rw [h]
    · exact .refl _ _ _
    · exact ho
  have hslot : ((s.write idx sub value own).1.server via.srv).slot = none := by
    have := hwrite.1.get .net hnet
    have hs := hf.2
    unfold State.server at hs ⊢; rwa [this]
  simp only [State.supersede_fresh hf, hn, Bool.false_and]
  exact (State.endTransfer_plain hslot _ _).step (hwrite.mono (fun p hp => by simp [hp]) (fun o h => by simp [h])) (by simp) (by simp)

/-- The parts and the objects that a host's access may change beside its own rule's, with what it ends of the server's old content and
session (R351, R353). -/
abbrev accessParts : List Part := [.tilth, .lf, .radio, .cipher, .sig, .rng, .net, .bridge, .ledger, .logs, .dict, .free]
abbrev accessObjects : List Nat := [0x2102, 0x2103, 0x2940, 0x2A30, 0x2B30, 0x2C50, 0x2D60]

/-- A host's write to an entry that is not sealed: what its own rule leaves, in the frame of the rule and the access. -/
theorem State.hostWrite_access_within {idx sub : Nat} (hx : isSealed idx sub = false) {own : Own} (ho : ∀ u, Within ps os u (own u).1)
    (hp : ∀ p ∈ accessParts, p ∈ ps) (hos : ∀ o ∈ accessObjects, o ∈ os) (s : State) (via : Via) (value : Bytes) :
    Within ps os s (s.hostWrite via idx sub value own) := by
  have hend : ∀ u b c a, Within ps os u (State.endTransfer u via b c a) := fun u b c a =>
    (u.endTransfer_closes via b c a).mono (fun p h => hp p (by revert p; decide)) (fun o h => hos o (by revert o; decide))
  have hsup : Within ps os s (s.supersede via.srv) :=
    (s.supersede_within via.srv).mono (fun p h => hp p (by revert p; decide)) (fun o h => hos o (by revert o; decide))
  have hwrite : ∀ u : State, Within ps os u (u.write idx sub value own).1 := fun u => by
    rcases State.write_unsealed (s := u) hx value own with h | h <;> rw [h]
    · exact .refl _ _ _
    · exact ho u
  have hbusy : ∀ u : State, Within ps os u (u.bump 0x2102 3) := fun u =>
    (u.bump_within _ _).mono (fun p h => hp p (by revert p; decide)) (fun o h => hos o (by revert o; decide))
  unfold State.hostWrite
  exact .ite (.refl _ _ _) (.ite ((hsup.trans (hbusy _)).trans (hend _ _ _ _)) ((hsup.trans (hwrite _)).trans (hend _ _ _ _)))

end

end Sys2Proof.Machine

/-! ## The lock, the lands and the panel (R174, R181, R182, R204, R206) -/

namespace Sys2Proof.Machine

section
variable (s : State)

/-- The queue is no part of a frame. -/
theorem Within.withPending {s t : State} {ps : List Part} {os : List Nat} (h : Within ps os s t) (l : List Instr) :
    Within ps os s { t with pending := l } := ⟨fun p => (h.1 p).imp_right fun a => by cases p <;> exact a, h.2⟩

theorem State.withhold_within (cause : Nat) :
    Within [.tilth, .lock, .vehicle, .net, .ledger, .logs, .dict] [0x2102, 0x2600, 0x2B32] s (s.withhold cause) := by
  have off : ∀ v, Within [.tilth, .lock, .vehicle, .net, .ledger, .logs, .dict] [0x2102, 0x2600, 0x2B32] s
      (({ s with lock := s.lockOff cause, vehicle := v } : State).bump 0x2600 6) := fun v =>
    (((s.withLock_within (s.lockOff cause)).next (State.withVehicle_within _ v)).next (State.bump_within _ _ _)).widen (by decide)
  unfold State.withhold
  refine (State.withLock_within _ _).step ((State.occasion_within _ _).step ?_ (by decide) (by decide)) (by decide) (by decide)
  exact .ite (((off _).next (State.alarm_within _ _ _ _)).widen (by decide)) (((off _).next (State.event_within _ _ _ _)).widen (by decide))

theorem State.setLand_within (l : Land) (f : FeedbackLand → FeedbackLand) : Within [.vehicle] [] s (s.setLand l f) :=
  s.withVehicle_within _

theorem State.readback_within (l : Land) : Within (.vehicle :: causeParts) causeObjects s (s.readback l) := by
  have marked : Within (.vehicle :: causeParts) causeObjects s (s.setLand l fun f => { f with mismatch := true }) :=
    (s.setLand_within _ _).widen (by decide)
  exact .ite ((marked.next (State.alarm_within _ _ _ _)).widen (by decide))
    (((marked.next (State.alarm_within _ _ _ _)).next (State.cause_within _ _)).widen (by decide))

theorem State.setPanel_within (f : Panel → Panel) : Within [.vehicle] [] s (s.setPanel f) := s.withVehicle_within _

theorem State.panelEdge_within : Within causeParts causeObjects s s.panelEdge := by
  have forced : Within causeParts causeObjects s (s.alarm Ev.panelForced 0 []) := (s.alarm_within _ _ _).widen (by decide)
  exact .ite (.ite ((forced.next (State.cause_within _ _)).widen (by decide)) forced) (.refl _ _ _)

theorem State.openPanel_within : Within (.vehicle :: causeParts) causeObjects s s.openPanel :=
  .ite ((s.setPanel_within _).widen (by decide))
    (((s.setPanel_within _).next (State.panelEdge_within _)).widen (by decide))

end

/-! ## What each command leaves alone -/

section
variable {s : State} {ps : List Part} {os : List Nat}

/-- A command that keeps the lock leaves what its meaning leaves. -/
theorem Leaves.of_keepLock {c : Instr} {t : State} (h : exec c s = keepLock s t) (hw : Within ps os s t) : Leaves ps os c s :=
  fun _ hu => keepLock_within hw (h ▸ hu)

/-- A host's command whose entry is neither sealed nor in need of a session. -/
theorem Leaves.of_hostWrite {c : Instr} {via : Via} {idx sub : Nat} {value : Bytes} {own : Own} {xs : List Nat} {qs : List Part}
    (h : exec c s = keepLock s (s.hostWrite via idx sub value own)) (hf : Fresh s via) (ho : Within qs xs s (own s).1)
    (hx : isSealed idx sub = false ∧ needsSession (entryRow? idx sub) = false)
    (hs : Part.net ∉ qs ∧ (∀ p ∈ .net :: .dict :: qs, p ∈ ps) ∧ ∀ o ∈ 0x2B30 :: xs, o ∈ os) : Leaves ps os c s := by
  obtain ⟨hnet, hp, ho'⟩ := hs
  exact .of_keepLock h ((State.hostWrite_plain_within hf hx.1 hx.2 ho hnet).mono hp ho')

theorem touchEvent_leaves (s : State) (e : Nat) : Leaves [.tilth, .ledger, .power, .logs, .dict] [0x2102, 0x2311] (.touchEvent e) s :=
  .of_keepLock rfl (.ite (((s.spendTouch_within _).next (State.touch_within _ _)).widen (by decide)) (.refl _ _ _))

theorem hostApproachRequest_leaves {via : Via} (hf : Fresh s via) (value : Bytes) :
    Leaves [.tilth, .net, .ledger, .logs, .dict] [0x2102, 0x2311, 0x2B30] (.hostApproachRequest via value) s :=
  .of_hostWrite rfl hf (s.touch_within _) (plainEntries (0x2310, 0) (by decide)) (by decide)

theorem roundEnd_leaves (s : State) (n : Nat) (answers : List Answer) (noise : RoundNoise) :
    Leaves (.badges :: .power :: endParts) (0x2102 :: 0x2440 :: 0x2460 :: 0x2903 :: endObjects) (.roundEnd n answers noise) s := by
  refine .of_keepLock rfl ?_
  split
  · exact .ite (s.closeRound_within _ _ _ _) (.refl _ _ _)
  · exact .refl _ _ _

theorem State.leaveAir_heard_within (s : State) (rx : Reception) : Within [.radio, .dict] [0x2440, 0x2460] s (s.leaveAir.heard rx) :=
  (s.leaveAir_within.next (State.heard_within _ _)).widen (by decide)

theorem badgeResponse_leaves (s : State) (n : Nat) (rx : Reception) (payload : Bytes) :
    Leaves endParts (0x2440 :: 0x2460 :: 0x2904 :: responseObjects) (.badgeResponse n rx payload) s := by
  refine .of_keepLock rfl ?_
  split
  · exact .ite (.refl _ _ _) (((s.leaveAir_heard_within _).next (State.response_within _ _ _ _ _ _)).widen (by decide))
  · exact .refl _ _ _

theorem lresponse_leaves (s : State) (n : Nat) (rx : Reception) (payload : Bytes) :
    Leaves endParts (0x2104 :: 0x2312 :: 0x2440 :: 0x2460 :: 0x2903 :: endObjects) (.lresponse n rx payload) s := by
  refine .of_keepLock rfl ?_
  split
  · exact .ite (.refl _ _ _) (((s.leaveAir_heard_within _).next (State.legacyResponse_within _ _ _ _ _)).widen (by decide))
  · exact .refl _ _ _

theorem vreport_leaves (s : State) (n : Nat) (report : ReportPacket) :
    Leaves endParts reportObjects (.vreport n report) s := by
  have heard : ∀ f, Within endParts reportObjects s ((s.leaveAir.heard report.rx).setBadge n f) :=
    fun f => ((s.leaveAir_heard_within _).next (State.setBadge_within _ _ _)).widen (by decide)
  have opened : ∀ (b : Badge) f k, Within endParts reportObjects s
      (if b.legacy = true then (s.leaveAir.heard report.rx).setBadge n f
       else ((s.leaveAir.heard report.rx).setBadge n f).gcmOpened k) := fun b f k =>
    .ite (heard f) (((heard f).next (State.gcmOpened_within _ _)).widen (by decide))
  refine .of_keepLock rfl ?_
  dsimp only
  split
  · refine .ite (.refl _ _ _) (.ite ((s.leaveAir_within.next (State.finish_within _ _ _)).widen (by decide)) ?_)
    split
    · exact State.takeReport_within s n (opened _ _ _) _ _
    · exact (((opened _ _ _).next (State.tagFailed_within _)).next (State.refuseBadge_within _ _ _)).widen (by decide)
  · exact .refl _ _ _

theorem badgeReplyMissing_leaves (s : State) (missed : MissedReply) :
    Leaves endParts (0x2460 :: endObjects) (.badgeReplyMissing missed) s := by
  refine .of_keepLock rfl ?_
  split
  · exact .ite (((s.leaveAir_within.next (State.count_within _ _ _ _)).next (State.retryBadge_within _ _ _)).widen (by decide))
      (.refl _ _ _)
  · exact .refl _ _ _

theorem badgeSessionTimeout_leaves (s : State) (n : Nat) : Leaves endParts endObjects (.badgeSessionTimeout n) s :=
  .of_keepLock rfl (.ite (s.finish_within _ _) (.refl _ _ _))

theorem approachTimeout_leaves (s : State) (n : Nat) : Leaves endParts endObjects (.approachTimeout n) s :=
  .of_keepLock rfl (.ite (s.finish_within _ _) (.refl _ _ _))

theorem synthCalibrate_leaves {via : Via} (hf : Fresh s via) (value : Bytes) :
    Leaves [.radio, .net, .dict] [0x2B30] (.synthCalibrate via value) s :=
  .of_hostWrite rfl hf (ownSynthCalibrate_within s value) (plainEntries (0x2420, 0) (by decide)) (by decide)

theorem rfTemperatureCheck_leaves (s : State) (tempDeci : Int) :
    Leaves [.radio, .ledger, .power, .hardpan, .logs, .dict] [0x2400, 0x2421] (.rfTemperatureCheck tempDeci) s :=
  .of_keepLock rfl (.ite (s.radioTemp_within _) (.refl _ _ _))

theorem synthCalStart_leaves (s : State) : Leaves [.radio] [] .synthCalStart s :=
  .of_keepLock rfl (.ite s.beginSynthCal_within (.refl _ _ _))

theorem rfSynthCalOverdue_leaves (s : State) : Leaves [.radio, .ledger, .logs] [] .rfSynthCalOverdue s := by
  refine .of_keepLock rfl ?_
  split
  · exact .ite (((s.withRadio_within _).next (State.event_within _ _ _ _)).widen (by decide)) (.refl _ _ _)
  · exact .refl _ _ _

theorem synthCalEnd_leaves (s : State) (subBands : List (Option (Nat × Nat))) (tempDeci : Int) :
    Leaves [.radio, .net, .ledger, .logs, .dict] [0x2404, 0x2421, 0x2B32] (.synthCalEnd subBands tempDeci) s := by
  have ended : ∀ f, Within [.radio, .net, .ledger, .logs, .dict] [0x2404, 0x2421, 0x2B32] s ((s.setSynth f).putNum 0x2421 5 0) := fun f =>
    ((s.setSynth_within _).next (State.putNum_within _ _ _ _)).widen (by decide)
  exact .of_keepLock rfl
    (.ite (.ite (((ended _).next (State.synthOk_within _ _ _)).widen (by decide))
      (((ended _).next (State.synthFail_within _)).widen (by decide))) (.refl _ _ _))

theorem rfCalRetry_leaves (s : State) : Leaves [.radio] [] .rfCalRetry s :=
  .of_keepLock rfl (.ite s.beginSynthCal_within (.refl _ _ _))

theorem rfTxDeferred_leaves (s : State) (n : Nat) : Leaves endParts (0x2460 :: endObjects) (.rfTxDeferred n) s :=
  .of_keepLock rfl (.ite (s.noLock_within _) (.refl _ _ _))

theorem rfLockFail_leaves (s : State) (n : Nat) : Leaves endParts (0x2460 :: endObjects) (.rfLockFail n) s :=
  .of_keepLock rfl (.ite (s.noLock_within _) (.refl _ _ _))

theorem backgroundCal_leaves (s : State) (which : BgCal) (passed : Bool) (tempDeci : Int) (found : BgFound) :
    Leaves [.radio, .ledger, .logs, .dict] [0x2404, 0x2423] (.backgroundCal which passed tempDeci found) s :=
  .of_keepLock rfl (.ite (s.bgRun_within _ _ _ _) (.refl _ _ _))

theorem cxgntWithdrawn_leaves (s : State) : Leaves endParts (0x2451 :: 0x2460 :: endObjects) .cxgntWithdrawn s :=
  .of_keepLock rfl (.ite ((s.loseGrant_within.next (State.maskRate_within _)).widen (by decide)) (.refl _ _ _))

theorem rfCoexStuck_leaves (s : State) : Leaves [.radio, .net, .ledger, .logs, .dict] [0x2B32] .rfCoexStuck s := by
  refine .of_keepLock rfl ?_
  split
  · exact .ite (((s.withRadio_within _).next (State.alarm_within _ _ _ _)).widen (by decide)) (.refl _ _ _)
  · exact .refl _ _ _

theorem rfCoexRearmed_leaves (s : State) : Leaves [.radio, .ledger, .logs] [] .rfCoexRearmed s :=
  .of_keepLock rfl (.ite (((s.withRadio_within _).next (State.event_within _ _ _ _)).widen (by decide)) (.refl _ _ _))

theorem rawStop_leaves {via : Via} (hf : Fresh s via) : Leaves [.radio, .net, .dict] [0x2451, 0x2B30] (.rawStop via) s :=
  .of_hostWrite rfl hf (ownRawStop_within s) (plainEntries (0x2450, 1) (by decide)) (by decide)

/-- Every raw command with an activity on the air is one write to 0x2450:01 (R149). -/
theorem rawCommand_leaves {via : Via} (hf : Fresh s via) {c : Instr} {value : Bytes} {r : RawCommand}
    (h : exec c s = keepLock s (s.hostWrite via 0x2450 1 value (ownRaw r))) :
    Leaves [.radio, .net, .ledger, .power, .logs, .dict] [0x2451, 0x2B30] c s :=
  .of_hostWrite h hf (ownRaw_within s r) (plainEntries (0x2450, 1) (by decide)) (by decide)

theorem rawCommandEnd_leaves (s : State) (o : RawEnd) :
    Leaves [.radio, .dict] [0x2440, 0x2441, 0x2451, 0x2452, 0x2460] (.rawCommandEnd o) s := by
  refine .of_keepLock rfl ?_
  split
  · exact .ite (.refl _ _ _) (.ite (.ite ((s.endRaw_within _).widen (by decide)) (.refl _ _ _))
      (.ite (s.rawResult_within _ _) (.refl _ _ _)))
  · exact .refl _ _ _

theorem toneMaskWrite_leaves {via : Via} (hf : Fresh s via) (value : Bytes) :
    Leaves [.net, .dict] [0x2501, 0x2B30] (.toneMaskWrite via value) s :=
  .of_hostWrite rfl hf (ownToneMask_within s value) (plainEntries (0x2501, 0) (by decide)) (by decide)

theorem sweepEnd_leaves (s : State) (n : Nat) (tones : List Tone) : Leaves [.tilth, .radio] [] (.sweepEnd n tones) s := by
  refine .of_keepLock rfl ?_
  split
  · exact .ite (((s.airNow_within.next (State.withRadio_within _ _)).next (State.setBadge_within _ _ _)).widen (by decide))
      (.refl _ _ _)
  · exact .refl _ _ _

theorem probeExchangeEnd_leaves (s : State) (n : Nat) (echoes : List (Option ProbeEcho)) (gaps : List Nat) :
    Leaves [.tilth, .radio, .dict] [0x2440, 0x2460, 0x2940] (.probeExchangeEnd n echoes gaps) s := by
  refine .of_keepLock rfl ?_
  split
  · exact .ite ((((((s.hearEchoes_within _).next (State.leaveAir_within _)).next
      (State.setBadge_within _ _ _)).next (State.await_within _ _)).next (State.advanceBadge_within _ _)).widen (by decide)) (.refl _ _ _)
  · exact .refl _ _ _

theorem fusion_leaves (s : State) (n : Nat) :
    Leaves [.tilth, .net, .ledger, .logs, .dict, .free] [0x2312, 0x2500, 0x2530, 0x2940, 0x2B32] (.fusion n) s := by
  refine .of_keepLock rfl ?_
  split
  · refine .ite (.refl _ _ _) ?_
    split
    · exact s.commitVerdict_within _ _ _ _ _
    · exact .refl _ _ _
  · exact .refl _ _ _

/-- A message delivered leaves what a host's access and the act on the message leave (R191, R192). -/
theorem State.deliver_within {act : State → State} (ha : ∀ u, Within ps os u (act u))
    (hs : (∀ p ∈ accessParts, p ∈ ps) ∧ ∀ o ∈ 0x2611 :: accessObjects, o ∈ os) (s : State) (port : Port) (c : Carrier)
    (msg : Bytes) : Within ps os s (s.deliver port c msg act) := by
  obtain ⟨hp, ho⟩ := hs
  cases c with
  | usdo v => exact State.hostWrite_access_within (by decide +kernel) (fun u => ha u) hp (fun o h => ho o (List.mem_cons_of_mem _ h)) s _ _
  | pdo =>
    have stored : Within ps os s (s.put 0x2611 1 (padTo 32 msg)) :=
      (s.put_within _ _ _).mono (fun p h => hp p (by revert p; decide)) (fun o h => ho o (by revert o; decide))
    exact .ite (stored.trans (ha _)) (.refl _ _ _)

theorem vehicleRequest_leaves (s : State) (port : Port) (c : Carrier) (msg : Bytes) :
    Leaves requestParts requestObjects (.vehicleRequest port c msg) s :=
  .of_keepLock rfl (.ite (State.deliver_within (fun u => u.request_within _ _ _) (by decide) s _ _ _) (.refl _ _ _))

theorem vehicleResponse_leaves (s : State) (port : Port) (c : Carrier) (msg : Bytes) :
    Leaves answerParts (0x2102 :: 0x2103 :: answerObjects) (.vehicleResponse port c msg) s :=
  .of_keepLock rfl (.ite (State.deliver_within (fun u => (u.respond_within _ _).widen (by decide)) (by decide) s _ _ _)
    (.refl _ _ _))

theorem vehicleResponseTimeout_leaves (s : State) (c : Carrier) :
    Leaves (.vehicle :: endParts) (0x2611 :: endObjects) (.vehicleResponseTimeout c) s := by
  refine .of_keepLock rfl ?_
  split
  · split
    · exact s.responseLate_within _ _ _
    · exact .refl _ _ _
  · exact .refl _ _ _

theorem hvilWithdrawal_leaves (s : State) :
    Leaves [.tilth, .lock, .vehicle, .net, .ledger, .logs, .dict] [0x2102, 0x2600, 0x2B32] .hvilWithdrawal s := by
  have spent : Within [.tilth, .lock, .vehicle, .net, .ledger, .logs, .dict] [0x2102, 0x2600, 0x2B32] s
      (if s.vehicle.hvilDue = true then { s with vehicle := { s.vehicle with hvilDue := false } } else s) :=
    .ite ((s.withVehicle_within _).widen (by decide)) (.refl _ _ _)
  intro t ht
  change execHvilWithdrawal s = _ at ht
  unfold execHvilWithdrawal at ht
  dsimp only at ht
  split at ht
  · cases ht
    exact ((spent.next (State.withhold_within _ _)).widen (by decide)).withPending _
  · exact keepLock_within spent ht

theorem readbackMismatch_leaves (s : State) (l : Land) : Leaves (.vehicle :: causeParts) causeObjects (.readbackMismatch l) s :=
  .of_keepLock rfl (.ite (s.readback_within _) (.refl _ _ _))

theorem latchPullInEnd_leaves (s : State) : Leaves [.latch] [] .latchPullInEnd s := by
  refine .of_keepLock rfl (.ite (.of_only (fun p => ?_) rfl) (.refl _ _ _))
  cases p with
  | latch => exact .inl (by decide)
  | _ => exact .inr rfl

theorem svpanelOpenEdge_leaves (s : State) : Leaves (.vehicle :: causeParts) causeObjects .svpanelOpenEdge s :=
  .of_keepLock rfl (.ite s.openPanel_within (.refl _ _ _))

theorem panelMasked_leaves (s : State) (cause : MaskCause) : Leaves [.vehicle, .ledger, .logs] [] (.panelMasked cause) s :=
  .of_keepLock rfl (.ite (((s.setPanel_within _).next (State.event_within _ _ _ _)).widen (by decide)) (.refl _ _ _))

theorem panelRearmed_leaves (s : State) : Leaves [.vehicle, .ledger, .logs] [] .panelRearmed s :=
  .of_keepLock rfl (.ite (((s.setPanel_within _).next (State.event_within _ _ _ _)).widen (by decide)) (.refl _ _ _))

theorem panelClosed_leaves (s : State) : Leaves [.vehicle] [] .panelClosed s :=
  .of_keepLock rfl (.ite (s.setPanel_within _) (.refl _ _ _))

/-- A frame widened to the parts and objects a statement lists. -/
theorem Leaves.widen {qs : List Part} {xs : List Nat} {c : Instr} (h : Leaves ps os c s)
    (hs : (∀ p ∈ ps, p ∈ qs) ∧ ∀ o ∈ os, o ∈ xs) : Leaves qs xs c s := fun t ht => (h t ht).widen hs

end

/-- Settles O58: for each command the frame of what its meaning runs, widened to the lists of the statement. -/
theorem badgeRadioRangingAndVehicleCommandsLeaveTheRest : Obligations.BadgeRadioRangingAndVehicleCommandsLeaveTheRest :=
  ⟨touchEvent_leaves,
   fun _ _ value hf => hostApproachRequest_leaves hf value,
   fun s n answers noise => (roundEnd_leaves s n answers noise).widen (by decide),
   fun s n rx payload => (badgeResponse_leaves s n rx payload).widen (by decide),
   fun s n rx payload => (lresponse_leaves s n rx payload).widen (by decide),
   fun s n report => (vreport_leaves s n report).widen (by decide),
   fun s missed => (badgeReplyMissing_leaves s missed).widen (by decide),
   fun s n => (badgeSessionTimeout_leaves s n).widen (by decide),
   fun s n => (approachTimeout_leaves s n).widen (by decide),
   fun _ _ value hf => synthCalibrate_leaves hf value,
   rfTemperatureCheck_leaves,
   synthCalStart_leaves,
   rfSynthCalOverdue_leaves,
   synthCalEnd_leaves,
   rfCalRetry_leaves,
   fun s n => (rfTxDeferred_leaves s n).widen (by decide),
   fun s n => (rfLockFail_leaves s n).widen (by decide),
   backgroundCal_leaves,
   fun s => (cxgntWithdrawn_leaves s).widen (by decide),
   rfCoexStuck_leaves,
   rfCoexRearmed_leaves,
   fun _ _ hf => rawStop_leaves hf,
   fun _ _ hf => rawCommand_leaves hf (r := .txCw) rfl,
   fun _ _ hf => rawCommand_leaves hf (r := .txPrbs) rfl,
   fun _ _ hf => rawCommand_leaves hf (r := .txPacket) rfl,
   fun _ _ hf => rawCommand_leaves hf (r := .rx) rfl,
   fun _ _ hf => rawCommand_leaves hf (r := .scan) rfl,
   fun _ _ hf => rawCommand_leaves hf (r := .capture) rfl,
   rawCommandEnd_leaves,
   fun _ _ value hf => toneMaskWrite_leaves hf value,
   sweepEnd_leaves,
   probeExchangeEnd_leaves,
   fusion_leaves,
   fun s port c msg => (vehicleRequest_leaves s port c msg).widen (by decide),
   fun s port c msg => (vehicleResponse_leaves s port c msg).widen (by decide),
   fun s c => (vehicleResponseTimeout_leaves s c).widen (by decide),
   hvilWithdrawal_leaves,
   fun s land => (readbackMismatch_leaves s land).widen (by decide),
   latchPullInEnd_leaves,
   fun s => (svpanelOpenEdge_leaves s).widen (by decide),
   panelMasked_leaves,
   panelRearmed_leaves,
   panelClosed_leaves⟩

end Sys2Proof.Machine

/-! ## The synthesiser's calibration (R134 to R137) -/

namespace Sys2Proof.Machine

section
variable {s : State} {temp : Int} {subBands : List (Option (Nat × Nat))}

/-- A command where none is pending and the radio is free starts the calibration at once (R136). -/
theorem ownSynthCalibrate_begins {value : Bytes} (hv : leNat value ≠ 0) (hr : s.radio.synth.running = false)
    (hc : s.radio.synth.commanded = false) (hd : s.radio.synth.due = none) (hf : s.synthFree = true) (hs : s.radioSessions = false) :
    ownSynthCalibrate value s = ((s.setSynth fun c => { c with commanded := true }).beginSynthCal, Rc.ok) := by
  have hfree : (s.setSynth fun c => { c with commanded := true }).synthFree = true := hf
  have hidle : (s.setSynth fun c => { c with commanded := true }).radioSessions = false := hs
  simp [ownSynthCalibrate, hv, hr, hc, hd, hfree, hidle]

theorem synthCalibrate_begins {via : Via} {value : Bytes} (h : Reached s via 0x2420 0 value) (hv : leNat value ≠ 0)
    (hr : s.radio.synth.running = false) (hc : s.radio.synth.commanded = false) (hd : s.radio.synth.due = none)
    (hf : s.synthFree = true) (hs : s.radioSessions = false) :
    Completes (.synthCalibrate via value) s fun t =>
      Answered t via 0x2420 Rc.ok
      ∧ t.radio.synth = { s.radio.synth with commanded := true, running := true, lastTry := s.tick } := by
  have hown := ownSynthCalibrate_begins hv hr hc hd hf hs
  obtain ⟨hanswer, hw⟩ := State.hostWrite_own h (ownSynthCalibrate value) (by rw [hown]; rfl)
  rw [hown] at hanswer hw
  exact .of_keepLock rfl ⟨hanswer, congrArg Radio.synth (hw.1.get .radio (by decide))⟩ fun _ h => h

@[simp] theorem State.dieReads_radio (s : State) (temp : Int) : (s.dieReads temp).radio = s.radio := rfl

/-- A die temperature away from the last calibration's starts a calibration on a radio that works and is not in use (R134, R135). -/
theorem State.radioTemp_begins (hm : (s.dieReads temp).synthMoved temp = true) (hd : s.radio.synth.due = none)
    (hr : s.radio.synth.running = false) (hc : s.radio.synth.commanded = false) (hf : s.radio.failed = false)
    (hu : s.radioInUse = false) : s.radioTemp temp = ((s.dieReads temp).putInt 0x2400 3 temp).beginSynthCal := by
  have hmoved : ((s.dieReads temp).putInt 0x2400 3 temp).synthMoved temp = true := hm
  have huse : ((s.dieReads temp).putInt 0x2400 3 temp).radioInUse = false := hu
  simp [State.radioTemp, State.synthDue, hmoved, huse, hd, hr, hc, hf]

theorem rfTemperatureCheck_begins (hrun : s.running = true) (hon : s.isOn .rfx = true)
    (hm : (s.dieReads temp).synthMoved temp = true) (hd : s.radio.synth.due = none) (hr : s.radio.synth.running = false)
    (hc : s.radio.synth.commanded = false) (hf : s.radio.failed = false) (hu : s.radioInUse = false) :
    Completes (.rfTemperatureCheck temp) s fun t =>
      t.radio.synth = { s.radio.synth with running := true, lastTry := s.tick } ∧ t.power.die = temp := by
  have hexec : exec (.rfTemperatureCheck temp) s = keepLock s (((s.dieReads temp).putInt 0x2400 3 temp).beginSynthCal) := by
    show execRfTemperatureCheck temp s = _
    simp [execRfTemperatureCheck, hrun, hon, State.radioTemp_begins hm hd hr hc hf hu]
  exact .of_keepLock hexec ⟨rfl, rfl⟩ fun _ h => h

theorem synthCalStart_begins (hf : s.synthFree = true)
    (hw : s.radio.synth.commanded = true ∨ (s.radio.synth.due ≠ none ∧ s.radioInUse = false ∧ s.asSeen.radioInUse = false)) :
    Completes (.synthCalStart) s fun t => t.radio.synth = { s.radio.synth with running := true, lastTry := s.tick } := by
  have hexec : exec .synthCalStart s = keepLock s s.beginSynthCal := by
    show execSynthCalStart s = _
    rcases hw with hc | ⟨hd, hu, hseen⟩
    · simp [execSynthCalStart, hf, hc]
    · simp [execSynthCalStart, hf, Option.isSome_iff_ne_none.2 hd, hu, hseen]
  exact .of_keepLock hexec rfl fun _ h => h

/-- The radio admission gate closed for a calibration that is overdue (R135). -/
def State.overdueSynth (s : State) : State :=
  { s with radio := { s.radio with synth := { s.radio.synth with overdue := true }, gateClosed := true } }

theorem rfSynthCalOverdue_closes {d : Tick} (hd : s.radio.synth.due = some d) (hu : s.radioInUse = true)
    (ho : s.radio.synth.overdue = false) (h : 20000 ≤ s.sinceTick d) :
    Completes (.rfSynthCalOverdue) s fun t =>
      t.radio.synth.overdue = true ∧ t.radio.gateClosed = true ∧ Logged s t Ev.rfSynthCalOverdue 0 (leBytes 6 d) := by
  have hexec : exec .rfSynthCalOverdue s = keepLock s (s.overdueSynth.event Ev.rfSynthCalOverdue 0 (leBytes 6 d)) := by
    show execRfSynthCalOverdue s = _
    simp [execRfSynthCalOverdue, hd, hu, ho, h, State.overdueSynth]
  exact .of_keepLock hexec ⟨rfl, rfl, s.overdueSynth.event_logged _ _ _⟩ fun _ h => h

/-- A calibration that has ended, before its outcome is met: none is running, commanded or due (R135, R137). -/
def State.synthLeft (s : State) : State :=
  (s.setSynth fun c => { c with running := false, commanded := false, due := none, overdue := false }).putNum 0x2421 5 0

/-- The end of a calibration, from seven ticks after its start: with all sixteen sub-bands locked, or failed (R133, R135, R137). -/
theorem exec_synthCalEnd (hr : s.radio.synth.running = true) (h7 : 7 ≤ s.sinceTick s.radio.synth.lastTry)
    (subBands : List (Option (Nat × Nat))) (temp : Int) :
    exec (.synthCalEnd subBands temp) s =
      keepLock s (if subBands.length = 16 ∧ subBands.all (·.isSome) = true then s.synthLeft.synthOk (subBands.filterMap id) temp
        else s.synthLeft.synthFail) := by
  show execSynthCalEnd subBands temp s = _
  simp [execSynthCalEnd, hr, h7, State.synthLeft]

/-- The result of a calibration that succeeded stands (R137). -/
theorem State.synthOk_result (s : State) (bands : List (Nat × Nat)) (temp : Int) :
    (s.synthOk bands temp).bytes 0x2421 1 = codeBytes Rc.ok := by
  unfold State.synthOk
  rw [(State.event_within _ _ _ _).2.bytes _ _ (by decide), (State.putNum_within _ _ _ _).2.bytes _ _ (by decide)]
  exact (State.bytes_put_ne _ _ _ _ (by decide)).trans (State.bytes_put _ _ _ _)

/-- The success of a calibration is logged with its temperature (R135). -/
theorem State.synthOk_logged (s : State) (bands : List (Nat × Nat)) (temp : Int) :
    Logged s (s.synthOk bands temp) Ev.rfSynthCalibrated 0 (intBytes 2 temp) := State.event_logged _ _ _ _

theorem synthCalEnd_succeeds (hr : s.radio.synth.running = true) (h7 : 7 ≤ s.sinceTick s.radio.synth.lastTry)
    (hl : subBands.length = 16) (hb : subBands.all (·.isSome) = true) :
    Completes (.synthCalEnd subBands temp) s fun t =>
      t.radio.synth = { s.radio.synth with running := false, commanded := false, due := none, overdue := false, temp := temp }
      ∧ t.radio.bands = subBands.filterMap id
      ∧ t.radio.failed = false
      ∧ t.radio.gateClosed = false
      ∧ t.bytes 0x2421 1 = codeBytes Rc.ok
      ∧ Logged s t Ev.rfSynthCalibrated 0 (intBytes 2 temp) := by
  have hexec := exec_synthCalEnd hr h7 subBands temp
  rw [if_pos ⟨hl, hb⟩] at hexec
  exact .of_keepLock hexec ⟨rfl, rfl, rfl, rfl, State.synthOk_result _ _ _, State.synthOk_logged s.synthLeft _ _⟩ fun _ h => h

/-- A calibration that failed leaves its result and a FAILED radio, the rest of which is as it was (R137). -/
theorem State.synthFail_leaves (s : State) :
    s.synthFail.radio = { s.radio with failed := true } ∧ s.synthFail.bytes 0x2421 1 = codeBytes Rc.rfCalFail := by
  unfold State.synthFail
  have hw := State.raise_within (({ s with radio := { s.radio with failed := true } } : State).putCode 0x2421 1 Rc.rfCalFail) 0xFF05
    Rc.rfCalFail 0
  exact ⟨hw.1.get .radio (by decide), (hw.2.bytes _ _ (by decide)).trans (State.bytes_put _ _ _ _)⟩

theorem synthCalEnd_fails (hr : s.radio.synth.running = true) (h7 : 7 ≤ s.sinceTick s.radio.synth.lastTry)
    (hb : subBands.all (·.isSome) = false) :
    Completes (.synthCalEnd subBands temp) s fun t =>
      t.radio.synth = { s.radio.synth with running := false, commanded := false, due := none, overdue := false }
      ∧ t.radio.bands = s.radio.bands
      ∧ t.radio.failed = true
      ∧ t.bytes 0x2421 1 = codeBytes Rc.rfCalFail := by
  have hexec := exec_synthCalEnd hr h7 subBands temp
  rw [if_neg (by simp [hb])] at hexec
  obtain ⟨hradio, hresult⟩ := s.synthLeft.synthFail_leaves
  exact .of_keepLock hexec ⟨by rw [hradio]; rfl, by rw [hradio]; rfl, by rw [hradio], hresult⟩ fun _ h => h

theorem rfCalRetry_begins (hf : s.radio.failed = true) (hon : s.isOn .rfx = true) (hr : s.radio.synth.running = false)
    (h10 : 10 * ticksPerSecond ≤ s.sinceTick s.radio.synth.lastTry) :
    Completes (.rfCalRetry) s fun t => t.radio.synth = { s.radio.synth with running := true, lastTry := s.tick } := by
  have hexec : exec .rfCalRetry s = keepLock s s.beginSynthCal := by
    show execRfCalRetry s = _
    simp [execRfCalRetry, hf, hon, hr, h10]
  exact .of_keepLock hexec rfl fun _ h => h

end

/-- Settles O10: each start is `beginSynthCal` where its conditions hold; an end is met by `synthOk` or `synthFail`. -/
theorem synthesiserIsCalibrated : Obligations.SynthesiserIsCalibrated :=
  ⟨fun _ _ _ => synthCalibrate_begins,
   fun _ _ => rfTemperatureCheck_begins,
   fun _ => synthCalStart_begins,
   fun _ _ => rfSynthCalOverdue_closes,
   fun _ _ _ => synthCalEnd_succeeds,
   fun _ _ _ => synthCalEnd_fails,
   fun _ => rfCalRetry_begins⟩

end Sys2Proof.Machine

/-! ## Raw commands (R149 to R151) -/

namespace Sys2Proof.Machine

section
variable {s : State} {via : Via} {c : RawCommand}

/-- The end of a raw command leaves none active, and its result (R149). -/
theorem State.endRaw_leaves (s : State) (code : Code) :
    (s.endRaw code).radio.raw = none ∧ (s.endRaw code).bytes 0x2451 1 = codeBytes code := ⟨rfl, State.bytes_put _ _ _ _⟩

/-! ### Acceptance -/

/-- A raw command that has become the active one and awaits lock (R149, R150). -/
def State.rawTaken (s : State) (c : RawCommand) : State :=
  { s with radio := { s.radio with raw := some c, rawFrom := s.tick, settling := true, rawStop := false } }

theorem ownRaw_accepted (h : s.rawRefused = none) (c : RawCommand) :
    ownRaw c s = (((s.rawTaken c).firstAccess .rfx 0).putCode 0x2451 1 Rc.pending, Rc.ok) := by
  unfold ownRaw
  rw [h]
  rfl

/-- Every raw command with an activity on the air is one write to 0x2450:01: accepted, it is the active one and PENDING (R149, R151). -/
theorem rawCommand_accepted {i : Instr} {value : Bytes} (hi : exec i s = keepLock s (s.hostWrite via 0x2450 1 value (ownRaw c)))
    (h : Reached s via 0x2450 1 value) (hr : s.rawRefused = none) :
    Completes i s fun t =>
      Answered t via 0x2450 Rc.ok
      ∧ t.radio.raw = some c
      ∧ t.radio.rawFrom = s.tick
      ∧ t.radio.settling = true
      ∧ t.bytes 0x2451 1 = codeBytes Rc.pending := by
  have hown := ownRaw_accepted hr c
  have hfirst := (s.rawTaken c).firstAccess_within .rfx 0
  obtain ⟨ha, hw⟩ := State.hostWrite_own h (ownRaw c) (by rw [hown]; exact hfirst.1.get .net (by decide))
  rw [hown] at ha hw
  have hradio : (s.hostWrite via 0x2450 1 value (ownRaw c)).radio = (s.rawTaken c).radio :=
    (hw.1.get .radio (by decide)).trans (hfirst.1.get .radio (by decide))
  exact .of_keepLock hi ⟨ha, by rw [hradio]; rfl, by rw [hradio]; rfl, by rw [hradio]; rfl,
    (hw.2.bytes _ _ (by decide)).trans (State.bytes_put _ _ _ _)⟩ fun _ h => h

/-! ### STOP -/

/-- STOP ends at once what it meets, but a packet transmission and a scan; where none is active, none is (R151). -/
theorem ownRawStop_ends (hm : rawAllowed s.mode = true) (hp : s.radio.raw ≠ some .txPacket) (hs : s.radio.raw ≠ some .scan) :
    ownRawStop s = (if s.radio.raw.isSome = true then s.endRaw Rc.ok else s.putCode 0x2451 1 Rc.ok, Rc.ok) := by
  cases hraw : s.radio.raw with
  | none => simp [ownRawStop, hm, hraw]
  | some c =>
    rw [hraw] at hp hs
    cases c with
    | txPacket => exact absurd rfl hp
    | scan => exact absurd rfl hs
    | txCw | txPrbs | rx | capture => simp [ownRawStop, hm, hraw, State.stopRaw]

theorem rawStop_ends (h : Reached s via 0x2450 1 [0]) (hm : rawAllowed s.mode = true) (hp : s.radio.raw ≠ some .txPacket)
    (hs : s.radio.raw ≠ some .scan) :
    Completes (.rawStop via) s fun t => Answered t via 0x2450 Rc.ok ∧ t.radio.raw = none ∧ t.bytes 0x2451 1 = codeBytes Rc.ok := by
  have hown := ownRawStop_ends hm hp hs
  have hleft : (ownRawStop s).1.radio.raw = none ∧ (ownRawStop s).1.bytes 0x2451 1 = codeBytes Rc.ok := by
    rw [hown]
    cases hraw : s.radio.raw with
    | none => exact ⟨hraw, State.bytes_put _ _ _ _⟩
    | some c => exact s.endRaw_leaves _
  obtain ⟨ha, hw⟩ := State.hostWrite_own h ownRawStop ((ownRawStop_within s).1.get .net (by decide))
  refine .of_keepLock rfl ⟨by rw [hown] at ha; exact ha, ?_, (hw.2.bytes _ _ (by decide)).trans hleft.2⟩ fun _ h => h
  exact (congrArg Radio.raw (hw.1.get .radio (by decide))).trans hleft.1

/-- A packet transmission or a scan under way is told to stop, and goes on to the end of its piece (R151). -/
theorem State.stopRaw_goesOn (hs : s.radio.settling = false) (hc : c = .txPacket ∨ c = .scan) :
    ∃ k, s.stopRaw c = { s with radio := { s.radio with rawStop := true, rawUntil := k } } := by
  rcases hc with rfl | rfl <;> exact ⟨_, by simp only [State.stopRaw, hs, Bool.false_eq_true, if_false]; rfl⟩

theorem rawStop_goesOn (h : Reached s via 0x2450 1 [0]) (hm : rawAllowed s.mode = true) (hraw : s.radio.raw = some c)
    (hc : c = .txPacket ∨ c = .scan) (hs : s.radio.settling = false) :
    Completes (.rawStop via) s fun t =>
      Answered t via 0x2450 Rc.ok ∧ t.radio.raw = some c ∧ t.radio.rawStop = true := by
  obtain ⟨k, hk⟩ := State.stopRaw_goesOn hs hc
  have hown : ownRawStop s = (({ s with radio := { s.radio with rawStop := true, rawUntil := k } } : State), Rc.ok) := by
    simp [ownRawStop, hm, hraw, hk]
  obtain ⟨ha, hw⟩ := State.hostWrite_own h ownRawStop (by rw [hown])
  rw [hown] at ha hw
  have hradio := hw.1.get .radio (by decide)
  exact .of_keepLock rfl ⟨ha, (congrArg Radio.raw hradio).trans hraw, congrArg Radio.rawStop hradio⟩ fun _ h => h

/-! ### The end -/

/-- A raw command whose pieces are through leaves the results of its kind (R149). -/
theorem exec_rawCommandEnd {o : RawEnd} (hraw : s.radio.raw = some c) (hs : s.radio.settling = false) (hstop : s.radio.rawStop = false)
    (hu : s.radio.rawUntil ≤ s.now) (ho : o ≠ .noLock) : exec (.rawCommandEnd o) s = keepLock s (s.rawResult c o) := by
  show execRawCommandEnd o s = _
  simp [execRawCommandEnd, hraw, hs, hstop, hu, ho]

theorem rawCommandEnd_txCw (hraw : s.radio.raw = some .txCw) (hs : s.radio.settling = false) (hstop : s.radio.rawStop = false)
    (hu : s.radio.rawUntil ≤ s.now) :
    Completes (.rawCommandEnd .done) s fun t => t.radio.raw = none ∧ t.bytes 0x2451 1 = codeBytes Rc.ok :=
  .of_keepLock (exec_rawCommandEnd hraw hs hstop hu (by simp)) (s.endRaw_leaves _) fun _ h => h

/-- The counts and the last payload of a reception at its end (R149). -/
def State.received (s : State) (packets crcFailures : Nat) (last : Bytes) : State :=
  (((s.endRaw Rc.ok).putNum 0x2451 3 (counterAfter 0x245103 2 0 packets)).putNum 0x2451 4
    (counterAfter 0x245104 2 0 crcFailures)).put 0x2451 5 (last.take 255)

theorem State.received_bytes (s : State) (packets crcFailures : Nat) (last : Bytes) :
    (s.received packets crcFailures last).bytes 0x2451 1 = codeBytes Rc.ok
      ∧ (s.received packets crcFailures last).bytes 0x2451 3 =
          (s.putNum 0x2451 3 (counterAfter 0x245103 2 0 packets)).bytes 0x2451 3
      ∧ (s.received packets crcFailures last).bytes 0x2451 5 = last.take 255 := by
  have h4 : ∀ (u : State) n i, entryKey 0x2451 i ≠ entryKey 0x2451 4 → (u.putNum 0x2451 4 n).bytes 0x2451 i = u.bytes 0x2451 i :=
    fun u n i hi => State.bytes_put_ne _ _ _ _ hi
  unfold State.received
  refine ⟨?_, ?_, State.bytes_put _ _ _ _⟩
  · rw [State.bytes_put_ne _ _ _ _ (by decide), h4 _ _ _ (by decide)]
    exact (State.bytes_put_ne _ _ _ _ (by decide)).trans (s.endRaw_leaves _).2
  · rw [State.bytes_put_ne _ _ _ _ (by decide), h4 _ _ _ (by decide), State.bytes_putNum, State.bytes_putNum]

/-- The packets of a reception are counted, and the last one's RSSI is kept where there was one (R130). -/
theorem State.rawResult_rx (s : State) (packets crcFailures : Nat) (last : Bytes) (rssi : Int) :
    s.rawResult .rx (.received packets crcFailures last rssi) =
      if packets = 0 then ((s.received packets crcFailures last).count 0x2460 2 packets).count 0x2460 3 crcFailures
      else (((s.received packets crcFailures last).count 0x2460 2 packets).count 0x2460 3 crcFailures).putInt 0x2440 1
        (clampRssi rssi) := rfl

/-- What the end of a reception leaves beside its results is the counts of the radio and the last RSSI (R130). -/
theorem State.rawResult_rx_within (s : State) (packets crcFailures : Nat) (last : Bytes) (rssi : Int) :
    Within [.dict] [0x2440, 0x2460] (s.received packets crcFailures last)
      (s.rawResult .rx (.received packets crcFailures last rssi)) := by
  have hcount := ((s.received packets crcFailures last).count_within 0x2460 2 packets).next (State.count_within _ 0x2460 3 crcFailures)
  rw [State.rawResult_rx]
  exact .ite (hcount.widen (by decide)) ((hcount.next (State.putInt_within _ _ _ _)).widen (by decide))

theorem State.rawResult_rx_rssi {packets : Nat} (h : packets ≠ 0) (s : State) (crcFailures : Nat) (last : Bytes) (rssi : Int) :
    (s.rawResult .rx (.received packets crcFailures last rssi)).bytes 0x2440 1 =
      (s.putInt 0x2440 1 (clampRssi rssi)).bytes 0x2440 1 := by
  rw [State.rawResult_rx, if_neg h]
  exact (State.bytes_put _ _ _ _).trans (State.bytes_put _ _ _ _).symm

theorem rawCommandEnd_rx {packets crcFailures : Nat} {last : Bytes} {rssi : Int} (hraw : s.radio.raw = some .rx)
    (hs : s.radio.settling = false) (hstop : s.radio.rawStop = false) (hu : s.radio.rawUntil ≤ s.now) :
    Completes (.rawCommandEnd (.received packets crcFailures last rssi)) s fun t =>
      t.radio.raw = none
      ∧ t.bytes 0x2451 1 = codeBytes Rc.ok
      ∧ t.bytes 0x2451 3 = (s.putNum 0x2451 3 (counterAfter 0x245103 2 0 packets)).bytes 0x2451 3
      ∧ t.bytes 0x2451 5 = (s.put 0x2451 5 (last.take 255)).bytes 0x2451 5
      ∧ (packets ≠ 0 → t.bytes 0x2440 1 = (s.putInt 0x2440 1 (clampRssi rssi)).bytes 0x2440 1) := by
  have hw := s.rawResult_rx_within packets crcFailures last rssi
  obtain ⟨hresult, hpackets, hlast⟩ := s.received_bytes packets crcFailures last
  refine .of_keepLock (exec_rawCommandEnd hraw hs hstop hu (by simp))
    ⟨?_, ?_, ?_, ?_, fun h => State.rawResult_rx_rssi h _ _ _ _⟩ fun _ h => h
  · exact congrArg Radio.raw (hw.1.get .radio (by decide))
  · exact (hw.2.bytes _ _ (by decide)).trans hresult
  · exact (hw.2.bytes _ _ (by decide)).trans hpackets
  · exact ((hw.2.bytes _ _ (by decide)).trans hlast).trans (State.bytes_put _ _ _ _).symm

/-- A raw command that ends with OK and one object stored beside 0x2451 (R129, R149). -/
theorem State.endRaw_put (s : State) {idx : Nat} (h : idx ≠ 0x2451) (v : Bytes) :
    ((s.endRaw Rc.ok).put idx 0 v).radio.raw = none ∧ ((s.endRaw Rc.ok).put idx 0 v).bytes 0x2451 1 = codeBytes Rc.ok
      ∧ ((s.endRaw Rc.ok).put idx 0 v).bytes idx 0 = v :=
  ⟨rfl, ((State.put_within _ _ _ _).2.bytes _ _ (by simpa using h.symm)).trans (s.endRaw_leaves _).2, State.bytes_put _ _ _ _⟩

theorem rawCommandEnd_scan {rssi : Bytes} (hraw : s.radio.raw = some .scan) (hs : s.radio.settling = false)
    (hstop : s.radio.rawStop = false) (hu : s.radio.rawUntil ≤ s.now) :
    Completes (.rawCommandEnd (.scanned rssi)) s fun t =>
      t.radio.raw = none ∧ t.bytes 0x2451 1 = codeBytes Rc.ok ∧ t.bytes 0x2452 0 = padTo 79 rssi :=
  .of_keepLock (exec_rawCommandEnd hraw hs hstop hu (by simp)) (s.endRaw_put (by decide) _) fun _ h => h

theorem rawCommandEnd_capture {samples : Bytes} (hraw : s.radio.raw = some .capture) (hs : s.radio.settling = false)
    (hstop : s.radio.rawStop = false) (hu : s.radio.rawUntil ≤ s.now) :
    Completes (.rawCommandEnd (.captured samples)) s fun t =>
      t.radio.raw = none ∧ t.bytes 0x2451 1 = codeBytes Rc.ok ∧ t.bytes 0x2441 0 = padTo 4096 samples :=
  .of_keepLock (exec_rawCommandEnd hraw hs hstop hu (by simp)) (s.endRaw_put (by decide) _) fun _ h => h

/-- A raw command without lock in the tick after its start ends with RF_LOCK_FAIL (R150). -/
theorem rawCommandEnd_noLock (hraw : s.radio.raw = some c) (hs : s.radio.settling = false) (hstop : s.radio.rawStop = false)
    (hn : s.now = s.radio.rawStart + 1) :
    Completes (.rawCommandEnd .noLock) s fun t => t.radio.raw = none ∧ t.bytes 0x2451 1 = codeBytes Rc.rfLockFail := by
  have hexec : exec (.rawCommandEnd .noLock) s = keepLock s (s.endRaw Rc.rfLockFail) := by
    show execRawCommandEnd .noLock s = _
    simp [execRawCommandEnd, hraw, hs, hstop, hn]
  exact .of_keepLock hexec (s.endRaw_leaves _) fun _ h => h

end

/-- Settles O12: acceptance by the one write of every raw command, STOP by what it meets, the end by the results of each kind. -/
theorem rawCommandsRunAndEnd : Obligations.RawCommandsRunAndEnd :=
  ⟨fun _ _ => rawCommand_accepted rfl,
   fun _ _ => rawCommand_accepted rfl,
   fun _ _ => rawCommand_accepted rfl,
   fun _ _ => rawCommand_accepted rfl,
   fun _ _ => rawCommand_accepted rfl,
   fun _ _ => rawCommand_accepted rfl,
   fun _ _ => rawStop_ends,
   fun _ _ _ => rawStop_goesOn,
   fun _ => rawCommandEnd_txCw,
   fun _ _ _ _ _ => rawCommandEnd_rx,
   fun _ _ => rawCommandEnd_scan,
   fun _ _ => rawCommandEnd_capture,
   fun _ _ => rawCommandEnd_noLock⟩

end Sys2Proof.Machine

/-! ## Booking RF for the step of a slot (R119, R138, R158) -/

namespace Sys2Proof.Machine

section
variable {s : State} {n : Nat}

/-- Past every booking RF is free at once. -/
theorem firstFree_of_past {booked : List (Nat × Nat)} {t : Nat} (h : ∀ b ∈ booked, b.2 < t) (ticks fuel : Nat) :
    firstFree booked ticks (fuel + 1) t = t := by
  have hnone : booked.find? (fun b => b.1 ≤ t + ticks && t ≤ b.2) = none :=
    List.find?_eq_none.2 fun b hb => by have := h b hb; simp; omega
  simp only [firstFree, hnone]

theorem State.rfFree_of_past {k : Nat} (h : ∀ b ∈ s.bookings n, b.2 < k) : s.rfFree n k = k := firstFree_of_past h _ _

/-- Another slot of the table is the same after one has changed. -/
theorem State.mem_numbered_setSlot {m : Nat} {sl : Slot} {f : Slot → Slot} (hm : m ≠ n)
    (h : (m, sl) ∈ (s.setSlot n f).tilth.numbered) : (m, sl) ∈ s.tilth.numbered := by
  simp only [Tilth.numbered, List.mem_map, Prod.exists, Prod.mk.injEq, List.mem_zipIdx_iff_getElem?, State.setSlot] at h ⊢
  obtain ⟨x, i, hx, rfl, rfl⟩ := h
  refine ⟨x, i, ?_, rfl, rfl⟩
  split at hx
  · exact hx
  · rwa [List.getElem?_modify_ne _ _ (by omega)] at hx

/-- Where the change of a slot keeps its approach, the ticks of every step are the same. -/
theorem State.rfTicks_setSlot {f : Slot → Slot} (hf : ∀ sl, (f sl).approach? = sl.approach?) (sl : Slot) :
    (s.setSlot n f).rfTicks sl = s.rfTicks sl := by
  have happroach : ∀ p, ((s.setSlot n f).slot p).approach? = (s.slot p).approach? := fun p => by
    by_cases hp : p = n
    · subst hp
      by_cases h0 : p = 0
      · simp [State.slot, h0]
      · cases hx : s.tilth.slots[p - 1]? <;> simp [State.slot, State.setSlot, h0, hx, hf]
    · rw [State.slot_setSlot_ne hp]
  have hcount : (s.setSlot n f).vectorCount sl = s.vectorCount sl := by simp only [State.vectorCount, happroach]
  simp only [State.rfTicks, hcount]
  rfl

/-- A change of a slot that keeps its approach adds nothing to the bookings its own step must pass. -/
theorem State.bookings_setSlot (s : State) (n : Nat) (f : Slot → Slot) (hf : ∀ sl, (f sl).approach? = sl.approach?) :
    (s.setSlot n f).bookings n ⊆ s.bookings n := by
  intro b hb
  simp only [State.bookings, List.mem_append, List.mem_filterMap, Prod.exists] at hb ⊢
  rcases hb with (hair | ⟨m, sl, hmem, hsome⟩) | ⟨m, sl, hmem, hsome⟩
  · exact .inl (.inl hair)
  · have hm : m ≠ n := by rintro rfl; simp at hsome
    rw [State.rfTicks_setSlot hf] at hsome
    exact .inl (.inr ⟨m, sl, State.mem_numbered_setSlot hm hmem, hsome⟩)
  · have hm : m ≠ n := by rintro rfl; split at hsome <;> simp at hsome
    exact .inr ⟨m, sl, State.mem_numbered_setSlot hm hmem, hsome⟩

end

/-! ## Packets that are sent again (R119, R138, R147) -/

section
variable {s : State} {n : Nat} {b : Badge}

theorem Slot.badge?_eq_some {sl : Slot} : sl.badge? = some b ↔ sl.work = .badge b := by
  unfold Slot.badge?; split <;> simp_all

/-- The deferrals of a slot's step are forgotten (R138). -/
def State.clearDeferrals (s : State) (n : Nat) : State := s.setSlot n fun sl => { sl with deferred := 0 }

theorem State.length_clearDeferrals (s : State) (n : Nat) : (s.clearDeferrals n).tilth.slots.length = s.tilth.slots.length :=
  s.length_setSlot _ _

theorem State.slot_clearDeferrals (h1 : 1 ≤ n) (hn : n ≤ s.tilth.slots.length) :
    (s.clearDeferrals n).slot n = { s.slot n with deferred := 0 } := State.slot_setSlot h1 hn _

theorem State.bookings_clearDeferrals (s : State) (n : Nat) : (s.clearDeferrals n).bookings n ⊆ s.bookings n :=
  s.bookings_setSlot n _ fun _ => rfl

/-- One more retry of a badge session is counted, its deferrals forgotten (R119, R138). -/
def State.countRetry (s : State) (n : Nat) : State := (s.setBadge n fun b => { b with retries := b.retries + 1 }).clearDeferrals n

theorem State.length_countRetry (s : State) (n : Nat) : (s.countRetry n).tilth.slots.length = s.tilth.slots.length :=
  (State.length_clearDeferrals _ _).trans (s.length_setSlot _ _)

theorem State.slot_countRetry (h1 : 1 ≤ n) (hn : n ≤ s.tilth.slots.length) (hb : (s.slot n).badge? = some b) :
    (s.countRetry n).slot n = { s.slot n with work := .badge { b with retries := b.retries + 1 }, deferred := 0 } := by
  unfold State.countRetry State.setBadge
  rw [State.slot_clearDeferrals h1 (by rwa [State.length_setSlot]), State.slot_setSlot h1 hn, Slot.badge?_eq_some.1 hb]

theorem State.bookings_countRetry (s : State) (n : Nat) : (s.countRetry n).bookings n ⊆ s.bookings n :=
  List.Subset.trans (State.bookings_clearDeferrals _ n)
    (s.bookings_setSlot n _ fun sl => by unfold Slot.approach?; cases h : sl.work <;> simp [h])

/-- The slot of a step made ready. -/
theorem State.slot_makeReady (h1 : 1 ≤ n) (hn : n ≤ s.tilth.slots.length) (e : Engine) (named : Option Nat) :
    (s.makeReady n e named).slot n =
      { s.slot n with state := .ready, engine := some e, named := named, readyAt := s.now, carry := 0 } := State.slot_setSlot h1 hn _

/-- A badge session with a retry left sends its packet again: the retry counted, its deferrals forgotten, its step ready for RF, and named
for the tick 4 on where RF is free then (R119). -/
theorem State.slot_retryBadge (h1 : 1 ≤ n) (hn : n ≤ s.tilth.slots.length) (hb : (s.slot n).badge? = some b)
    (hr : b.retries < s.seenNum 0x2305 2) :
    ∃ k, (s.retryBadge n b).slot n =
        { s.slot n with
          work := .badge { b with retries := b.retries + 1 }, deferred := 0, state := .ready, engine := some .rf, named := some k
          readyAt := s.now, carry := 0 }
      ∧ ((∀ x ∈ s.bookings n, x.2 < s.now + 4) → k = s.tickIn 4) := by
  have hretry : s.retryBadge n b = (s.countRetry n).nameRf n (s.now + 4) := if_pos hr
  refine ⟨s.tickIn ((s.countRetry n).rfFree n (s.now + 4) - s.now), ?_, fun hpast => ?_⟩
  · rw [hretry, State.nameRf, State.slot_makeReady h1 (by rwa [State.length_countRetry]), State.slot_countRetry h1 hn hb]
    rfl
  · rw [State.rfFree_of_past fun x hx => hpast x (s.bookings_countRetry n hx), Nat.add_sub_cancel_left]

/-- A packet of a badge session that was not sent is sent again (R49, R119, R138). -/
theorem State.retryStep_badge (hb : (s.slot n).badge? = some b) (hp : b.next = .packet) : s.retryStep n = s.retryBadge n b := by
  simp [State.retryStep, Slot.badge?_eq_some.1 hb, hp]

end

end Sys2Proof.Machine

/-! ## Transmissions without lock (R138, R166) -/

namespace Sys2Proof.Machine

section
variable {s : State} {n : Nat}

/-- A slot with an RF step in this tick is one of the table's, its session in flight. -/
theorem State.inFlight_of_transmits (h : s.transmits n = true) : (s.slot n).inFlight = true := by
  simp only [State.transmits, Bool.and_eq_true] at h
  exact State.inFlight_of_acts h.1.1.1

/-- A deferral counted, for the slot and for the radio, and logged (R138). -/
def State.countDeferral (s : State) (n : Nat) : State :=
  ((s.setSlot n fun sl => { sl with deferred := sl.deferred + 1 }).bump 0x2460 4).event Ev.rfTxDeferred n []

theorem State.noLock_defers (hs : (s.slot n).sweepsNext = false) (hd : (s.slot n).deferred < 8) :
    s.noLock n = (s.countDeferral n).makeReady n .rf (some (s.tickIn 1)) := by
  unfold State.noLock
  rw [hs, if_neg Bool.false_ne_true, if_pos hd]
  rfl

theorem rfTxDeferred_defers (ht : s.transmits n = true) (hs : (s.slot n).sweepsNext = false) (hd : (s.slot n).deferred < 8) :
    Completes (.rfTxDeferred n) s fun t =>
      (t.slot n).deferred = (s.slot n).deferred + 1
      ∧ (t.slot n).named = some (s.tickIn 1)
      ∧ (t.slot n).state = .ready
      ∧ t.bytes 0x2460 4 = (s.bump 0x2460 4).bytes 0x2460 4
      ∧ Logged s t Ev.rfTxDeferred n [] := by
  obtain ⟨h1, hn⟩ := State.slot_inRange (State.inFlight_of_transmits ht)
  have hexec : exec (.rfTxDeferred n) s = keepLock s ((s.countDeferral n).makeReady n .rf (some (s.tickIn 1))) := by
    show execRfTxDeferred n s = _
    simp [execRfTxDeferred, ht, hs, hd, State.noLock_defers hs hd]
  have hcounted : (s.countDeferral n).slot n = { s.slot n with deferred := (s.slot n).deferred + 1 } := State.slot_setSlot h1 hn _
  have hlength : (s.countDeferral n).tilth.slots.length = s.tilth.slots.length := s.length_setSlot _ _
  have hready := State.slot_makeReady (s := s.countDeferral n) h1 (hlength ▸ hn) .rf (some (s.tickIn 1))
  exact .of_keepLock hexec ⟨by rw [hready, hcounted], by rw [hready], by rw [hready], rfl,
    State.event_logged ((s.setSlot n fun sl => { sl with deferred := sl.deferred + 1 }).bump 0x2460 4) _ _ _⟩ fun _ h => h

theorem exec_rfLockFail (ht : s.transmits n = true) (h : (s.slot n).sweepsNext = true ∨ 8 ≤ (s.slot n).deferred) :
    exec (.rfLockFail n) s = keepLock s (s.noLock n) := by
  show execRfLockFail n s = _
  simp [execRfLockFail, ht, h]

/-- A packet that has been deferred eight times is sent again as for a missing reply (R119, R138). -/
theorem rfLockFail_retries {b : Badge} (ht : s.transmits n = true) (hd : 8 ≤ (s.slot n).deferred) (hb : (s.slot n).badge? = some b)
    (hp : b.next = .packet) (hr : b.retries < s.seenNum 0x2305 2) :
    Completes (.rfLockFail n) s fun t =>
      (t.slot n).deferred = 0
      ∧ (t.slot n).badge? = some { b with retries := b.retries + 1 }
      ∧ ((s.bookings n).all (fun x => x.2 < s.now + 4) = true → (t.slot n).named = some (s.tickIn 4)) := by
  obtain ⟨h1, hn⟩ := State.slot_inRange (State.inFlight_of_transmits ht)
  have hs : (s.slot n).sweepsNext = false := by simp [Slot.sweepsNext, hb, hp]
  have hb' : ((s.clearDeferrals n).slot n).badge? = some b := by rw [State.slot_clearDeferrals h1 hn]; exact hb
  have hnoLock : s.noLock n = (s.clearDeferrals n).retryBadge n b := by
    rw [← State.retryStep_badge hb' hp]
    simp [State.noLock, State.clearDeferrals, hs, Nat.not_lt.2 hd]
  obtain ⟨k, hslot, hk⟩ := State.slot_retryBadge h1 (by rwa [State.length_clearDeferrals]) hb' hr
  have hexec := exec_rfLockFail ht (.inr hd)
  rw [hnoLock] at hexec
  refine .of_keepLock hexec ⟨by rw [hslot], by rw [hslot]; rfl, fun hall => ?_⟩ fun _ h => h
  rw [hslot, hk fun x hx => of_decide_eq_true (List.all_eq_true.1 hall x (s.bookings_clearDeferrals n hx))]
  rfl

/-- A sweep without lock ends its session (R166). -/
theorem rfLockFail_endsSweep (ht : s.transmits n = true) (hs : (s.slot n).sweepsNext = true) :
    Completes (.rfLockFail n) s fun t => Ended t n Rc.rfLockFail := by
  have hexec := exec_rfLockFail ht (.inl hs)
  rw [State.noLock, if_pos hs] at hexec
  exact .of_keepLock hexec (State.finish_closes (State.inFlight_of_transmits ht) _) fun _ h => h

end

end Sys2Proof.Machine

/-! ## Background calibrations (R128, R144, R145) -/

namespace Sys2Proof.Machine

section
variable {s : State} {which : BgCal} {passed : Bool} {temp : Int} {found : BgFound}

/-- A background calibration is recorded: its tick and temperature, the end of its gap, and the count (R144, R145). -/
def State.bgNoted (s : State) (b : BgCal) (temp : Int) : State :=
  ({ s with radio :=
    { s.radio with
      bg := s.radio.bg.modify (bgPlace b) fun _ => { lastRun := s.tick, lastTemp := temp, forced := false }
      bgUntil := s.now + bgTicks b
      lastAir := s.tickIn (bgTicks b) } }).bump 0x2423 0

theorem State.bgRun_eq (s : State) (b : BgCal) (passed : Bool) (temp : Int) (f : BgFound) :
    s.bgRun b passed temp f =
      if passed = true then (s.bgNoted b temp).bgKeep b f else (s.bgNoted b temp).event Ev.rfBgCalFail (bgPlace b) [] := rfl

/-- What a calibration found leaves the records of the calibrations alone. -/
theorem State.bgKeep_records (s : State) (b : BgCal) (f : BgFound) :
    (s.bgKeep b f).radio.bg = s.radio.bg ∧ (s.bgKeep b f).radio.bgUntil = s.radio.bgUntil := by
  cases b <;> exact ⟨rfl, rfl⟩

theorem State.bgRun_records (s : State) (b : BgCal) (passed : Bool) (temp : Int) (f : BgFound) :
    (s.bgRun b passed temp f).radio.bg = (s.bgNoted b temp).radio.bg
      ∧ (s.bgRun b passed temp f).radio.bgUntil = s.now + bgTicks b := by
  rw [State.bgRun_eq]
  split
  · exact State.bgKeep_records _ _ _
  · exact ⟨rfl, rfl⟩

theorem exec_backgroundCal (hg : s.bgGap = true) (hd : (bgOrder.find? fun b => s.bgDue b temp) = some which) (passed : Bool)
    (found : BgFound) : exec (.backgroundCal which passed temp found) s = keepLock s (s.bgRun which passed temp found) := by
  show execBackgroundCal which passed temp found s = _
  simp [execBackgroundCal, hg, hd]

theorem backgroundCal_recorded (hg : s.bgGap = true) (hd : (bgOrder.find? fun b => s.bgDue b temp) = some which)
    (hl : bgPlace which < s.radio.bg.length) :
    Completes (.backgroundCal which passed temp found) s fun t =>
      t.bg which = { lastRun := s.tick, lastTemp := temp, forced := false } ∧ t.radio.bgUntil = s.now + bgTicks which := by
  obtain ⟨hbg, huntil⟩ := s.bgRun_records which passed temp found
  have hnoted : (s.bgNoted which temp).radio.bg =
      s.radio.bg.modify (bgPlace which) fun _ => { lastRun := s.tick, lastTemp := temp, forced := false } := rfl
  exact .of_keepLock (exec_backgroundCal hg hd passed found) ⟨by simp [State.bg, hbg, hnoted, hl], huntil⟩ fun _ h => h

/-- An IQ image calibration that passed keeps the gain, the phase and the image rejection it found (R128). -/
theorem backgroundCal_keepsIqImage (hg : s.bgGap = true) (hd : (bgOrder.find? fun b => s.bgDue b temp) = some which)
    (hi : which = .iqImage) (hp : passed = true) :
    Completes (.backgroundCal which passed temp found) s fun t =>
      t.radio.iqGain = found.gain
      ∧ t.radio.iqPhase = found.phase
      ∧ t.bytes 0x2404 1 = (s.putNum 0x2404 1 (min 80 found.imageDb)).bytes 0x2404 1 := by
  subst hi hp
  have hrejection : ((s.bgNoted .iqImage temp).bgKeep .iqImage found).bytes 0x2404 1 =
      (s.putNum 0x2404 1 (min 80 found.imageDb)).bytes 0x2404 1 :=
    (State.bytes_putNum _ _ _ _).trans (State.bytes_putNum _ _ _ _).symm
  exact .of_keepLock (exec_backgroundCal hg hd true found) ⟨rfl, rfl, hrejection⟩ fun _ h => h

end

end Sys2Proof.Machine

/-! ## Coexistence (R147, R148) -/

namespace Sys2Proof.Machine

/-- An EMCY enters at most one event, of a queue that overflows (R350, R359). -/
theorem State.raise_logs (s : State) (error code : Code) (subject : Nat) :
    (s.raise error code subject).logs = s.logs ∨ ∃ entry, (s.raise error code subject).logs = s.logs.enter entry := by
  unfold State.raise State.raiseOn
  dsimp only
  split
  · exact .inr ⟨_, rfl⟩
  · exact .inl rfl

/-- An event that raises an EMCY is in the log, under the next number (R350, R441). -/
theorem State.alarm_logged (s : State) (code : Code) (subject : Nat) (data : Bytes) :
    Logged s (s.alarm code subject data) code subject data := by
  refine ⟨s.logs.nextEvent, s.eventFlags code false true, Nat.le_refl _, ?_⟩
  unfold State.alarm
  rcases State.raise_logs (s.logWith code subject data false true) (blockError code) code subject with h | ⟨entry, h⟩
  · rw [h, State.logWith_logs]
    exact List.mem_cons_self
  · rw [h, State.logWith_logs]
    simp [Logs.enter]

section
variable {s : State}

/-- The withdrawals that are counted leave what is on the air (R148). -/
theorem State.maskRate_air (s : State) : s.maskRate.radio.raw = s.radio.raw ∧ s.maskRate.radio.air = s.radio.air := by
  unfold State.maskRate
  split <;> exact ⟨rfl, rfl⟩

/-- A sweep or its probes that lose the grant they need end their session (R147, R166). -/
theorem State.loseAir_ends {a : Air} (hg : a.needsGrant = true) (hk : a.kind ≠ .packet) :
    s.loseAir a = s.leaveAir.finish a.slot Rc.rfCoexDenied := by
  unfold State.loseAir
  rw [hg]
  cases hkind : a.kind with
  | packet => exact absurd hkind hk
  | sweep | probes => rfl

theorem exec_cxgntWithdrawn (h : s.cxHeeded = true) : exec .cxgntWithdrawn s = keepLock s s.loseGrant.maskRate := by
  show execCxgntWithdrawn s = _
  simp [execCxgntWithdrawn, h]

theorem cxgntWithdrawn_endsRaw {c : RawCommand} (h : s.cxHeeded = true) (hr : s.radio.raw = some c) (hc : c.sends = true)
    (hs : s.radio.settling = false) :
    Completes (.cxgntWithdrawn) s fun t => t.radio.raw = none ∧ t.bytes 0x2451 1 = codeBytes Rc.rfCoexDenied := by
  have hlost : s.loseGrant = s.endRaw Rc.rfCoexDenied := by simp [State.loseGrant, hr, hs, hc]
  have hexec := exec_cxgntWithdrawn h
  rw [hlost] at hexec
  exact .of_keepLock hexec ⟨(State.maskRate_air _).1, ((State.maskRate_within _).2.bytes _ _ (by decide)).trans (s.endRaw_leaves _).2⟩
    fun _ h => h

theorem cxgntWithdrawn_endsSweep {a : Air} (h : s.cxHeeded = true) (hr : s.radio.raw = none) (ha : s.radio.air = some a)
    (hg : a.needsGrant = true) (hk : a.kind ≠ .packet) (hf : (s.slot a.slot).inFlight = true) :
    Completes (.cxgntWithdrawn) s fun t => Ended t a.slot Rc.rfCoexDenied ∧ t.radio.air = none := by
  have hlost : s.loseGrant = s.leaveAir.finish a.slot Rc.rfCoexDenied := by
    simp only [State.loseGrant, hr, ha, State.loseAir_ends hg hk]
  have hexec := exec_cxgntWithdrawn h
  rw [hlost] at hexec
  have hended : Ended (s.leaveAir.finish a.slot Rc.rfCoexDenied) a.slot Rc.rfCoexDenied := State.finish_closes (s := s.leaveAir) hf _
  have hair : (s.leaveAir.finish a.slot Rc.rfCoexDenied).radio.air = none := State.finish_keepsAirFree s.leaveAir _ _ rfl
  have htilth := (State.maskRate_within (s.leaveAir.finish a.slot Rc.rfCoexDenied)).1.get .tilth (by decide)
  refine .of_keepLock hexec ⟨?_, (State.maskRate_air _).2.trans hair⟩ fun _ h => h
  unfold Ended at hended ⊢
  rwa [State.slot_congr htilth]

/-- CXGNT masked as stuck since this tick (R148). -/
def State.stickCx (s : State) : State := { s with radio := { s.radio with cxMask := .stuck, cxMaskedAt := s.tick } }

/-- CXGNT armed again (R148). -/
def State.armCx (s : State) : State := { s with radio := { s.radio with cxMask := .armed, cxHeld := none } }

theorem rfCoexStuck_masks {d : Tick} (hd : s.radio.cxHeld = some d) (h : s.cxHeeded = true)
    (h2 : 2 * ticksPerSecond < s.sinceTick d) :
    Completes (.rfCoexStuck) s fun t =>
      t.radio.cxMask = .stuck ∧ t.radio.cxMaskedAt = s.tick ∧ Logged s t Ev.rfCoexStuck 0 [] := by
  have hexec : exec .rfCoexStuck s = keepLock s (s.stickCx.alarm Ev.rfCoexStuck 0 []) := by
    show execRfCoexStuck s = _
    simp [execRfCoexStuck, hd, h, h2, State.stickCx]
  have hradio := (s.stickCx.alarm_within Ev.rfCoexStuck 0 []).1.get .radio (by decide)
  exact .of_keepLock hexec ⟨congrArg Radio.cxMask hradio, congrArg Radio.cxMaskedAt hradio, s.stickCx.alarm_logged _ _ _⟩
    fun _ h => h

theorem rfCoexRearmed_arms (h : maskEnds s.radio.cxMask (s.sinceTick s.radio.cxMaskedAt) = true) :
    Completes (.rfCoexRearmed) s fun t =>
      t.radio.cxMask = .armed ∧ t.radio.cxHeld = none ∧ Logged s t Ev.rfCoexRearmed 0 [] := by
  have hexec : exec .rfCoexRearmed s = keepLock s (s.armCx.event Ev.rfCoexRearmed 0 []) := by
    show execRfCoexRearmed s = _
    simp [execRfCoexRearmed, h, State.armCx]
  exact .of_keepLock hexec ⟨rfl, rfl, s.armCx.event_logged _ _ _⟩ fun _ h => h

end

/-- Settles O11: a step without lock by what `noLock` does with it, a background calibration by its record, CXGNT by what loses the grant
and by the mask of the wire. -/
theorem transmissionsDeferAndCoexist : Obligations.TransmissionsDeferAndCoexist :=
  ⟨fun _ _ => rfTxDeferred_defers,
   fun _ _ _ => rfLockFail_retries,
   fun _ _ => rfLockFail_endsSweep,
   fun _ _ _ _ _ => backgroundCal_recorded,
   fun _ _ _ _ _ hg hd _ => backgroundCal_keepsIqImage hg hd,
   fun _ _ => cxgntWithdrawn_endsRaw,
   fun _ _ => cxgntWithdrawn_endsSweep,
   fun _ _ => rfCoexStuck_masks,
   fun _ => rfCoexRearmed_arms⟩

end Sys2Proof.Machine

/-! ## The log keeps what was just entered (R350, R441) -/

namespace Sys2Proof.Machine

section
variable {s t u : State} {j k : Nat}

/-- At most k events have been entered in the log since a state (R441). -/
def Enters (k : Nat) (s t : State) : Prop := ∃ es : List Bytes, es.length ≤ k ∧ t.logs = es.foldl Logs.enter s.logs

theorem Enters.of_logs (h : t.logs = s.logs) : Enters 0 s t := ⟨[], Nat.le_refl 0, h⟩

theorem Enters.of_within {ps : List Part} {os : List Nat} (h : Within ps os s t) (hl : Part.logs ∉ ps) : Enters 0 s t :=
  .of_logs (h.1.get .logs hl)

theorem Enters.mono (h : Enters j s t) (hk : j ≤ k) : Enters k s t := by
  obtain ⟨es, hl, h⟩ := h
  exact ⟨es, Nat.le_trans hl hk, h⟩

theorem Enters.trans (h : Enters j s t) (h' : Enters k t u) : Enters (j + k) s u := by
  obtain ⟨es, hl, h⟩ := h
  obtain ⟨es', hl', h'⟩ := h'
  exact ⟨es ++ es', by rw [List.length_append]; omega, by rw [h', h, List.foldl_append]⟩

theorem State.alarm_enters (s : State) (code : Code) (subject : Nat) (data : Bytes) : Enters 2 s (s.alarm code subject data) := by
  have hlog : Enters 1 s (s.logWith code subject data false true) := ⟨[_], Nat.le_refl 1, State.logWith_logs _ _ _ _ _ _⟩
  refine hlog.trans (k := 1) ?_
  rcases State.raise_logs (s.logWith code subject data false true) (blockError code) code subject with h | ⟨entry, h⟩
  · exact (Enters.of_logs h).mono (Nat.zero_le 1)
  · exact ⟨[entry], Nat.le_refl 1, h⟩

/-- An event moves back one place with each that is entered after it, while the log has room for it (R441). -/
theorem Logs.enters_keeps {e : Nat × Bytes} (es : List Bytes) (l : Logs) (h : l.events[j]? = some e) (hj : j + es.length < 1024) :
    (es.foldl Logs.enter l).events[j + es.length]? = some e := by
  induction es generalizing l j with
  | nil => exact h
  | cons x es ih =>
    rw [List.length_cons] at hj ⊢
    have hnext : (l.enter x).events[j + 1]? = some e := by
      rw [Logs.enter, List.getElem?_take_of_lt (by omega), List.getElem?_cons_succ]
      exact h
    rw [List.foldl_cons, show j + (es.length + 1) = j + 1 + es.length by omega]
    exact ih _ hnext (by omega)

/-- An event is still in the log after fewer than 1,024 others (R441). -/
theorem State.event_enters_logged {code : Code} {subject : Nat} {data : Bytes} (h : Enters k (s.event code subject data) t)
    (hk : k < 1024) : Logged s t code subject data := by
  obtain ⟨es, hl, hlogs⟩ := h
  have hkept := Logs.enters_keeps (j := 0) es (s.event code subject data).logs rfl (by omega)
  rw [← hlogs] at hkept
  exact ⟨s.logs.nextEvent, s.eventFlags code false false, Nat.le_refl _, List.mem_of_getElem? hkept⟩

/-- An event is one of a state's tick where the clocks and the event log are as in that state (R441). -/
theorem Logged.of_within {ps : List Part} {os : List Nat} {code : Code} {subject : Nat} {data : Bytes} (h : Logged t u code subject data)
    (hw : Within ps os s t) (hp : Part.tilth ∉ ps ∧ Part.power ∉ ps ∧ Part.logs ∉ ps) : Logged s u code subject data := by
  have htilth : t.tilth = s.tilth := hw.1.get .tilth hp.1
  have hpower : t.power = s.power := hw.1.get .power hp.2.1
  have hlogs : t.logs = s.logs := hw.1.get .logs hp.2.2
  unfold Logged State.eventEntry State.rtcSeconds at h ⊢
  rwa [State.tick_congr htilth, hpower, hlogs] at h

end

end Sys2Proof.Machine

/-! ## A badge session in its slot, and its approach (R42, R104) -/

namespace Sys2Proof.Machine

section
variable {s : State} {n p : Nat} {a : Approach} {b : Badge}

theorem State.badgeIn_eq_some {ok : BadgePhase → Bool} :
    s.badgeIn n ok = some (p, a, b) ↔
      (s.slot n).badge? = some b ∧ (s.slot n).parent = some p ∧ (s.slot n).acts = true ∧ ok b.phase = true
        ∧ (s.slot p).approach? = some a := by
  unfold State.badgeIn
  cases hb : (s.slot n).badge? with
  | none => simp
  | some b' =>
    cases hp : (s.slot n).parent with
    | none => simp
    | some p' =>
      by_cases h : ((s.slot n).acts && ok b'.phase) = true
      · simp only [h, if_true, Option.map_eq_some_iff, Option.some.injEq, Prod.mk.injEq]
        rw [Bool.and_eq_true] at h
        constructor
        · rintro ⟨_, ha, rfl, rfl, rfl⟩
          exact ⟨rfl, rfl, h.1, h.2, ha⟩
        · rintro ⟨rfl, rfl, -, -, ha⟩
          exact ⟨a, ha, rfl, rfl, rfl⟩
      · simp only [h, Bool.false_eq_true, if_false, Option.some.injEq]
        rw [Bool.and_eq_true] at h
        constructor
        · exact fun hf => nomatch hf
        · rintro ⟨rfl, rfl, hact, hok, -⟩
          exact absurd ⟨hact, hok⟩ h

/-- A slot runs one session: a badge session is in another slot than an approach. -/
theorem State.ne_of_badge_approach (hb : (s.slot n).badge? = some b) (ha : (s.slot p).approach? = some a) : p ≠ n := by
  rintro rfl
  have hw := (Slot.badge?_eq_some.1 hb).symm.trans (Slot.approach?_eq_some.1 ha)
  exact nomatch hw

/-- A slot that runs an approach is one of the table's. -/
theorem State.slot_inRange_of_approach (ha : (s.slot p).approach? = some a) : 1 ≤ p ∧ p ≤ s.tilth.slots.length := by
  unfold State.slot at ha
  by_cases h0 : p = 0
  · simp [h0, Slot.approach?, Slot.empty] at ha
  · by_cases hl : p - 1 < s.tilth.slots.length
    · omega
    · simp [h0, hl, Slot.approach?, Slot.empty] at ha

theorem State.slot_setBadge (h1 : 1 ≤ n) (hn : n ≤ s.tilth.slots.length) (hb : (s.slot n).badge? = some b) (f : Badge → Badge) :
    (s.setBadge n f).slot n = { s.slot n with work := .badge (f b) } := by
  unfold State.setBadge
  rw [State.slot_setSlot h1 hn, Slot.badge?_eq_some.1 hb]

theorem State.length_setBadge (s : State) (n : Nat) (f : Badge → Badge) :
    (s.setBadge n f).tilth.slots.length = s.tilth.slots.length := s.length_setSlot _ _

theorem State.length_setBadge_await (s : State) (n : Nat) (f : Badge → Badge) :
    ((s.setBadge n f).await n).tilth.slots.length = s.tilth.slots.length := (State.length_setSlot _ _ _).trans (s.length_setBadge n f)

/-- A badge session changed, which then waits for what comes from outside. -/
theorem State.slot_setBadge_await (h1 : 1 ≤ n) (hn : n ≤ s.tilth.slots.length) (hb : (s.slot n).badge? = some b) (f : Badge → Badge) :
    ((s.setBadge n f).await n).slot n =
      { s.slot n with work := .badge (f b), state := .waitingEvent, engine := none, named := none, carry := 0 } := by
  unfold State.await
  rw [State.slot_setSlot h1 (by rwa [State.length_setBadge]), State.slot_setBadge h1 hn hb]

/-- Another slot than that of a badge session changed. -/
theorem State.slot_setBadge_await_ne (h : p ≠ n) (f : Badge → Badge) : ((s.setBadge n f).await n).slot p = s.slot p :=
  (State.slot_setSlot_ne h _).trans (State.slot_setSlot_ne h _)

theorem State.slot_makeReadyOutside (h1 : 1 ≤ n) (hn : n ≤ s.tilth.slots.length) (e : Engine) (named : Option Nat) :
    (s.makeReadyOutside n e named).slot n =
      { s.slot n with state := .ready, engine := some e, named := named, readyAt := s.now + 1, carry := 0 } := by
  unfold State.makeReadyOutside
  rw [State.slot_setSlot h1 (by unfold State.makeReady; rwa [State.length_setSlot]), State.slot_makeReady h1 hn]

theorem State.slot_makeReadyOutside_ne (h : p ≠ n) (e : Engine) (named : Option Nat) :
    (s.makeReadyOutside n e named).slot p = s.slot p := (State.slot_setSlot_ne h _).trans (State.slot_setSlot_ne h _)

end

end Sys2Proof.Machine

/-! ## The sweep and the probe exchange (R161 to R163) -/

namespace Sys2Proof.Machine

section
variable {s : State} {n p : Nat} {a : Approach} {b : Badge} {x : Air}

/-- The probe exchange has followed a sweep on the air, to end 246 ticks after the sweep began (R162). -/
def State.probesFollow (s : State) (x : Air) : State :=
  { s.airNow with radio :=
    { s.airNow.radio with air := some { x with kind := .probes, txEnd := x.from_ + 246, close := x.from_ + 246 } } }

theorem exec_sweepEnd (hb : s.badgeIn n (· == .confirmed) = some (p, a, b)) (hx : s.radio.air = some x) (hn : x.slot = n)
    (hk : x.kind = .sweep) (hc : s.now = x.close) (tones : List Tone) :
    exec (.sweepEnd n tones) s =
      keepLock s ((s.probesFollow x).setBadge n fun b' => { b' with sweep := some (s.sweepResult b tones) }) := by
  show execSweepEnd n tones s = _
  simp only [execSweepEnd, hb, hx]
  exact congrArg (keepLock s) (if_pos ⟨hn, hk, hc⟩)

theorem sweepEnd_keeps (tones : List Tone) (hb : s.badgeIn n (· == .confirmed) = some (p, a, b)) (hx : s.radio.air = some x)
    (hn : x.slot = n) (hk : x.kind = .sweep) (hc : s.now = x.close) :
    Completes (.sweepEnd n tones) s fun t =>
      (t.slot n).badge? = some { b with sweep := some (s.sweepResult b tones) }
      ∧ t.radio.air = some { x with kind := .probes, txEnd := x.from_ + 246, close := x.from_ + 246 } := by
  obtain ⟨hbadge, -, hact, -, -⟩ := State.badgeIn_eq_some.1 hb
  obtain ⟨h1, hl⟩ := State.slot_inRange (State.inFlight_of_acts hact)
  have hslot := State.slot_setBadge (s := s.probesFollow x) h1 hl hbadge fun b' => { b' with sweep := some (s.sweepResult b tones) }
  refine .of_keepLock (exec_sweepEnd hb hx hn hk hc tones) ⟨?_, rfl⟩ fun _ h => h
  rw [hslot]
  rfl

/-- The echoes are heard, the radio is off the air, and their result is the badge's, which waits (R162, R163). -/
def State.probesDone (s : State) (n : Nat) (b : Badge) (echoes : List (Option ProbeEcho)) (gaps : List Nat) : State :=
  ((s.hearEchoes echoes).leaveAir.setBadge n fun b' => { b' with probes := some (probeResult b echoes gaps) }).await n

theorem exec_probeExchangeEnd (hb : s.badgeIn n (· == .confirmed) = some (p, a, b)) (hx : s.radio.air = some x) (hn : x.slot = n)
    (hk : x.kind = .probes) (hc : s.now = x.close) (echoes : List (Option ProbeEcho)) (gaps : List Nat) :
    exec (.probeExchangeEnd n echoes gaps) s = keepLock s ((s.probesDone n b echoes gaps).advanceBadge n) := by
  show execProbeExchangeEnd n echoes gaps s = _
  simp only [execProbeExchangeEnd, hb, hx]
  exact congrArg (keepLock s) (if_pos ⟨hn, hk, hc⟩)

/-- After the probes the badge session waits in its slot, confirmed, and its approach is as it was. -/
theorem State.probesDone_slots (hb : s.badgeIn n (· == .confirmed) = some (p, a, b)) (echoes : List (Option ProbeEcho))
    (gaps : List Nat) :
    (s.probesDone n b echoes gaps).badgeIn n (· == .confirmed) = some (p, a, { b with probes := some (probeResult b echoes gaps) })
      ∧ ((s.probesDone n b echoes gaps).slot n).state = .waitingEvent := by
  obtain ⟨hbadge, hparent, hact, hphase, happ⟩ := State.badgeIn_eq_some.1 hb
  obtain ⟨h1, hl⟩ := State.slot_inRange (State.inFlight_of_acts hact)
  have htilth : (s.hearEchoes echoes).leaveAir.tilth = s.tilth :=
    ((s.hearEchoes_within echoes).next (State.leaveAir_within _)).1.get .tilth (by decide)
  unfold State.probesDone
  generalize (s.hearEchoes echoes).leaveAir = u at htilth
  rw [← State.slot_congr htilth] at hbadge hparent happ
  have hslot := State.slot_setBadge_await h1 (htilth ▸ hl) hbadge fun b' => { b' with probes := some (probeResult b echoes gaps) }
  have hother := State.slot_setBadge_await_ne (s := u) (State.ne_of_badge_approach hbadge happ)
    fun b' => { b' with probes := some (probeResult b echoes gaps) }
  exact ⟨State.badgeIn_eq_some.2 ⟨by rw [hslot]; rfl, by rw [hslot]; exact hparent, by rw [hslot]; rfl, hphase, by rwa [hother]⟩,
    by rw [hslot]⟩

/-- While no vector operation of its approach has ended, a badge waits (R114). -/
theorem State.advanceBadge_waits (hb : s.badgeIn n (· == .confirmed) = some (p, a, b)) (hv : a.vectors = .none ∨ a.vectors = .running) :
    s.advanceBadge n = s := by
  unfold State.advanceBadge
  rcases hv with hv | hv <;> simp only [hb, hv, ite_self]

theorem probeExchangeEnd_keeps (echoes : List (Option ProbeEcho)) (gaps : List Nat)
    (hb : s.badgeIn n (· == .confirmed) = some (p, a, b)) (hx : s.radio.air = some x) (hn : x.slot = n) (hk : x.kind = .probes)
    (hc : s.now = x.close) (hv : a.vectors = .none ∨ a.vectors = .running) :
    Completes (.probeExchangeEnd n echoes gaps) s fun t =>
      (t.slot n).badge? = some { b with probes := some (probeResult b echoes gaps) }
      ∧ (t.slot n).state = .waitingEvent
      ∧ t.radio.air = none := by
  obtain ⟨hdone, hstate⟩ := State.probesDone_slots hb echoes gaps
  have hexec := exec_probeExchangeEnd hb hx hn hk hc echoes gaps
  rw [State.advanceBadge_waits hdone hv] at hexec
  exact .of_keepLock hexec ⟨(State.badgeIn_eq_some.1 hdone).1, hstate, rfl⟩ fun _ h => h

end

end Sys2Proof.Machine

/-! ## Fusion and the tone mask (R156, R165, R166) -/

namespace Sys2Proof.Machine

section
variable {s : State} {n p : Nat} {a : Approach} {b : Badge} {m : Measured}

/-- The verdict is what its entry reads (R166). -/
theorem State.writeVerdict_verdict (s : State) (m : Measured) (v : Code) (credId : Nat) :
    (s.writeVerdict m v credId).bytes 0x2500 1 = codeBytes v := by
  unfold State.writeVerdict
  dsimp only
  rw [(State.bump_within _ _ _).2.bytes _ _ (by decide), (State.used_within _ _).2.bytes _ _ List.not_mem_nil]
  cases m.lf <;>
    simp (disch := decide) only [State.putNum, State.putInt, State.putCode, State.bytes_put_ne, State.bytes_put]

theorem State.suspect_enters (s : State) (n credId : Nat) : Enters 2 s (s.suspect n credId) :=
  ((Enters.of_within (s.bump_within 0x2312 4) (by decide)).trans (State.alarm_enters _ _ _ _)).mono (by decide)

/-- A suspicion raises at most its own event and that of an EMCY queue that overflows; another refusing verdict raises none (R112, R115). -/
theorem State.disqualify_enters (s : State) (n p : Nat) (a : Approach) (b : Badge) (v : Code) : Enters 2 s (s.disqualify n p a b v) := by
  have noted : ∀ f, Enters 0 s ((s.bump 0x2312 3).setApproach p f) := fun f =>
    .of_within ((s.bump_within _ _).next (State.setApproach_within _ _ _)) (by decide)
  unfold State.disqualify
  dsimp only
  split
  · exact (((noted _).trans (State.suspect_enters _ _ _)).trans
      (.of_within ((State.setBadge_within _ _ _).next (State.beginThrough_within _ _ _)) (by decide))).mono (by decide)
  · exact ((noted _).trans (.of_within (State.sendOutcome_within _ _ _ _ _ _ _) (by decide))).mono (by decide)

/-- The verdict has been written to its entries and logged with the credential (R165, R166). -/
def State.verdictLogged (s : State) (n : Nat) (b : Badge) (m : Measured) : State :=
  (s.writeVerdict m (s.fuse m) b.credId).event Ev.verdictCommitted n (verdictData m (s.fuse m) b.credId)

theorem State.commitVerdict_eq (s : State) (n p : Nat) (a : Approach) (b : Badge) (m : Measured) :
    s.commitVerdict n p a b m =
      if s.fuse m = Rc.ok then (s.verdictLogged n b m).qualify n p a b else (s.verdictLogged n b m).disqualify n p a b (s.fuse m) := rfl

/-- What follows a verdict leaves its entries alone, and enters at most two more events. -/
theorem State.commitVerdict_follows (s : State) (n p : Nat) (a : Approach) (b : Badge) (m : Measured) :
    (s.commitVerdict n p a b m).bytes 0x2500 1 = (s.verdictLogged n b m).bytes 0x2500 1
      ∧ Enters 2 (s.verdictLogged n b m) (s.commitVerdict n p a b m) := by
  rw [State.commitVerdict_eq]
  split
  · have hw := (s.verdictLogged n b m).qualify_within n p a b
    exact ⟨hw.2.bytes _ _ (by decide), (Enters.of_within hw (by decide)).mono (by decide)⟩
  · exact ⟨((s.verdictLogged n b m).disqualify_within n p a b _).2.bytes _ _ (by decide), State.disqualify_enters _ _ _ _ _ _⟩

theorem State.commitVerdict_verdict (s : State) (n p : Nat) (a : Approach) (b : Badge) (m : Measured) :
    (s.commitVerdict n p a b m).bytes 0x2500 1 = codeBytes (s.fuse m) :=
  calc (s.commitVerdict n p a b m).bytes 0x2500 1
    _ = (s.verdictLogged n b m).bytes 0x2500 1 := (s.commitVerdict_follows n p a b m).1
    _ = (s.writeVerdict m (s.fuse m) b.credId).bytes 0x2500 1 := (State.event_within _ _ _ _).2.bytes _ _ List.not_mem_nil
    _ = codeBytes (s.fuse m) := s.writeVerdict_verdict m _ b.credId

theorem State.commitVerdict_logged (s : State) (n p : Nat) (a : Approach) (b : Badge) (m : Measured) :
    Logged s (s.commitVerdict n p a b m) Ev.verdictCommitted n (verdictData m (s.fuse m) b.credId) :=
  (State.event_enters_logged (s.commitVerdict_follows n p a b m).2 (by decide)).of_within (s.writeVerdict_within _ _ _) (by decide)

/-- A qualifying badge outside a credential test is noted, and its approach's next step is ready for the processor, visible two ticks on
(R36, R115). -/
theorem State.qualify_proposes (h1 : 1 ≤ n) (hn : n ≤ s.tilth.slots.length) (hb : (s.slot n).badge? = some b)
    (hp : (s.slot p).approach? = some a) (ht : a.test = false) :
    ((s.qualify n p a b).slot n).badge? = some { b with phase := .qualified }
      ∧ ((s.qualify n p a b).slot p).engine = some .cpu
      ∧ ((s.qualify n p a b).slot p).readyAt = s.now + 1 := by
  have hne := State.ne_of_badge_approach hb hp
  obtain ⟨hp1, hpl⟩ := State.slot_inRange_of_approach hp
  unfold State.qualify
  simp only [ht, Bool.false_eq_true, if_false]
  generalize hu : s.setApproach p _ = u
  have hlength : u.tilth.slots.length = s.tilth.slots.length := by rw [← hu, State.length_setApproach]
  have hslot : u.slot n = s.slot n := by rw [← hu]; exact State.slot_setSlot_ne hne.symm _
  have hnow : u.now = s.now := by rw [← hu]; rfl
  have hready := State.slot_makeReadyOutside (s := (u.setBadge n fun b => { b with phase := .qualified }).await n) hp1
    (by rwa [State.length_setBadge_await, hlength]) .cpu none
  refine ⟨?_, by rw [hready], by rw [hready, ← hnow]; rfl⟩
  rw [State.slot_makeReadyOutside_ne hne.symm, State.slot_setBadge_await h1 (by rwa [hlength]) (by rwa [hslot])]
  rfl

theorem exec_fusion {w : SweepResult} {q : ProbeResult}
    (hm : m = { sweep := w, probes := q, lf := s.lfPosition a b, port := point (s.seenBytes 0x2511 (b.sweepPort + 1)) })
    (hb : s.badgeIn n (· == .reported) = some (p, a, b)) (hf : (s.slot n).fuses = true) (hw : b.sweep = some w)
    (hq : b.probes = some q) : exec (.fusion n) s = keepLock s (s.commitVerdict n p a b m) := by
  show execFusion n s = _
  simp only [execFusion, hb, hf, hw, hq, Bool.not_true, Bool.false_eq_true, if_false, hm]

theorem fusion_commits {w : SweepResult} {q : ProbeResult}
    (hm : m = { sweep := w, probes := q, lf := s.lfPosition a b, port := point (s.seenBytes 0x2511 (b.sweepPort + 1)) })
    (hb : s.badgeIn n (· == .reported) = some (p, a, b)) (hf : (s.slot n).fuses = true) (hw : b.sweep = some w)
    (hq : b.probes = some q) :
    Completes (.fusion n) s fun t =>
      t.bytes 0x2500 1 = codeBytes (s.fuse m)
      ∧ Logged s t Ev.verdictCommitted n (verdictData m (s.fuse m) b.credId)
      ∧ (s.fuse m = Rc.ok → a.test = false → (t.slot n).badge? = some { b with phase := .qualified }
          ∧ (t.slot p).engine = some .cpu ∧ (t.slot p).readyAt = s.now + 1) := by
  obtain ⟨hbadge, -, hact, -, happ⟩ := State.badgeIn_eq_some.1 hb
  obtain ⟨h1, hl⟩ := State.slot_inRange (State.inFlight_of_acts hact)
  have htilth : (s.verdictLogged n b m).tilth = s.tilth :=
    ((s.writeVerdict_within _ _ _).next (State.event_within _ _ _ _)).1.get .tilth (by decide)
  refine .of_keepLock (exec_fusion hm hb hf hw hq)
    ⟨State.commitVerdict_verdict _ _ _ _ _ _, State.commitVerdict_logged _ _ _ _ _ _, fun hok ht => ?_⟩ fun _ h => h
  have hproposes := State.qualify_proposes (s := s.verdictLogged n b m) h1 (htilth ▸ hl)
    (by rwa [State.slot_congr htilth]) (by rwa [State.slot_congr htilth]) ht
  rw [State.commitVerdict_eq, if_pos hok]
  rwa [show (s.verdictLogged n b m).now = s.now from congrArg Tilth.executed htilth] at hproposes

theorem toneMaskWrite_stores {via : Via} {value : Bytes} (h : Reached s via 0x2501 0 value) (h70 : 70 ≤ maskCount value)
    (h79 : leNat value < 2 ^ 79) :
    Completes (.toneMaskWrite via value) s fun t => Answered t via 0x2501 Rc.ok ∧ t.bytes 0x2501 0 = value := by
  have hown : ownToneMask value s = (s.put 0x2501 0 value, Rc.ok) := if_neg (by omega)
  obtain ⟨ha, hw⟩ := State.hostWrite_own h (ownToneMask value) ((ownToneMask_within s value).1.get .net (by decide))
  rw [hown] at ha hw
  exact .of_keepLock rfl ⟨ha, (hw.2.bytes _ _ (by decide)).trans (State.bytes_put _ _ _ _)⟩ fun _ h => h

end

/-- Settles O13: the sweep and the probes by what their ends leave of the badge's slot and of the air, FUSION by the verdict it writes and
logs and by what a qualifying badge asks of its approach, the tone mask by its host's write. -/
theorem rangingIsFusedIntoAVerdict : Obligations.RangingIsFusedIntoAVerdict :=
  ⟨fun _ _ tones _ _ _ _ => sweepEnd_keeps tones,
   fun _ _ echoes gaps _ _ _ _ => probeExchangeEnd_keeps echoes gaps,
   fun _ _ _ _ _ _ _ _ => fusion_commits,
   fun _ _ _ => toneMaskWrite_stores⟩

end Sys2Proof.Machine
